-- ==== Sys2Proof/Word.lean ====
section
/-! DEFINITION. The words of the part (bytes, ticks, the tenths clock), the numbered objects of
00_scope.md section 5.1, and the two table operations that every block uses. -/

namespace Sys2Proof

/-- One byte on the console port. -/
abbrev Byte := BitVec 8
/-- The tick count (R164): 0 to 4,294,967,295, then 0. -/
abbrev Tick := BitVec 32
/-- The tenths clock (R165): 0 to 16,777,215, then 0. -/
abbrev Clock := BitVec 24

/-- Levers L1 to L40: `l` stands for the lever numbered `l + 1`. -/
abbrev LeverId := Fin 40
/-- Track circuits T1 to T32: `t` stands for the circuit numbered `t + 1`. -/
abbrev TrackId := Fin 32
/-- Holds H0 to H71. -/
abbrev HoldId := Fin 72
/-- Train records 1 to 12: `r` stands for the record numbered `r + 1`. -/
abbrev TrainId := Fin 12
/-- Code table entries C0 to C31. -/
abbrev CodeId := Fin 32
/-- Slots 0 to 191 of the slot map. -/
abbrev SlotId := Fin 192
/-- Attention sources 1 to 14: `i` stands for the source numbered `i + 1`. -/
abbrev SourceId := Fin 14

/-- The three block lines. -/
inductive Line
  | a | b | c
  deriving DecidableEq, Repr, Inhabited

/-- One value for each of the three lines. -/
structure PerLine (α : Type) where
  a : α
  b : α
  c : α
  deriving DecidableEq, Repr

namespace PerLine

/-- The same value on every line. -/
def same {α : Type} (v : α) : PerLine α := ⟨v, v, v⟩

/-- The value of line `x`. -/
def get {α : Type} (p : PerLine α) : Line → α
  | .a => p.a
  | .b => p.b
  | .c => p.c

/-- The value of line `x` replaced. -/
def set {α : Type} (p : PerLine α) (x : Line) (v : α) : PerLine α :=
  match x with
  | .a => { p with a := v }
  | .b => { p with b := v }
  | .c => { p with c := v }

/-- A function applied on every line. -/
def map {α β : Type} (f : α → β) (p : PerLine α) : PerLine β := ⟨f p.a, f p.b, f p.c⟩

end PerLine

/-- Entry `i` of a table replaced by `f` of itself. -/
def tableUpdate {α : Type} {n : Nat} (v : Vector α n) (i : Fin n) (f : α → α) : Vector α n :=
  v.set i.val (f v[i]) i.isLt

/-- The table whose entry `i` is `f i`. -/
def tabulate {α : Type} {n : Nat} (f : Fin n → α) : Vector α n := Vector.ofFn f

/-- `f` applied for every index of a table, in ascending order. -/
def forEach {σ : Type} (n : Nat) (f : Fin n → σ → σ) (s : σ) : σ :=
  (List.finRange n).foldl (fun s i => f i s) s

/-- `f` applied for the lines A, B, C in that order. -/
def forEachLine {σ : Type} (f : Line → σ → σ) (s : σ) : σ := f .c (f .b (f .a s))

/-- The lowest index that satisfies a test. -/
def lowest {n : Nat} (p : Fin n → Bool) : Option (Fin n) := (List.finRange n).find? p

/-- How many indices satisfy a test. -/
def countOf {n : Nat} (p : Fin n → Bool) : Nat := (List.finRange n).countP p

end Sys2Proof
end

