-- ==== Sys2Proof/Config.lean ====
section
/-! DEFINITION. What the spec leaves open: constants without a body, so that nothing can be proved
of a value the spec does not give. `draw` is State's counter `draws`, which every answered request
advances, so that each answer draws afresh. -/

namespace Sys2Proof.Config

/-- The byte at place `pos` of a reply's data where R187 to R198 give the field no value: the bytes
of an absent stamp or description, and those of a fixed pattern field after the pattern's groups.
DESIGN CHOICE, safe: free (log 11). -/
opaque fill (draw pos : Nat) : Byte

/-- The place carried by the CONDITION that refuses OUT_OF_SECTION at orders 6 and 7 of R157, for
which no rule gives a number. DESIGN CHOICE, safe: free (log 12). -/
opaque outOfSectionPlace (draw order : Nat) : Byte

/-- Whether a retirement that follows a change of the same record within one event is a second cause
of TRAIN, so that MULTIPLE is set by it (R145 step 5, R159, R161). DESIGN CHOICE, safe: an open
constant (log 13). -/
opaque retirementIsSecondCause : Bool

/-- Whether an adoption of CLEAR that finds the line's outbound half already ACCEPTED is irregular. The
table of R151 has no row for it; it can arise when the OUT instrument left CLEAR while the line was
SUSPENDED. DESIGN CHOICE, safe: an open constant (log 21). -/
opaque clearWhileAcceptedIrregular : Bool

end Sys2Proof.Config
end

