-- ==== Sys2Proof/Syntax.lean ====
section
/-! DEFINITION. The commands of the part: one constructor of `Instr` for each row of
spec/opcode_table.json, with the row's operands. The requests of R180 carry their arguments as the
numbers of R189, so that the ranges their rules refuse can be written down. -/

namespace Sys2Proof

/-- The levels of one line's inputs at a tick: BELL_IN (R102) and the two detector bits of INSTR_IN
(R127, R199). -/
structure LineInputs where
  bellIn : Bool
  instrP : Bool
  instrN : Bool
  deriving DecidableEq, Repr

/-- The two halves of a train record (R142). -/
inductive Half
  | inbound | outbound
  deriving DecidableEq, Repr

/-- A condition as an argument (R187): a form and a number. -/
structure RawCondition where
  form : Nat
  number : Nat
  deriving DecidableEq, Repr

/-- A slot entry as an argument (R187, R189). -/
structure RawSlot where
  inKind : Nat
  inNumber : Nat
  outKind : Nat
  outNumber : Nat
  deriving DecidableEq, Repr

/-- A points entry as an argument (R189). -/
structure RawPoints where
  lever : Nat
  position : Nat
  circuit : Nat
  deriving DecidableEq, Repr

/-- A clearing-hold entry as an argument (R189). -/
structure RawClearing where
  lever : Nat
  position : Nat
  deriving DecidableEq, Repr

/-- The four characters of a train description (R142, R189). -/
structure Description where
  c1 : Byte
  c2 : Byte
  c3 : Byte
  c4 : Byte
  deriving DecidableEq, Repr

/-- The nine arguments of LOAD_TIMING, in the order of R181. -/
structure RawTiming where
  framePeriod : Nat
  minBeat : Nat
  maxBeat : Nat
  groupGap : Nat
  endGap : Nat
  on : Nat
  intra : Nat
  group : Nat
  emergency : Nat
  deriving DecidableEq, Repr

/-- The commands: the 61 rows of spec/opcode_table.json, in the table's order. -/
inductive Instr
  /-- FULL_RESET (R185) -/
  | fullReset
  /-- TICK (R164), with the inputs of lines A, B and C at the tick -/
  | tick (a b c : LineInputs)
  /-- TENTH_BOUNDARY (R165) -/
  | tenthBoundary
  /-- FRAME_OPEN (R7) -/
  | frameOpen
  /-- FRAME_JUDGE (R9): bit k is the level of SDI at the middle of slot k -/
  | frameJudge (sdi : BitVec 192)
  /-- PICKUP_EXPIRY (R23): every pickup timer that is due -/
  | pickupExpiry
  /-- STROKE_TIMEOUT (R49) -/
  | strokeTimeout (lever : LeverId)
  /-- APPROACH_EXPIRY (R88) -/
  | approachExpiry (lever : LeverId)
  /-- EMERGENCY_EXPIRY (R97) -/
  | emergencyExpiry (lever : LeverId)
  /-- CODE_END (R106) -/
  | codeEnd (line : Line)
  /-- SEND_COMPLETION (R116) -/
  | sendCompletion (line : Line)
  /-- BLANKING_END (R117), with the level of BELL_IN at the tick at which sampling resumes -/
  | blankingEnd (line : Line) (bellIn : Bool)
  /-- REPETITION_DEADLINE_EXPIRY (R121) -/
  | repetitionDeadlineExpiry (line : Line)
  /-- INSTRUMENT_SETTLING (R127) -/
  | instrumentSettling (line : Line)
  /-- QUIET_WAIT_END (R133) -/
  | quietWaitEnd (line : Line)
  /-- LAPSE_EXPIRY (R159) -/
  | lapseExpiry (train : TrainId) (half : Half)
  /-- PORT_SELECTION (R176), with the bits sampled on MOSI in the selection, in their order -/
  | portSelection (mosi : List Bool)
  /-- PORT_DESELECTION (R177) -/
  | portDeselection
  /-- LOAD_SLOTS (R4) -/
  | loadSlots (frameLength firstSlot : Nat) (entries : List RawSlot)
  /-- LOAD_LEVER (R37) -/
  | loadLever (lever kind timeout : Nat) (leaveNormal leaveReverse : List RawCondition)
  /-- LOAD_ROUTE (R80) -/
  | loadRoute (lever : Nat) (points : List RawPoints) (circuits approach : List Nat)
      (approachTime : Nat)
  /-- LOAD_TRACK (R19) -/
  | loadTrack (circuit delay : Nat) (neighbours : List Nat)
  /-- LOAD_LINE (R124) -/
  | loadLine (line starter entryCircuit home berth : Nat) (conditions : List RawCondition)
      (clearing : List RawClearing) (lapse : Nat)
  /-- LOAD_CODE (R107) -/
  | loadCode (entry : Nat) (pattern mask : List Nat) (meaning trainClass sendable : Nat)
  /-- LOAD_TIMING (R181) -/
  | loadTiming (values : RawTiming)
  /-- LOAD_ATTENTION (R173) -/
  | loadAttention (source enable priority : Nat)
  /-- SCAN_START (R15) -/
  | scanStart
  /-- SCAN_STOP (R16) -/
  | scanStop
  /-- CLOSING_FRAME (R16) -/
  | closingFrame
  /-- CLOSING_SYNC (R16) -/
  | closingSync
  /-- ENTER_SERVICE (R182) -/
  | enterService
  /-- RESTART (R184) -/
  | restart
  /-- READ_STATUS (R186) -/
  | readStatus
  /-- READ_LEVER (R59) -/
  | readLever (lever : Nat)
  /-- READ_TRACK (R34) -/
  | readTrack (circuit : Nat)
  /-- READ_ROUTE (R99) -/
  | readRoute (lever : Nat)
  /-- READ_HOLD (R75) -/
  | readHold (number : Nat)
  /-- LIST_HOLDS (R76) -/
  | listHolds (selector start : Nat)
  /-- READ_LINE (R138) -/
  | readLine (line : Nat)
  /-- READ_CODE (R113) -/
  | readCode (line : Nat)
  /-- READ_TRAIN (R162) -/
  | readTrain (train : Nat)
  /-- LIST_TRAINS (R162) -/
  | listTrains
  /-- CLEAR_MARK (R35) -/
  | clearMark (circuit : Nat)
  /-- PLACE_BAR (R73) -/
  | placeBar (lever position : Nat) (reason : Byte)
  /-- REMOVE_BAR (R74) -/
  | removeBar (number : Nat)
  /-- TIMED_RELEASE (R96) -/
  | timedRelease (lever : Nat)
  /-- CREATE_TRAIN (R160) -/
  | createTrain (trainClass : Nat) (description : Option Description)
  /-- SET_DESTINATION (R160) -/
  | setDestination (train destination : Nat)
  /-- RETIRE_TRAIN (R161) -/
  | retireTrain (train : Nat)
  /-- OFFER (R150) -/
  | offer (train line : Nat)
  /-- ACCEPT (R153) -/
  | accept (train : Nat) (description : Option Description)
  /-- ACKNOWLEDGE (R120) -/
  | acknowledge (line : Nat)
  /-- SEND_CODE (R119) -/
  | sendCode (line entry : Nat)
  /-- TAIL_SEEN (R156) -/
  | tailSeen (train : Nat)
  /-- OUT_OF_SECTION (R157) -/
  | outOfSection (train : Nat)
  /-- CANCEL_OFFER (R158) -/
  | cancelOffer (train : Nat)
  /-- RESTORE_LINE (R132) -/
  | restoreLine (line : Nat)
  /-- RELEASE_CODE (R114) -/
  | releaseCode (line : Nat)
  /-- NEXT_ATTENTION (R172) -/
  | nextAttention
  /-- CLEAR_ATTENTION (R174) -/
  | clearAttention (source : Nat)
  /-- SET_CLOCK (R167) -/
  | setClock (value : Nat)
  deriving DecidableEq, Repr

end Sys2Proof
end

