-- ==== Sys2Proof/Machine/State.lean ====
section
/-! DEFINITION. The state of the part, block by block as 00_scope.md section 3.1 lists them, as plain
data, and its values after a full reset. A timer counted in tenths is an `Option Nat`: `none` when it
does not run, `some n` with the boundaries still to pass, `some 0` when its expiry is due and not yet
taken (R166; log 2). -/

namespace Sys2Proof.Machine

/-! ### Configuration Store -/

/-- R182 -/
inductive Device
  | config | service
  deriving DecidableEq, Repr

/-- An end position of a lever (R39). -/
inductive EndPos
  | normal | reverse
  deriving DecidableEq, Repr

/-- The decoded position of a lever (R39). -/
inductive Position
  | normal | reverse | between | contradictory
  deriving DecidableEq, Repr

/-- R37, R38 -/
inductive LeverKind
  | signal | points | other
  deriving DecidableEq, Repr

/-- Slot input functions (01 section 1.2). -/
inductive InputFunction
  | none
  | leverN (l : LeverId)
  | leverR (l : LeverId)
  | catch_ (l : LeverId)
  | track (t : TrackId)
  deriving DecidableEq, Repr

/-- Slot output functions (01 section 1.2). -/
inductive OutputFunction
  | none
  | magnet (l : LeverId)
  | trackLamp (t : TrackId)
  deriving DecidableEq, Repr

/-- One entry of the slot map (R4). -/
structure SlotEntry where
  input : InputFunction
  output : OutputFunction
  deriving DecidableEq, Repr

/-- A condition (R40). -/
inductive Condition
  | leverAt (l : LeverId) (p : EndPos)
  | trackClear (t : TrackId)
  deriving DecidableEq, Repr

/-- R37 -/
structure LeverConfig where
  configured : Bool
  kind : LeverKind
  strokeTimeout : Nat
  leaveNormal : List Condition
  leaveReverse : List Condition
  deriving DecidableEq, Repr

/-- One points entry of a route (R80). -/
structure PointsEntry where
  lever : LeverId
  position : EndPos
  circuit : TrackId
  deriving DecidableEq, Repr

/-- R80 -/
structure RouteConfig where
  loaded : Bool
  points : List PointsEntry
  circuits : List TrackId
  approach : List TrackId
  approachTime : Nat
  deriving DecidableEq, Repr

/-- R19 -/
structure TrackConfig where
  configured : Bool
  delay : Nat
  neighbours : List TrackId
  deriving DecidableEq, Repr

/-- R124 -/
structure LineConfig where
  configured : Bool
  starter : Option LeverId
  entryCircuit : Option TrackId
  home : Option LeverId
  berth : Option TrackId
  conditions : List Condition
  clearing : List (LeverId × EndPos)
  lapse : Nat
  deriving DecidableEq, Repr

/-- The nine meanings of R107. -/
inductive Meaning
  | callAttention | offer | entering | outOfSection | cancel | obstructionDanger
  | obstructionRemoved | testing | information
  deriving DecidableEq, Repr

/-- One group of a code table pattern with its care mask (R107). -/
structure GroupSpec where
  count : Nat
  care : Bool
  deriving DecidableEq, Repr

/-- A loaded code table entry (R107). -/
structure CodeEntry where
  pattern : List GroupSpec
  meaning : Meaning
  trainClass : Option Nat
  sendable : Bool
  deriving DecidableEq, Repr

/-- The timing set (R3, R95, R103, R115, R181), as clamped. -/
structure Timing where
  requestedPeriod : Nat
  minBeat : Nat
  maxBeat : Nat
  groupGap : Nat
  endGap : Nat
  on : Nat
  intra : Nat
  group : Nat
  emergency : Nat
  deriving DecidableEq, Repr

/-- The tables of the Configuration Store. -/
structure ConfigStore where
  slots : Vector SlotEntry 192
  frameLength : Nat
  levers : Vector LeverConfig 40
  routes : Vector RouteConfig 40
  tracks : Vector TrackConfig 32
  lines : PerLine LineConfig
  codes : Vector (Option CodeEntry) 32
  timing : Timing
  deriving DecidableEq, Repr

/-! ### Console Port -/

/-- R176, R177 -/
inductive PortState
  | idle | executing | replyReady
  deriving DecidableEq, Repr

/-- R176, R177. `miso` is empty while CSN is high. -/
structure ConsolePort where
  state : PortState
  selected : Option PortState
  request : List Byte
  reply : List Byte
  miso : List Bool
  deriving DecidableEq, Repr

/-! ### Scan Bus Controller -/

/-- 01 section 1.6 -/
inductive ScanState
  | stopped | starting | running | lost
  deriving DecidableEq, Repr

/-- The continuity mark of a sample arrival (R14). -/
inductive Continuity
  | first | restored | continuous
  deriving DecidableEq, Repr

/-- What a running SCAN_STOP still waits for (R16). -/
inductive StopPhase
  | none | closingFrame | closingSync
  deriving DecidableEq, Repr

/-- A frame in progress: the length and the map it runs under, its judgement withheld or not, and
its output copy (R2, R4, R7, R9). -/
structure Frame where
  length : Nat
  slots : Vector SlotEntry 192
  unjudged : Bool
  copy : List Bool
  deriving DecidableEq, Repr

/-- The input image, by function (R14; log 8). -/
structure InputImage where
  leverN : Vector Bool 40
  leverR : Vector Bool 40
  catches : Vector Bool 40
  tracks : Vector Bool 32
  deriving DecidableEq, Repr

/-- The Scan Bus Controller. -/
structure ScanBus where
  scan : ScanState
  frameCounter : BitVec 16
  goodRun : Nat
  badRun : Nat
  marker : Bool
  expected : Bool
  frame : Option Frame
  lengthInForce : Nat
  firstDue : Bool
  nextSync : Option Tick
  stop : StopPhase
  /-- the sync last driven is a closing sync, which opens no frame (R16 step 6) -/
  syncPulse : Bool
  input : InputImage
  magnets : Vector Bool 40
  lamps : Vector Bool 32
  deriving DecidableEq, Repr

/-- The external boards as R5 describes them: the bits in the shift path and in the output latch;
`none` while the part cannot know them (log 7). -/
structure Boards where
  shifted : Option (List Bool)
  latched : Option (List Bool)
  deriving DecidableEq, Repr

/-! ### Track Circuit Monitor -/

/-- 02 section 2.2 -/
inductive TrackState
  | unknown | occupied | pickupTiming | clear
  deriving DecidableEq, Repr

/-- The record of one track circuit (R34, R36). -/
structure Track where
  state : TrackState
  timer : Option Nat
  mark : Bool
  fault : Bool
  changed : Clock
  deriving DecidableEq, Repr

/-! ### Lever Lock Unit -/

/-- The release state with its origin (R41). -/
inductive Release
  | notGranted
  | granted (origin : EndPos)
  | stroke (origin : EndPos)
  deriving DecidableEq, Repr

/-- R42 -/
inductive Grip
  | free | seeking | spent
  deriving DecidableEq, Repr

/-- The refusal reasons with their details (R43, R44, R56). -/
inductive RefusalReason
  | notService
  | scan
  | condition (place : Nat)
  | held (number : HoldId)
  | routeBusy
  | pool
  deriving DecidableEq, Repr

/-- The last refusal of a lever (R43, R45). -/
structure RefusalRecord where
  reason : RefusalReason
  stamp : Clock
  superseded : Bool
  deriving DecidableEq, Repr

/-- R49, R50, R51 -/
inductive LeverFault
  | strokeTimeout | contradictory | unreleased
  deriving DecidableEq, Repr

/-- The record of one lever (R58, R59). -/
structure Lever where
  position : Position
  catchGripped : Bool
  release : Release
  grip : Grip
  reported : Bool
  strokeTimer : Option Nat
  unseen : Bool
  lastRefusal : Option RefusalRecord
  lastFault : Option (LeverFault × Clock)
  /-- full or abandoned, with the stamp of its arrival -/
  lastStroke : Option (Bool × Clock)
  deriving DecidableEq, Repr

/-! ### Hold Table -/

/-- The kind of a hold with the fields only that kind has (R60). -/
inductive HoldKind
  | route (owner : LeverId) (protecting : TrackId)
  | clearing (owner : Line)
  | block (owner : Line)
  | bar (reason : Byte)
  deriving DecidableEq, Repr

/-- A hold record (R60); its number is its place in the table. -/
structure Hold where
  kind : HoldKind
  lever : LeverId
  position : EndPos
  created : Clock
  deriving DecidableEq, Repr

/-! ### Route Unit -/

/-- R81 -/
inductive RouteState
  | idle | granted | set | approachLocked | releasing | sequenceFault | timedRelease
  deriving DecidableEq, Repr

/-- R81 -/
inductive RouteTimerKind
  | approach | emergency
  deriving DecidableEq, Repr

/-- The running timer of a route (R81). -/
structure RouteTimer where
  kind : RouteTimerKind
  remaining : Nat
  deriving DecidableEq, Repr

/-- R81 -/
inductive FaultCause
  | sequence | scanLoss | unreleased
  deriving DecidableEq, Repr

/-- What the Route Unit keeps for one points entry (R81). -/
structure EntryRun where
  released : Bool
  hold : Option HoldId
  deriving DecidableEq, Repr

/-- The running record of one route (R81). An entry missing from `entries` has its released flag
clear and its hold number absent. -/
structure Route where
  state : RouteState
  k : Nat
  timer : Option RouteTimer
  entries : List EntryRun
  escape : Bool
  cause : Option FaultCause
  changed : Clock
  deriving DecidableEq, Repr

/-! ### Bell Units -/

/-- A code being assembled (R105, R106). -/
structure Assembly where
  groups : List Nat
  /-- a seventh group has been met, so no later beat is counted -/
  beyond : Bool
  held : Bool
  overflow : Bool
  /-- falling edge tick of the last accepted beat -/
  lastFall : Tick
  /-- the tick at which the code ends -/
  endTick : Tick
  deriving DecidableEq, Repr

/-- What a decoded code was found to be (R106, R108). -/
inductive Heard
  | recognised (entry : CodeId) (meaning : Meaning) (trainClass : Option Nat)
  | unrecognised
  | malformed
  deriving DecidableEq, Repr

/-- A stored received code (R112). -/
structure StoredCode where
  groups : List Nat
  heard : Heard
  held : Bool
  overflow : Bool
  outOfTurn : Bool
  repetition : Bool
  received : Clock
  deriving DecidableEq, Repr

/-- The last recognised code of a line (R110). -/
structure RecognisedCode where
  groups : List Nat
  entry : CodeId
  deriving DecidableEq, Repr

/-- A send in progress (R115, R116). -/
structure Send where
  start : Tick
  groups : List Nat
  entry : Option CodeId
  meaning : Option Meaning
  length : Nat
  deriving DecidableEq, Repr

/-- The expected repetition of a line (R121). -/
structure Expectation where
  groups : List Nat
  deadline : Nat
  deriving DecidableEq, Repr

/-- One line's Bell Unit (R123). -/
structure BellUnit where
  level : Bool
  candidate : Option Tick
  pulse : Option Tick
  code : Option Assembly
  buffer0 : Option StoredCode
  buffer1 : Option StoredCode
  /-- the write turn names buffer 1 -/
  turn : Bool
  lastRecognised : Option RecognisedCode
  sender : Option Send
  pendingEntering : Bool
  blankUntil : Option Tick
  expected : Option Expectation
  overrun : Bool
  collided : Bool
  unacknowledged : Bool
  deriving DecidableEq, Repr

/-! ### Block Line Controllers -/

/-- R126, R127 -/
inductive Instrument
  | blocked | clear | onLine
  deriving DecidableEq, Repr

/-- R127 -/
inductive RawReading
  | none | positive | negative | both
  deriving DecidableEq, Repr

/-- R135 -/
inductive Standing
  | none | offered | accepted | inSection
  deriving DecidableEq, Repr

/-- R131 -/
inductive Health
  | active | doubtful | suspended
  deriving DecidableEq, Repr

/-- One line's Block Line Controller (R140). -/
structure BlockLine where
  inInstrument : Instrument
  settled : RawReading
  candidate : Option (RawReading × Nat)
  count : Nat
  quiet : Option Tick
  obstruction : Bool
  standing : Standing
  deriving DecidableEq, Repr

/-! ### Train Record Table -/

/-- R142 -/
inductive Inbound
  | none | offered | accepted | inSection | arrived | cleared
  deriving DecidableEq, Repr

/-- R142 -/
inductive Outbound
  | none | offered | accepted | inSection | cleared
  deriving DecidableEq, Repr

/-- R142 -/
inductive Destination
  | undecided
  | localBox
  | line (x : Line)
  deriving DecidableEq, Repr

/-- The six stamps of a train record (R142). -/
structure TrainStamps where
  offeredIn : Option Clock
  enteredIn : Option Clock
  arrived : Option Clock
  offeredOut : Option Clock
  enteredOut : Option Clock
  clearedOut : Option Clock
  deriving DecidableEq, Repr

/-- A live train record (R142). -/
structure Train where
  trainClass : Nat
  description : Option Description
  arrivalLine : Option Line
  offerHeard : Option (List Nat)
  inbound : Inbound
  tailSeen : Bool
  berthSeen : Bool
  destination : Destination
  outbound : Outbound
  stamps : TrainStamps
  inLapse : Option Nat
  outLapse : Option Nat
  unannounced : Bool
  withdrawn : Bool
  lapsed : Bool
  deriving DecidableEq, Repr

/-- The Train Record Table (R143, R152). -/
structure TrainTable where
  records : Vector (Option Train) 12
  owed : PerLine Bool
  deriving DecidableEq, Repr

/-! ### Attention Unit and Time Base -/

/-- The causes of LINE_x (R122, R128, R129, R131). -/
inductive LineCause
  | overrun | collided | unacknowledged | instrument | invalid | health
  deriving DecidableEq, Repr

/-- The detail of an attention source (R187). -/
inductive Detail
  | lever (l : LeverId)
  | circuit (t : TrackId)
  | line (x : Line)
  | host
  | record (r : TrainId)
  | lineCause (c : LineCause)
  | buffers (n : Nat)
  | lines (set : PerLine Bool)
  deriving DecidableEq, Repr

/-- The fourteen attention sources (09 section 9.4). -/
inductive Source
  | scan | leverFault | trackFault | route | releaseRefused | pool
  | code (x : Line)
  | line (x : Line)
  | train | obstruction
  deriving DecidableEq, Repr

/-- The record of one source. For a level source `pending`, `detail` and `multiple` are not used:
its pending is read from its condition (R169). -/
structure SourceRecord where
  enabled : Bool
  priority : Nat
  pending : Bool
  detail : Option Detail
  multiple : Bool
  deriving DecidableEq, Repr

/-- The Time Base (R164, R165), with the tenth boundaries not yet taken (log 3). -/
structure TimeBase where
  tickCount : Tick
  tickPhase : Nat
  clock : Clock
  boundariesDue : Nat
  deriving DecidableEq, Repr

/-! ### The whole part -/

/-- The state of the part, with the queue of waiting commands. -/
structure State where
  /-- the commands that wait, first in, first out -/
  pending : List Instr
  /-- how many times free values have been drawn (log 11) -/
  draws : Nat
  cp : ConsolePort
  device : Device
  cfg : ConfigStore
  sbc : ScanBus
  boards : Boards
  tcm : Vector Track 32
  llu : Vector Lever 40
  ht : Vector (Option Hold) 72
  ru : Vector Route 40
  bu : PerLine BellUnit
  blc : PerLine BlockLine
  trt : TrainTable
  au : Vector SourceRecord 14
  tb : TimeBase
  deriving DecidableEq, Repr

/-- The reasons a step can stop the part with a fault. The spec gives no such event: every finding is
a status, a record or an attention source. No constructor (log 29); safe. -/
inductive Fault
  deriving DecidableEq, Repr

/-- The reasons a step can be refused. -/
inductive Refusal
  /-- raised by `exec` for a command that has no meaning yet; safe: nothing is claimed of it -/
  | notModelled (mnemonic : String)
  deriving DecidableEq, Repr

/-! ### Values after a full reset -/

/-- R37 -/
def LeverConfig.reset : LeverConfig := ⟨false, .other, 300, [], []⟩
/-- R80 -/
def RouteConfig.reset : RouteConfig := ⟨false, [], [], [], 0⟩
/-- R19 -/
def TrackConfig.reset : TrackConfig := ⟨false, 20, []⟩
/-- R124 -/
def LineConfig.reset : LineConfig := ⟨false, none, none, none, none, [], [], 1200⟩
/-- R3, R95, R103, R115 -/
def Timing.reset : Timing := ⟨20, 4, 80, 100, 300, 24, 40, 160, 1800⟩
/-- R2, R4, R19, R37, R80, R107, R124 -/
def ConfigStore.reset : ConfigStore where
  slots := Vector.replicate 192 ⟨.none, .none⟩
  frameLength := 8
  levers := Vector.replicate 40 LeverConfig.reset
  routes := Vector.replicate 40 RouteConfig.reset
  tracks := Vector.replicate 32 TrackConfig.reset
  lines := PerLine.same LineConfig.reset
  codes := Vector.replicate 32 none
  timing := Timing.reset
/-- R176, R185 -/
def ConsolePort.reset : ConsolePort := ⟨.idle, none, [], [], []⟩
/-- R14 -/
def InputImage.reset : InputImage :=
  ⟨Vector.replicate 40 false, Vector.replicate 40 false, Vector.replicate 40 false,
    Vector.replicate 32 false⟩
/-- R17. The expected marker is the model's value (log 34). -/
def ScanBus.reset : ScanBus where
  scan := .stopped
  frameCounter := 0
  goodRun := 0
  badRun := 0
  marker := false
  expected := false
  frame := none
  lengthInForce := 8
  firstDue := false
  nextSync := none
  stop := .none
  syncPulse := false
  input := InputImage.reset
  magnets := Vector.replicate 40 false
  lamps := Vector.replicate 32 false
/-- R36 -/
def Track.reset : Track := ⟨.unknown, none, false, false, 0⟩
/-- R58 -/
def Lever.reset : Lever :=
  ⟨.between, false, .notGranted, .free, false, none, false, none, none, none⟩
/-- R100: the running record of an IDLE route in CONFIG. -/
def Route.reset : Route := ⟨.idle, 1, none, [], false, none, 0⟩
/-- R123 -/
def BellUnit.reset : BellUnit where
  level := false
  candidate := none
  pulse := none
  code := none
  buffer0 := none
  buffer1 := none
  turn := false
  lastRecognised := none
  sender := none
  pendingEntering := false
  blankUntil := none
  expected := none
  overrun := false
  collided := false
  unacknowledged := false
/-- R140 -/
def BlockLine.reset : BlockLine := ⟨.blocked, .none, none, 0, none, false, .none⟩
/-- R163 -/
def TrainTable.reset : TrainTable := ⟨Vector.replicate 12 none, PerLine.same false⟩
/-- R175 -/
def SourceRecord.reset : SourceRecord := ⟨false, 0, false, none, false⟩
/-- R164, R165 -/
def TimeBase.reset : TimeBase := ⟨0, 0, 0, 0⟩

/-- The part right after a full reset at power-up (R185). -/
def State.reset : State where
  pending := []
  draws := 0
  cp := ConsolePort.reset
  device := .config
  cfg := ConfigStore.reset
  sbc := ScanBus.reset
  boards := ⟨none, none⟩
  tcm := Vector.replicate 32 Track.reset
  llu := Vector.replicate 40 Lever.reset
  ht := Vector.replicate 72 none
  ru := Vector.replicate 40 Route.reset
  bu := PerLine.same BellUnit.reset
  blc := PerLine.same BlockLine.reset
  trt := TrainTable.reset
  au := Vector.replicate 14 SourceRecord.reset
  tb := TimeBase.reset

end Sys2Proof.Machine
end

