-- ==== Sys2Proof/Machine/Flags.lean ====
section
/-! DEFINITION. Everything of the part that is a function of what State holds: health, OUT instrument
states, pool counts, the effective frame period, the pending of the level sources, ATTN, the ranking
of the sources, and the levels on the pins. -/

namespace Sys2Proof.Machine

/-! ### Time -/

/-- A tick named earlier has come: the difference of the tick counts, modulo 2^32, is taken (R164;
log 4). -/
def reached (now due : Tick) : Bool := decide ((now - due).toNat < 2147483648)

/-- The ticks from now to a tick that has not come; 0 once it has. -/
def ticksTo (now due : Tick) : Nat := if reached now due then 0 else (due - now).toNat

/-- One boundary counted by a timer (R166). -/
def countDown (timer : Option Nat) : Option Nat := timer.map fun n => n - 1

/-- The boundaries a reading shows: absent when the timer does not run, and absent from its last
boundary onward (R166). -/
def shownTimer : Option Nat → Nat
  | some n => n
  | none => 0

/-! ### Scan -/

/-- The frame in sixteenths of a millisecond (62.5 microseconds a slot), with 1 ms for the gap. -/
def frameSixteenths (length : Nat) : Nat := length + 16

/-- The effective frame period in milliseconds: R3 step 3. -/
def effectivePeriodOf (requested length : Nat) : Nat :=
  if 16 * requested < frameSixteenths length then
    5 * ((frameSixteenths length + 79) / 80)
  else requested

/-- The effective period of the next frame to open (R3, R18). -/
def ConfigStore.effectivePeriod (cfg : ConfigStore) : Nat :=
  effectivePeriodOf cfg.timing.requestedPeriod cfg.frameLength

/-- The effective period in ticks of 5 ms. -/
def ConfigStore.periodTicks (cfg : ConfigStore) : Tick := BitVec.ofNat 32 (cfg.effectivePeriod / 5)

/-- The lowest slot below the marker slot whose input function it is (R14, R34). -/
def inputSlot (slots : Vector SlotEntry 192) (length : Nat) (f : InputFunction) : Option SlotId :=
  lowest fun k : SlotId => decide (k.val + 1 < length) && decide (slots[k].input = f)

/-- A slot below the marker slot carries the output function. -/
def hasOutputSlot (slots : Vector SlotEntry 192) (length : Nat) (f : OutputFunction) : Bool :=
  (lowest fun k : SlotId => decide (k.val + 1 < length) && decide (slots[k].output = f)).isSome

/-! ### Track circuits and levers -/

/-- R21: clear when CLEAR, occupied in the other three states. -/
def Track.isClear (t : Track) : Bool := decide (t.state = .clear)

def EndPos.toPosition : EndPos → Position
  | .normal => .normal
  | .reverse => .reverse

/-- The end position a lever stands at, if it stands at one (R39). -/
def Position.asEnd : Position → Option EndPos
  | .normal => some .normal
  | .reverse => some .reverse
  | .between => none
  | .contradictory => none

/-- R39: the position decoded from the N and R contacts. -/
def decodeContacts (n r : Bool) : Position :=
  match n, r with
  | true, false => .normal
  | false, true => .reverse
  | false, false => .between
  | true, true => .contradictory

/-- R53: the magnet bit of a release state. -/
def Release.magnet : Release → Bool
  | .notGranted => false
  | .granted _ => true
  | .stroke _ => true

/-! ### Conditions -/

/-- Lever `l` stands at `p` and is believed: configured, not unseen, and at `p` by the positions the
judging rule reads (R40). -/
def State.stands (s : State) (pos : LeverId → Position) (l : LeverId) (p : EndPos) : Bool :=
  s.cfg.levers[l].configured && !s.llu[l].unseen && decide (pos l = p.toPosition)

/-- R40: one condition, judged by the positions given. -/
def State.condition (s : State) (pos : LeverId → Position) : Condition → Bool
  | .leverAt l p => s.stands pos l p
  | .trackClear t => s.tcm[t].isClear

/-- The place of the first element that fails a test, counting from `place` (R40). -/
def firstFailing {α : Type} (ok : α → Bool) (place : Nat) : List α → Option Nat
  | [] => none
  | v :: rest => if ok v then firstFailing ok (place + 1) rest else some place

/-- The recorded position of a lever (R39). -/
def State.recorded (s : State) (l : LeverId) : Position := s.llu[l].position

/-- The position decoded from the input image for a configured lever, the recorded one for any other
(R39, R40). -/
def State.decoded (s : State) (l : LeverId) : Position :=
  if s.cfg.levers[l].configured then decodeContacts s.sbc.input.leverN[l] s.sbc.input.leverR[l]
  else s.recorded l

/-! ### Holds -/

/-- The block entry of a line: H64, H65, H66 (R64). -/
def blockEntry : Line → HoldId
  | .a => 64
  | .b => 65
  | .c => 66

/-- H0 to H63 (R64). -/
def inShared (h : HoldId) : Bool := decide (h.val < 64)
/-- H67 to H71 (R64). -/
def inReserve (h : HoldId) : Bool := decide (67 ≤ h.val)

/-- The free shared entries, lowest first. -/
def freeShared (ht : Vector (Option Hold) 72) : List HoldId :=
  (List.finRange 72).filter fun h => inShared h && ht[h].isNone

/-- The free entries of the bar reserve, lowest first. -/
def freeReserve (ht : Vector (Option Hold) 72) : List HoldId :=
  (List.finRange 72).filter fun h => inReserve h && ht[h].isNone

/-- R65: the number of free entries in H0 to H63. -/
def sharedCount (ht : Vector (Option Hold) 72) : Nat := (freeShared ht).length
/-- R65: the number of free entries in H67 to H71. -/
def reserveCount (ht : Vector (Option Hold) 72) : Nat := (freeReserve ht).length

/-- A live hold binds lever `l` at `p` (R62). -/
def holdBinds (l : LeverId) (p : EndPos) : Option Hold → Bool
  | some hold => decide (hold.lever = l) && decide (hold.position = p)
  | none => false

/-- The lowest-numbered live hold that binds `l` at `p` (R62, R63). -/
def bindingHold (ht : Vector (Option Hold) 72) (l : LeverId) (p : EndPos) : Option HoldId :=
  lowest fun h => holdBinds l p ht[h]

/-! ### Lines -/

/-- R131: health follows the count. -/
def healthOf (count : Nat) : Health :=
  if count < 96 then .active else if count < 255 then .doubtful else .suspended

def BlockLine.health (b : BlockLine) : Health := healthOf b.count

def BlockLine.suspended (b : BlockLine) : Bool := decide (b.health = .suspended)

/-- R127: the OUT instrument state of a settled reading. -/
def outStateOf : RawReading → Instrument
  | .none => .blocked
  | .positive => .clear
  | .negative => .onLine
  | .both => .blocked

def BlockLine.outState (b : BlockLine) : Instrument := outStateOf b.settled

/-- R135: the block condition of a line. -/
def BlockLine.blockCondition (b : BlockLine) : Bool :=
  decide (b.outState = .clear) && !b.suspended && !b.obstruction &&
    decide (b.standing = .accepted)

/-- R127: the raw reading of the two detector bits. -/
def rawReadingOf (p n : Bool) : RawReading :=
  match p, n with
  | false, false => .none
  | true, false => .positive
  | false, true => .negative
  | true, true => .both

/-- How many received-code buffers are unreleased (R112). -/
def BellUnit.unreleased (b : BellUnit) : Nat := b.buffer0.isSome.toNat + b.buffer1.isSome.toNat

/-- The buffer that is the older unreleased one: with both unreleased, the one the write turn names
(R112); true is buffer 1. -/
def BellUnit.olderIsOne (b : BellUnit) : Bool :=
  if b.buffer0.isSome && b.buffer1.isSome then b.turn else b.buffer1.isSome

/-- The older unreleased buffer (R113). -/
def BellUnit.older (b : BellUnit) : Option StoredCode :=
  if b.olderIsOne then b.buffer1 else b.buffer0

/-! ### Trains -/

/-- R142: the inbound half is active. -/
def Inbound.active : Inbound → Bool
  | .offered | .accepted | .inSection | .arrived => true
  | .none | .cleared => false

/-- R142: the outbound half is active. -/
def Outbound.active : Outbound → Bool
  | .offered | .accepted | .inSection => true
  | .none | .cleared => false

/-- The record's active inbound half stands on line `x` (R142). -/
def Train.inboundOn (t : Train) (x : Line) : Bool :=
  t.inbound.active && decide (t.arrivalLine = some x)

/-- The record's active outbound half stands on line `x` (R142). -/
def Train.outboundOn (t : Train) (x : Line) : Bool :=
  t.outbound.active && decide (t.destination = .line x)

/-- A live record satisfies a test. -/
def liveAnd (p : Train → Bool) : Option Train → Bool
  | some t => p t
  | none => false

/-- The line's inbound train (R144). -/
def TrainTable.inboundTrain (t : TrainTable) (x : Line) : Option TrainId :=
  lowest fun r => liveAnd (fun tr => tr.inboundOn x) t.records[r]

/-- The line's outbound train (R144). -/
def TrainTable.outboundTrain (t : TrainTable) (x : Line) : Option TrainId :=
  lowest fun r => liveAnd (fun tr => tr.outboundOn x) t.records[r]

/-- The lowest-numbered free shared record (R143). -/
def TrainTable.freeShared (t : TrainTable) : Option TrainId :=
  lowest fun r => decide (r.val < 9) && t.records[r].isNone

/-- The reserve record of a line: 10, 11, 12 (R143). -/
def reserveRecord : Line → TrainId
  | .a => 9
  | .b => 10
  | .c => 11

/-- R143: the number of free records among 1 to 9. -/
def TrainTable.sharedCount (t : TrainTable) : Nat :=
  countOf fun r : TrainId => decide (r.val < 9) && t.records[r].isNone

/-- The standing that mirrors an outbound state (R135). -/
def Outbound.standing : Outbound → Standing
  | .offered => .offered
  | .accepted => .accepted
  | .inSection => .inSection
  | .none | .cleared => .none

/-! ### The code table -/

/-- The stored counts of an entry, sent when the entry is sent (R107, R116). -/
def CodeEntry.counts (e : CodeEntry) : List Nat := e.pattern.map GroupSpec.count

/-- An entry is loaded, sendable and has the meaning, and for an OFFER the class (R116). -/
def sendableAs (m : Meaning) (cls : Option Nat) : Option CodeEntry → Bool
  | some e => e.sendable && decide (e.meaning = m) &&
      (decide (m ≠ .offer) || decide (e.trainClass = cls))
  | none => false

/-- The lowest-numbered loaded, sendable entry with a meaning, and for OFFER with the class (R116). -/
def entryToSend (codes : Vector (Option CodeEntry) 32) (m : Meaning) (cls : Option Nat) :
    Option CodeId :=
  lowest fun c => sendableAs m cls codes[c]

/-! ### Attention -/

/-- The place of a source in the table: number minus 1. -/
def Source.id : Source → SourceId
  | .scan => 0
  | .leverFault => 1
  | .trackFault => 2
  | .route => 3
  | .releaseRefused => 4
  | .pool => 5
  | .code .a => 6
  | .code .b => 7
  | .code .c => 8
  | .line .a => 9
  | .line .b => 10
  | .line .c => 11
  | .train => 12
  | .obstruction => 13

/-- The condition of a level source, and nothing for a latched source (R169). -/
def State.level (s : State) (i : SourceId) : Option Bool :=
  if i = Source.id .scan then some (decide (s.sbc.scan = .lost))
  else if i = Source.id (.code .a) then some (decide (0 < s.bu.a.unreleased))
  else if i = Source.id (.code .b) then some (decide (0 < s.bu.b.unreleased))
  else if i = Source.id (.code .c) then some (decide (0 < s.bu.c.unreleased))
  else if i = Source.id .obstruction then
    some (s.blc.a.obstruction || s.blc.b.obstruction || s.blc.c.obstruction)
  else none

/-- A source is pending: a latched source by its record (R168), a level source by its condition
(R169). -/
def State.sourcePending (s : State) (i : SourceId) : Bool :=
  (s.level i).getD s.au[i].pending

/-- The detail of a source as asked for (R168, R169). DESIGN CHOICE: a level source that is not pending
shows its detail as absent (log 44). -/
def State.sourceDetail (s : State) (i : SourceId) : Option Detail :=
  if s.sourcePending i then
    if i = Source.id .scan then none
    else if i = Source.id (.code .a) then some (.buffers s.bu.a.unreleased)
    else if i = Source.id (.code .b) then some (.buffers s.bu.b.unreleased)
    else if i = Source.id (.code .c) then some (.buffers s.bu.c.unreleased)
    else if i = Source.id .obstruction then some (.lines (s.blc.map fun b => b.obstruction))
    else s.au[i].detail
  else none

/-- The MULTIPLE flag of a source; always clear for a level source (R169). -/
def State.sourceMultiple (s : State) (i : SourceId) : Bool :=
  if (s.level i).isSome then false else s.au[i].multiple

/-- A source is both enabled and pending (R170). -/
def State.sourceActive (s : State) (i : SourceId) : Bool := s.au[i].enabled && s.sourcePending i

/-- The number of enabled pending sources (R172). -/
def State.activeCount (s : State) : Nat := countOf fun i : SourceId => s.sourceActive i

/-- R171: ATTN is high while at least one source is enabled and pending. -/
def State.attn (s : State) : Bool := (List.finRange 14).any fun i => s.sourceActive i

/-- SCAN, LEVER_FAULT and OBSTRUCTION have a fixed priority (R170). -/
def isFixed (i : SourceId) : Bool :=
  decide (i = Source.id .scan) || decide (i = Source.id .leverFault) ||
    decide (i = Source.id .obstruction)

/-- The rank of a source, higher first (R170): priorities 0 to 3, then the fixed sources, then
priorities 4 to 7. -/
def State.rank (s : State) (i : SourceId) : Nat :=
  if isFixed i then 4
  else if s.au[i].priority ≤ 3 then s.au[i].priority else s.au[i].priority + 1

/-- No enabled pending source is ranked above source `i` (R170): higher rank first, equal ranks by
source number. -/
def State.ranksFirst (s : State) (i : SourceId) : Bool :=
  s.sourceActive i &&
    (List.finRange 14).all fun j => !s.sourceActive j || decide (s.rank j < s.rank i) ||
      (decide (s.rank j = s.rank i) && decide (i.val ≤ j.val))

/-- The enabled pending source of highest rank (R170, R172). -/
def State.topSource (s : State) : Option SourceId := lowest s.ranksFirst

/-! ### Pins -/

/-- RDY is high in REPLY_READY (R176). -/
def State.rdy (s : State) : Bool := decide (s.cp.state = .replyReady)

/-- The level on a pin that the part does not drive at all times (R176). -/
inductive PinLevel
  | low | high | highZ
  deriving DecidableEq, Repr

/-- A bit driven on a pin. -/
def PinLevel.driven (bit : Bool) : PinLevel := if bit then .high else .low

/-- MISO in clock k of the selection: the bit driven, and high impedance while CSN is high (R176). -/
def State.misoPin (s : State) (k : Nat) : PinLevel :=
  match s.cp.selected with
  | some _ => .driven (s.cp.miso.getD k false)
  | none => .highZ

/-- SFS in slot time k after the sync last driven: high for the whole of slot 0 of a frame (R1) and for
the one slot time of a closing sync (R16 step 6). -/
def State.sfsIn (s : State) (k : Nat) : Bool :=
  (s.sbc.frame.isSome || s.sbc.syncPulse) && decide (k = 0)

/-- SCK_S runs for the slots of a frame (R1), and is held low at a closing sync (R16 step 6). -/
def State.sckRuns (s : State) : Bool := s.sbc.frame.isSome

/-- SDO in slot k of the frame in progress (R1, R7). -/
def State.sdoIn (s : State) (k : Nat) : Bool :=
  match s.sbc.frame with
  | some f => f.copy.getD k false
  | none => false

/-- The bell output's levels in a group: beats of ON ticks with INTRA between them (R115). -/
def groupWave (t : Timing) : Nat → List (Bool × Nat)
  | 0 => []
  | 1 => [(true, t.on)]
  | n + 1 => (true, t.on) :: (false, t.intra) :: groupWave t n

/-- The bell output's levels over a whole send: GROUP ticks low between groups (R115). -/
def sendWave (t : Timing) : List Nat → List (Bool × Nat)
  | [] => []
  | [g] => groupWave t g
  | g :: rest => groupWave t g ++ (false, t.group) :: sendWave t rest

/-- The level at an offset from the start of a wave; low after its end. -/
def waveLevel : List (Bool × Nat) → Nat → Bool
  | [], _ => false
  | (lvl, n) :: rest, at_ => if at_ < n then lvl else waveLevel rest (at_ - n)

/-- The length of a send: D of R115. -/
def sendLength (t : Timing) (groups : List Nat) : Nat :=
  groups.sum * t.on + (groups.map fun g => g - 1).sum * t.intra + (groups.length - 1) * t.group

/-- BELL_OUT of line `x` at the present tick (R115). -/
def State.bellOut (s : State) (x : Line) : Bool :=
  match (s.bu.get x).sender with
  | some send =>
    reached s.tb.tickCount send.start &&
      waveLevel (sendWave s.cfg.timing send.groups) (s.tb.tickCount - send.start).toNat
  | none => false

/-- INSTR_OUT_P: positive current shows CLEAR (R126, R199). -/
def State.instrOutP (s : State) (x : Line) : Bool := decide ((s.blc.get x).inInstrument = .clear)

/-- INSTR_OUT_N: negative current shows ON_LINE (R126, R199). -/
def State.instrOutN (s : State) (x : Line) : Bool := decide ((s.blc.get x).inInstrument = .onLine)

end Sys2Proof.Machine
end

