-- ==== Sys2Proof/WellFormed.lean ====
section
/-! DEFINITION. Well-formed commands: a request whose arguments fit the argument layout of R189 (each
number in the bytes the layout gives it, every list in a count byte, at most 60 argument bytes), as
check 4 of R178 admits them. The events carry typed operands and are always well-formed. Ranges are
not tested here: an argument that fits its layout but lies outside its range is the owning rule's to
refuse (R189). -/

namespace Sys2Proof

/-- A number that fits one byte. -/
def fitsByte (n : Nat) : Bool := n < 256
/-- A number that fits two bytes. -/
def fitsTwo (n : Nat) : Bool := n < 65536
/-- A number that fits three bytes. -/
def fitsThree (n : Nat) : Bool := n < 16777216

def RawCondition.fits (c : RawCondition) : Bool := fitsByte c.form && fitsByte c.number
def RawSlot.fits (e : RawSlot) : Bool :=
  fitsByte e.inKind && fitsByte e.inNumber && fitsByte e.outKind && fitsByte e.outNumber
def RawPoints.fits (e : RawPoints) : Bool :=
  fitsByte e.lever && fitsByte e.position && fitsByte e.circuit
def RawClearing.fits (e : RawClearing) : Bool := fitsByte e.lever && fitsByte e.position
def RawTiming.fits (t : RawTiming) : Bool :=
  fitsTwo t.framePeriod && fitsTwo t.minBeat && fitsTwo t.maxBeat && fitsTwo t.groupGap &&
    fitsTwo t.endGap && fitsTwo t.on && fitsTwo t.intra && fitsTwo t.group && fitsTwo t.emergency

/-- A request's arguments fit the layout of R189 and the length byte of R178. -/
def Instr.wellFormed : Instr → Bool
  | .fullReset => true
  | .tick _ _ _ => true
  | .tenthBoundary => true
  | .frameOpen => true
  | .frameJudge _ => true
  | .pickupExpiry => true
  | .strokeTimeout _ => true
  | .approachExpiry _ => true
  | .emergencyExpiry _ => true
  | .codeEnd _ => true
  | .sendCompletion _ => true
  | .blankingEnd _ _ => true
  | .repetitionDeadlineExpiry _ => true
  | .instrumentSettling _ => true
  | .quietWaitEnd _ => true
  | .lapseExpiry _ _ => true
  | .portSelection _ => true
  | .portDeselection => true
  | .loadSlots n first entries =>
    fitsByte n && fitsByte first && entries.all RawSlot.fits && (3 + 4 * entries.length ≤ 60)
  | .loadLever l kind timeout leaveN leaveR =>
    fitsByte l && fitsByte kind && fitsTwo timeout && leaveN.all RawCondition.fits &&
      leaveR.all RawCondition.fits && (6 + 2 * leaveN.length + 2 * leaveR.length ≤ 60)
  | .loadRoute l points circuits approach time =>
    fitsByte l && points.all RawPoints.fits && circuits.all fitsByte && approach.all fitsByte &&
      fitsTwo time && (6 + 3 * points.length + circuits.length + approach.length ≤ 60)
  | .loadTrack t delay neighbours =>
    fitsByte t && fitsByte delay && neighbours.all fitsByte && (3 + neighbours.length ≤ 60)
  | .loadLine x starter entryCircuit home berth conditions clearing lapse =>
    fitsByte x && fitsByte starter && fitsByte entryCircuit && fitsByte home && fitsByte berth &&
      conditions.all RawCondition.fits && clearing.all RawClearing.fits && fitsTwo lapse &&
      (9 + 2 * conditions.length + 2 * clearing.length ≤ 60)
  | .loadCode entry pattern mask meaning cls sendable =>
    fitsByte entry && pattern.all fitsByte && mask.all fitsByte && fitsByte meaning &&
      fitsByte cls && fitsByte sendable && (6 + pattern.length + mask.length ≤ 60)
  | .loadTiming t => t.fits
  | .loadAttention source enable priority =>
    fitsByte source && fitsByte enable && fitsByte priority
  | .scanStart => true
  | .scanStop => true
  | .closingFrame => true
  | .closingSync => true
  | .enterService => true
  | .restart => true
  | .readStatus => true
  | .readLever l => fitsByte l
  | .readTrack t => fitsByte t
  | .readRoute l => fitsByte l
  | .readHold n => fitsByte n
  | .listHolds selector start => fitsByte selector && fitsByte start
  | .readLine x => fitsByte x
  | .readCode x => fitsByte x
  | .readTrain r => fitsByte r
  | .listTrains => true
  | .clearMark t => fitsByte t
  | .placeBar l position _ => fitsByte l && fitsByte position
  | .removeBar n => fitsByte n
  | .timedRelease l => fitsByte l
  | .createTrain cls _ => fitsByte cls
  | .setDestination r destination => fitsByte r && fitsByte destination
  | .retireTrain r => fitsByte r
  | .offer r x => fitsByte r && fitsByte x
  | .accept r _ => fitsByte r
  | .acknowledge x => fitsByte x
  | .sendCode x entry => fitsByte x && fitsByte entry
  | .tailSeen r => fitsByte r
  | .outOfSection r => fitsByte r
  | .cancelOffer r => fitsByte r
  | .restoreLine x => fitsByte x
  | .releaseCode x => fitsByte x
  | .nextAttention => true
  | .clearAttention source => fitsByte source
  | .setClock value => fitsThree value

end Sys2Proof
end

