-- ==== Sys2Proof/Decode.lean ====
section
/-! DEFINITION. From bits to commands. The opcode table gives no row any bits, so `decodeTableWord`
refuses every word. The spec does give every request a byte layout (R178, R187 to R189): the decoder
of a request frame, its catalog check and its layout check are here, with the encoder of the same
layouts after it. -/

namespace Sys2Proof

/-- The command a word spells by the table's bits: the table gives none of its rows any bits. -/
def decodeTableWord (_nbits _w : Nat) : Option Instr := none

/-! ### Numbers as bytes, most significant byte first (R187) -/

/-- One byte holding the number. -/
def bytesOne (n : Nat) : List Byte := [BitVec.ofNat 8 n]
/-- Two bytes, the most significant first. -/
def bytesTwo (n : Nat) : List Byte := [BitVec.ofNat 8 (n / 256), BitVec.ofNat 8 n]
/-- Three bytes, the most significant first. -/
def bytesThree (n : Nat) : List Byte :=
  [BitVec.ofNat 8 (n / 65536), BitVec.ofNat 8 (n / 256), BitVec.ofNat 8 n]

/-! ### Reading an argument layout: what remains of the argument bytes is handed on -/

/-- A reader of one argument: the argument and the bytes after it, or no fit. -/
abbrev Reader (α : Type) := List Byte → Option (α × List Byte)

/-- A number of one byte. -/
def readOne : Reader Nat
  | b :: rest => some (b.toNat, rest)
  | [] => none

/-- A number of two bytes. -/
def readTwo : Reader Nat
  | h :: l :: rest => some (h.toNat * 256 + l.toNat, rest)
  | _ => none

/-- A number of three bytes. -/
def readThree : Reader Nat
  | h :: m :: l :: rest => some (h.toNat * 65536 + m.toNat * 256 + l.toNat, rest)
  | _ => none

/-- A byte kept as a byte. -/
def readByte : Reader Byte
  | b :: rest => some (b, rest)
  | [] => none

/-- `n` elements, one after another. -/
def readMany {α : Type} (r : Reader α) : Nat → Reader (List α)
  | 0, bs => some ([], bs)
  | n + 1, bs =>
    match r bs with
    | some (v, bs) =>
      match readMany r n bs with
      | some (vs, bs) => some (v :: vs, bs)
      | none => none
    | none => none

/-- A list: a count byte followed by its elements (R187). -/
def readList {α : Type} (r : Reader α) : Reader (List α)
  | c :: rest => readMany r c.toNat rest
  | [] => none

/-- An argument that may be absent: a presence byte of 0 or 1, then the value (R187, R189). -/
def readPresent {α : Type} (r : Reader α) : Reader (Option α)
  | b :: rest =>
    if b = 0 then some (none, rest)
    else if b = 1 then
      match r rest with
      | some (v, rest) => some (some v, rest)
      | none => none
    else none
  | [] => none

/-- A condition: a form and a number. -/
def readCondition : Reader RawCondition
  | f :: n :: rest => some (⟨f.toNat, n.toNat⟩, rest)
  | _ => none

/-- A slot entry of four bytes. -/
def readSlot : Reader RawSlot
  | a :: b :: c :: d :: rest => some (⟨a.toNat, b.toNat, c.toNat, d.toNat⟩, rest)
  | _ => none

/-- A points entry of three bytes. -/
def readPoints : Reader RawPoints
  | a :: b :: c :: rest => some (⟨a.toNat, b.toNat, c.toNat⟩, rest)
  | _ => none

/-- A clearing-hold entry of two bytes. -/
def readClearing : Reader RawClearing
  | a :: b :: rest => some (⟨a.toNat, b.toNat⟩, rest)
  | _ => none

/-- The four characters of a description. -/
def readDescription : Reader Description
  | a :: b :: c :: d :: rest => some (⟨a, b, c, d⟩, rest)
  | _ => none

/-- One argument, then the rest of the layout. -/
def andThen {α β : Type} (r : Reader α) (k : α → Reader β) : Reader β := fun bs =>
  match r bs with
  | some (v, rest) => k v rest
  | none => none

/-- The layout ends here: the command stands, with what bytes are left over. -/
def layoutEnd (i : Instr) : Reader Instr := fun bs => some (i, bs)

/-- The argument layout of a request (R189), by its number in the catalog. -/
def argumentReader : Nat → Reader Instr
  | 1 => andThen readOne fun n => andThen readOne fun first =>
      andThen (readList readSlot) fun es => layoutEnd (.loadSlots n first es)
  | 2 => andThen readOne fun l => andThen readOne fun kind => andThen readTwo fun t =>
      andThen (readList readCondition) fun ns => andThen (readList readCondition) fun rs =>
        layoutEnd (.loadLever l kind t ns rs)
  | 3 => andThen readOne fun l => andThen (readList readPoints) fun ps =>
      andThen (readList readOne) fun cs => andThen (readList readOne) fun apps =>
        andThen readTwo fun time => layoutEnd (.loadRoute l ps cs apps time)
  | 4 => andThen readOne fun t => andThen readOne fun d =>
      andThen (readList readOne) fun ns => layoutEnd (.loadTrack t d ns)
  | 5 => andThen readOne fun x => andThen readOne fun st => andThen readOne fun en =>
      andThen readOne fun home => andThen readOne fun berth =>
        andThen (readList readCondition) fun cs => andThen (readList readClearing) fun ks =>
          andThen readTwo fun lapse => layoutEnd (.loadLine x st en home berth cs ks lapse)
  | 6 => andThen readOne fun e => andThen (readList readOne) fun p =>
      andThen (readList readOne) fun m => andThen readOne fun meaning =>
        andThen readOne fun cls => andThen readOne fun snd =>
          layoutEnd (.loadCode e p m meaning cls snd)
  | 7 => andThen readTwo fun p => andThen readTwo fun a => andThen readTwo fun b =>
      andThen readTwo fun c => andThen readTwo fun d => andThen readTwo fun e =>
        andThen readTwo fun f => andThen readTwo fun g => andThen readTwo fun h =>
          layoutEnd (.loadTiming ⟨p, a, b, c, d, e, f, g, h⟩)
  | 8 => andThen readOne fun src => andThen readOne fun en => andThen readOne fun p =>
      layoutEnd (.loadAttention src en p)
  | 16 => layoutEnd .scanStart
  | 17 => layoutEnd .scanStop
  | 20 => layoutEnd .enterService
  | 21 => layoutEnd .restart
  | 32 => layoutEnd .readStatus
  | 33 => andThen readOne fun l => layoutEnd (.readLever l)
  | 34 => andThen readOne fun t => layoutEnd (.readTrack t)
  | 35 => andThen readOne fun l => layoutEnd (.readRoute l)
  | 36 => andThen readOne fun n => layoutEnd (.readHold n)
  | 37 => andThen readOne fun sel => andThen readOne fun st => layoutEnd (.listHolds sel st)
  | 38 => andThen readOne fun x => layoutEnd (.readLine x)
  | 39 => andThen readOne fun x => layoutEnd (.readCode x)
  | 40 => andThen readOne fun r => layoutEnd (.readTrain r)
  | 41 => layoutEnd .listTrains
  | 48 => andThen readOne fun t => layoutEnd (.clearMark t)
  | 49 => andThen readOne fun l => andThen readOne fun p => andThen readByte fun why =>
      layoutEnd (.placeBar l p why)
  | 50 => andThen readOne fun n => layoutEnd (.removeBar n)
  | 51 => andThen readOne fun l => layoutEnd (.timedRelease l)
  | 52 => andThen readOne fun c => andThen (readPresent readDescription) fun d =>
      layoutEnd (.createTrain c d)
  | 53 => andThen readOne fun r => andThen readOne fun d => layoutEnd (.setDestination r d)
  | 54 => andThen readOne fun r => layoutEnd (.retireTrain r)
  | 55 => andThen readOne fun r => andThen readOne fun x => layoutEnd (.offer r x)
  | 56 => andThen readOne fun r => andThen (readPresent readDescription) fun d =>
      layoutEnd (.accept r d)
  | 57 => andThen readOne fun x => layoutEnd (.acknowledge x)
  | 58 => andThen readOne fun x => andThen readOne fun e => layoutEnd (.sendCode x e)
  | 59 => andThen readOne fun r => layoutEnd (.tailSeen r)
  | 60 => andThen readOne fun r => layoutEnd (.outOfSection r)
  | 61 => andThen readOne fun r => layoutEnd (.cancelOffer r)
  | 62 => andThen readOne fun x => layoutEnd (.restoreLine x)
  | 63 => andThen readOne fun x => layoutEnd (.releaseCode x)
  | 64 => layoutEnd .nextAttention
  | 65 => andThen readOne fun src => layoutEnd (.clearAttention src)
  | 66 => andThen readThree fun v => layoutEnd (.setClock v)
  | _ => fun _ => none

/-- The request numbers of the catalog (R180). -/
def inCatalog (n : Nat) : Bool :=
  (1 ≤ n && n ≤ 8) || n == 16 || n == 17 || n == 20 || n == 21 || (32 ≤ n && n ≤ 41) ||
    (48 ≤ n && n ≤ 66)

/-- The outcome of the frame checks of R178. -/
inductive FrameCheck
  /-- checks 1, 2 or 4 failed -/
  | badFrame
  /-- check 3 failed -/
  | badRequest
  /-- every check passed: the request is handed to its owner -/
  | request (i : Instr)
  deriving DecidableEq, Repr

/-- R178: the frame stored is judged, at the first check that fails. Bytes beyond n + 2 are
disregarded. -/
def checkFrame (stored : List Byte) : FrameCheck :=
  match stored with
  | req :: len :: rest =>
    if rest.length < len.toNat then .badFrame
    else if 60 < len.toNat then .badFrame
    else if inCatalog req.toNat then
      match argumentReader req.toNat (rest.take len.toNat) with
      | some (i, []) => .request i
      | _ => .badFrame
    else .badRequest
  | _ => .badFrame

/-! ### The encoder, written from the same layouts -/

/-- A list: a count byte followed by its elements. -/
def listBytes {α : Type} (f : α → List Byte) (l : List α) : List Byte :=
  bytesOne l.length ++ l.flatMap f

def RawCondition.bytes (c : RawCondition) : List Byte := bytesOne c.form ++ bytesOne c.number
def RawSlot.bytes (e : RawSlot) : List Byte :=
  bytesOne e.inKind ++ bytesOne e.inNumber ++ bytesOne e.outKind ++ bytesOne e.outNumber
def RawPoints.bytes (e : RawPoints) : List Byte :=
  bytesOne e.lever ++ bytesOne e.position ++ bytesOne e.circuit
def RawClearing.bytes (e : RawClearing) : List Byte := bytesOne e.lever ++ bytesOne e.position
def RawTiming.bytes (t : RawTiming) : List Byte :=
  bytesTwo t.framePeriod ++ bytesTwo t.minBeat ++ bytesTwo t.maxBeat ++ bytesTwo t.groupGap ++
    bytesTwo t.endGap ++ bytesTwo t.on ++ bytesTwo t.intra ++ bytesTwo t.group ++
    bytesTwo t.emergency
/-- A presence byte, and the characters when the description is present. -/
def presentBytes : Option Description → List Byte
  | none => [0]
  | some d => [1, d.c1, d.c2, d.c3, d.c4]

/-- The request number of R180 and the argument bytes of R189; `none` for an event, which is no
request. -/
def requestBytes : Instr → Option (Nat × List Byte)
  | .loadSlots n first es => some (1, bytesOne n ++ bytesOne first ++ listBytes RawSlot.bytes es)
  | .loadLever l kind t ns rs =>
    some (2, bytesOne l ++ bytesOne kind ++ bytesTwo t ++ listBytes RawCondition.bytes ns ++
      listBytes RawCondition.bytes rs)
  | .loadRoute l ps cs apps time =>
    some (3, bytesOne l ++ listBytes RawPoints.bytes ps ++ listBytes bytesOne cs ++
      listBytes bytesOne apps ++ bytesTwo time)
  | .loadTrack t d ns => some (4, bytesOne t ++ bytesOne d ++ listBytes bytesOne ns)
  | .loadLine x st en home berth cs ks lapse =>
    some (5, bytesOne x ++ bytesOne st ++ bytesOne en ++ bytesOne home ++ bytesOne berth ++
      listBytes RawCondition.bytes cs ++ listBytes RawClearing.bytes ks ++ bytesTwo lapse)
  | .loadCode e p m meaning cls snd =>
    some (6, bytesOne e ++ listBytes bytesOne p ++ listBytes bytesOne m ++ bytesOne meaning ++
      bytesOne cls ++ bytesOne snd)
  | .loadTiming t => some (7, t.bytes)
  | .loadAttention src en p => some (8, bytesOne src ++ bytesOne en ++ bytesOne p)
  | .scanStart => some (16, [])
  | .scanStop => some (17, [])
  | .enterService => some (20, [])
  | .restart => some (21, [])
  | .readStatus => some (32, [])
  | .readLever l => some (33, bytesOne l)
  | .readTrack t => some (34, bytesOne t)
  | .readRoute l => some (35, bytesOne l)
  | .readHold n => some (36, bytesOne n)
  | .listHolds sel st => some (37, bytesOne sel ++ bytesOne st)
  | .readLine x => some (38, bytesOne x)
  | .readCode x => some (39, bytesOne x)
  | .readTrain r => some (40, bytesOne r)
  | .listTrains => some (41, [])
  | .clearMark t => some (48, bytesOne t)
  | .placeBar l p why => some (49, bytesOne l ++ bytesOne p ++ [why])
  | .removeBar n => some (50, bytesOne n)
  | .timedRelease l => some (51, bytesOne l)
  | .createTrain c d => some (52, bytesOne c ++ presentBytes d)
  | .setDestination r d => some (53, bytesOne r ++ bytesOne d)
  | .retireTrain r => some (54, bytesOne r)
  | .offer r x => some (55, bytesOne r ++ bytesOne x)
  | .accept r d => some (56, bytesOne r ++ presentBytes d)
  | .acknowledge x => some (57, bytesOne x)
  | .sendCode x e => some (58, bytesOne x ++ bytesOne e)
  | .tailSeen r => some (59, bytesOne r)
  | .outOfSection r => some (60, bytesOne r)
  | .cancelOffer r => some (61, bytesOne r)
  | .restoreLine x => some (62, bytesOne x)
  | .releaseCode x => some (63, bytesOne x)
  | .nextAttention => some (64, [])
  | .clearAttention src => some (65, bytesOne src)
  | .setClock v => some (66, bytesThree v)
  | _ => none

/-- The request frame of R188: request number, argument length, arguments. -/
def encodeFrame (i : Instr) : Option (List Byte) :=
  match requestBytes i with
  | some (n, args) => some (bytesOne n ++ bytesOne args.length ++ args)
  | none => none

/-- Bits as they come off the wire, most significant bit first, gathered into whole bytes; a part
byte is discarded (R176). -/
def wholeBytes : List Bool → List Byte
  | b7 :: b6 :: b5 :: b4 :: b3 :: b2 :: b1 :: b0 :: rest =>
    BitVec.ofNat 8 (b7.toNat * 128 + b6.toNat * 64 + b5.toNat * 32 + b4.toNat * 16 +
      b3.toNat * 8 + b2.toNat * 4 + b1.toNat * 2 + b0.toNat) :: wholeBytes rest
  | _ => []

/-- The bits of one byte, most significant bit first (R176). -/
def byteBits (b : Byte) : List Bool := [b[7], b[6], b[5], b[4], b[3], b[2], b[1], b[0]]

/-- The bits of a run of bytes in the order they are shifted. -/
def bitsOf (bs : List Byte) : List Bool := bs.flatMap byteBits

end Sys2Proof
end

