-- ==== Sys2Proof/Machine/Operands.lean ====
section
/-! DEFINITION. The operand forms: the numbers of a request's arguments read as the objects they
name (R187, R189), and the same objects as the numbers of a reply. `none` is an argument outside its
range or its encoding. -/

namespace Sys2Proof.Machine

/-! ### Arguments -/

/-- L1 to L40. -/
def leverOf (n : Nat) : Option LeverId :=
  if h : 1 ≤ n ∧ n ≤ 40 then some ⟨n - 1, by omega⟩ else none
/-- T1 to T32. -/
def trackOf (n : Nat) : Option TrackId :=
  if h : 1 ≤ n ∧ n ≤ 32 then some ⟨n - 1, by omega⟩ else none
/-- Train records 1 to 12. -/
def trainOf (n : Nat) : Option TrainId :=
  if h : 1 ≤ n ∧ n ≤ 12 then some ⟨n - 1, by omega⟩ else none
/-- Attention sources 1 to 14. -/
def sourceOf (n : Nat) : Option SourceId :=
  if h : 1 ≤ n ∧ n ≤ 14 then some ⟨n - 1, by omega⟩ else none
/-- H0 to H71. -/
def holdOf (n : Nat) : Option HoldId := if h : n < 72 then some ⟨n, h⟩ else none
/-- C0 to C31. -/
def codeOf (n : Nat) : Option CodeId := if h : n < 32 then some ⟨n, h⟩ else none
/-- Slots 0 to 191. -/
def slotOf (n : Nat) : Option SlotId := if h : n < 192 then some ⟨n, h⟩ else none
/-- Lines A 0, B 1, C 2. -/
def lineOf : Nat → Option Line
  | 0 => some .a
  | 1 => some .b
  | 2 => some .c
  | _ => none
/-- NORMAL 0 and REVERSE 1, the positions an argument may name. -/
def endPosOf : Nat → Option EndPos
  | 0 => some .normal
  | 1 => some .reverse
  | _ => none
/-- SIGNAL 0, POINTS 1, OTHER 2. -/
def leverKindOf : Nat → Option LeverKind
  | 0 => some .signal
  | 1 => some .points
  | 2 => some .other
  | _ => none
/-- no 0, yes 1. -/
def yesNoOf : Nat → Option Bool
  | 0 => some false
  | 1 => some true
  | _ => none
/-- A condition: form 0 LEVER at NORMAL, 1 LEVER at REVERSE, 2 TRACK. -/
def conditionOf (c : RawCondition) : Option Condition :=
  match c.form with
  | 0 => (leverOf c.number).map fun l => .leverAt l .normal
  | 1 => (leverOf c.number).map fun l => .leverAt l .reverse
  | 2 => (trackOf c.number).map .trackClear
  | _ => none
/-- A slot input function and its number; NONE carries 0. -/
def inputFunctionOf (kind number : Nat) : Option InputFunction :=
  match kind with
  | 0 => if number = 0 then some .none else none
  | 1 => (leverOf number).map .leverN
  | 2 => (leverOf number).map .leverR
  | 3 => (leverOf number).map .catch_
  | 4 => (trackOf number).map .track
  | _ => none
/-- A slot output function and its number; NONE carries 0. -/
def outputFunctionOf (kind number : Nat) : Option OutputFunction :=
  match kind with
  | 0 => if number = 0 then some .none else none
  | 1 => (leverOf number).map .magnet
  | 2 => (trackOf number).map .trackLamp
  | _ => none
/-- A slot entry. -/
def slotEntryOf (e : RawSlot) : Option SlotEntry :=
  match inputFunctionOf e.inKind e.inNumber, outputFunctionOf e.outKind e.outNumber with
  | some i, some o => some ⟨i, o⟩
  | _, _ => none
/-- A points entry. -/
def pointsEntryOf (e : RawPoints) : Option PointsEntry :=
  match leverOf e.lever, endPosOf e.position, trackOf e.circuit with
  | some l, some p, some t => some ⟨l, p, t⟩
  | _, _, _ => none
/-- A clearing-hold entry. -/
def clearingOf (e : RawClearing) : Option (LeverId × EndPos) :=
  match leverOf e.lever, endPosOf e.position with
  | some l, some p => some (l, p)
  | _, _ => none
/-- The nine code meanings. -/
def meaningOf : Nat → Option Meaning
  | 0 => some .callAttention
  | 1 => some .offer
  | 2 => some .entering
  | 3 => some .outOfSection
  | 4 => some .cancel
  | 5 => some .obstructionDanger
  | 6 => some .obstructionRemoved
  | 7 => some .testing
  | 8 => some .information
  | _ => none
/-- The destinations SET_DESTINATION may name: UNDECIDED 0, LOCAL 1. -/
def freeDestinationOf : Nat → Option Destination
  | 0 => some .undecided
  | 1 => some .localBox
  | _ => none

/-- Every element of a list read, or none if one is outside its range. -/
def readAll {α β : Type} (f : α → Option β) : List α → Option (List β)
  | [] => some []
  | v :: rest =>
    match f v, readAll f rest with
    | some w, some ws => some (w :: ws)
    | _, _ => none

/-! ### Numbers of a reply -/

def levNo (l : LeverId) : Nat := l.val + 1
def trkNo (t : TrackId) : Nat := t.val + 1
def trainNo (r : TrainId) : Nat := r.val + 1
def lineNo : Line → Nat
  | .a => 0
  | .b => 1
  | .c => 2
def flagNo (b : Bool) : Nat := b.toNat
def deviceNo : Device → Nat
  | .config => 0
  | .service => 1
def scanNo : ScanState → Nat
  | .stopped => 0
  | .starting => 1
  | .running => 2
  | .lost => 3
def trackStateNo : TrackState → Nat
  | .unknown => 0
  | .occupied => 1
  | .pickupTiming => 2
  | .clear => 3
def positionNo : Position → Nat
  | .normal => 0
  | .reverse => 1
  | .between => 2
  | .contradictory => 3
def endPosNo : EndPos → Nat
  | .normal => 0
  | .reverse => 1
def kindNo : LeverKind → Nat
  | .signal => 0
  | .points => 1
  | .other => 2
def releaseNo : Release → Nat
  | .notGranted => 0
  | .granted _ => 1
  | .stroke _ => 2
def gripNo : Grip → Nat
  | .free => 0
  | .seeking => 1
  | .spent => 2
def holdKindNo : HoldKind → Nat
  | .route _ _ => 0
  | .clearing _ => 1
  | .block _ => 2
  | .bar _ => 3
def routeStateNo : RouteState → Nat
  | .idle => 0
  | .granted => 1
  | .set => 2
  | .approachLocked => 3
  | .releasing => 4
  | .sequenceFault => 5
  | .timedRelease => 6
def causeNo : Option FaultCause → Nat
  | some .sequence => 0
  | some .scanLoss => 1
  | some .unreleased => 2
  | none => 255
def instrumentNo : Instrument → Nat
  | .blocked => 0
  | .clear => 1
  | .onLine => 2
def rawReadingNo : RawReading → Nat
  | .none => 0
  | .positive => 1
  | .negative => 2
  | .both => 3
def healthNo : Health → Nat
  | .active => 0
  | .doubtful => 1
  | .suspended => 2
def standingNo : Standing → Nat
  | .none => 0
  | .offered => 1
  | .accepted => 2
  | .inSection => 3
def inboundNo : Inbound → Nat
  | .none => 0
  | .offered => 1
  | .accepted => 2
  | .inSection => 3
  | .arrived => 4
  | .cleared => 5
def outboundNo : Outbound → Nat
  | .none => 0
  | .offered => 1
  | .accepted => 2
  | .inSection => 3
  | .cleared => 5
def destinationNo : Destination → Nat
  | .undecided => 0
  | .localBox => 1
  | .line .a => 2
  | .line .b => 3
  | .line .c => 4
def meaningNo : Meaning → Nat
  | .callAttention => 0
  | .offer => 1
  | .entering => 2
  | .outOfSection => 3
  | .cancel => 4
  | .obstructionDanger => 5
  | .obstructionRemoved => 6
  | .testing => 7
  | .information => 8
def heardNo : Heard → Nat
  | .recognised _ m _ => meaningNo m
  | .unrecognised => 9
  | .malformed => 10
def lineCauseNo : LineCause → Nat
  | .overrun => 0
  | .collided => 1
  | .unacknowledged => 2
  | .instrument => 3
  | .invalid => 4
  | .health => 5
/-- The two bytes of an attention detail (R187), absent 255, 255. -/
def detailBytes : Option Detail → List Byte
  | some (.lever l) => [0, BitVec.ofNat 8 (levNo l)]
  | some (.circuit t) => [1, BitVec.ofNat 8 (trkNo t)]
  | some (.line x) => [2, BitVec.ofNat 8 (lineNo x)]
  | some .host => [3, 0]
  | some (.record r) => [4, BitVec.ofNat 8 (trainNo r)]
  | some (.lineCause c) => [5, BitVec.ofNat 8 (lineCauseNo c)]
  | some (.buffers n) => [6, BitVec.ofNat 8 n]
  | some (.lines p) => [7, BitVec.ofNat 8 (flagNo p.a + 2 * flagNo p.b + 4 * flagNo p.c)]
  | none => [255, 255]
/-- A condition as two bytes (R187). -/
def conditionBytes : Condition → List Byte
  | .leverAt l .normal => [0, BitVec.ofNat 8 (levNo l)]
  | .leverAt l .reverse => [1, BitVec.ofNat 8 (levNo l)]
  | .trackClear t => [2, BitVec.ofNat 8 (trkNo t)]
/-- Bits gathered into one byte, bit 0 first. -/
def bitsByte (bits : List Bool) : Byte :=
  BitVec.ofNat 8 (bits.foldr (fun b n => b.toNat + 2 * n) 0)
/-- A one-byte number that reads 255 when absent (R187). -/
def orAbsent (n : Option Nat) : List Byte := bytesOne (n.getD 255)
/-- A one-byte number whose range starts at 1: 0 when absent (R187). -/
def orZero (n : Option Nat) : List Byte := bytesOne (n.getD 0)

end Sys2Proof.Machine
end

