-- ==== Sys2Proof/Machine/Ops.lean ====
section
/-! DEFINITION. The operations every block shares: the writers of State's tables, the latching of an
attention source, the Hold Table's creations and retirements, and the forming of a reply. -/

namespace Sys2Proof.Machine

/-! ### Writers of State's tables -/

def State.updTrack (s : State) (t : TrackId) (f : Track → Track) : State :=
  { s with tcm := tableUpdate s.tcm t f }
def State.updLever (s : State) (l : LeverId) (f : Lever → Lever) : State :=
  { s with llu := tableUpdate s.llu l f }
def State.updRoute (s : State) (l : LeverId) (f : Route → Route) : State :=
  { s with ru := tableUpdate s.ru l f }
def State.updHold (s : State) (h : HoldId) (v : Option Hold) : State :=
  { s with ht := tableUpdate s.ht h fun _ => v }
def State.updBell (s : State) (x : Line) (f : BellUnit → BellUnit) : State :=
  { s with bu := s.bu.set x (f (s.bu.get x)) }
def State.updLine (s : State) (x : Line) (f : BlockLine → BlockLine) : State :=
  { s with blc := s.blc.set x (f (s.blc.get x)) }
def State.updRecord (s : State) (r : TrainId) (v : Option Train) : State :=
  { s with trt := { s.trt with records := tableUpdate s.trt.records r fun _ => v } }
def State.updTrain (s : State) (r : TrainId) (f : Train → Train) : State :=
  { s with trt := { s.trt with records := tableUpdate s.trt.records r fun v => v.map f } }
def State.setOwed (s : State) (x : Line) (b : Bool) : State :=
  { s with trt := { s.trt with owed := s.trt.owed.set x b } }
def State.updSource (s : State) (i : SourceId) (f : SourceRecord → SourceRecord) : State :=
  { s with au := tableUpdate s.au i f }
def State.setPort (s : State) (cp : ConsolePort) : State := { s with cp := cp }
def State.setSbc (s : State) (sbc : ScanBus) : State := { s with sbc := sbc }

/-! ### Attention -/

/-- R168: a cause latched in a source's record. -/
def SourceRecord.latch (r : SourceRecord) (d : Detail) : SourceRecord :=
  { r with pending := true, detail := some d, multiple := r.pending }

/-- R168: a block hands the AU a cause for a latched source. -/
def latch (src : Source) (d : Detail) (s : State) : State :=
  s.updSource src.id fun r => r.latch d

/-- R174: a latched source's record cleared. -/
def SourceRecord.clear (r : SourceRecord) : SourceRecord :=
  { r with pending := false, detail := none, multiple := false }

/-! ### The Hold Table's creations and retirements -/

/-- One entry of a group (R67, R68). -/
structure GroupEntry where
  kind : HoldKind
  lever : LeverId
  position : EndPos
  deriving DecidableEq, Repr

/-- The Hold Table's answer to a group. -/
inductive GroupAnswer
  /-- created, with the numbers given in the group's order (R67, R68) -/
  | created (numbers : List HoldId)
  /-- refused for want of entries (R70) -/
  | pool
  /-- refused because the device is in CONFIG (R66) -/
  | state
  deriving DecidableEq, Repr

/-- The holds of a group written into the entries given to them. -/
def writeGroup (stamp : Clock) (ht : Vector (Option Hold) 72) :
    List (HoldId × GroupEntry) → Vector (Option Hold) 72
  | [] => ht
  | (h, e) :: rest =>
    writeGroup stamp (tableUpdate ht h fun _ => some ⟨e.kind, e.lever, e.position, stamp⟩) rest

/-- R66, R67, R68: a group judged all-or-nothing against the shared area, lowest free numbers first;
a refusal for want of entries latches POOL with the requester (R70). -/
def createGroup (entries : List GroupEntry) (requester : Detail) (s : State) : GroupAnswer × State :=
  if s.device = .config then (.state, s)
  else if entries.length ≤ sharedCount s.ht then
    let numbers := (freeShared s.ht).take entries.length
    (.created numbers, { s with ht := writeGroup s.tb.clock s.ht (numbers.zip entries) })
  else (.pool, latch .pool requester s)

/-- R71: every live hold that a selection matches is retired. -/
def retireWhere (p : Hold → Bool) (s : State) : State :=
  { s with
    ht := tabulate fun h => match s.ht[h] with
      | some hold => if p hold then none else some hold
      | none => none }

/-- The hold is a ROUTE hold owned by signal lever `l`. -/
def Hold.ownedByRoute (l : LeverId) (h : Hold) : Bool :=
  match h.kind with
  | .route owner _ => decide (owner = l)
  | .clearing _ => false
  | .block _ => false
  | .bar _ => false

/-- The hold is a ROUTE hold owned by signal lever `l` and protected by circuit `t`. -/
def Hold.protectedBy (l : LeverId) (t : TrackId) (h : Hold) : Bool :=
  match h.kind with
  | .route owner p => decide (owner = l) && decide (p = t)
  | .clearing _ => false
  | .block _ => false
  | .bar _ => false

/-- The hold is a CLEARING hold owned by line `x`. -/
def Hold.clearingOf (x : Line) (h : Hold) : Bool :=
  match h.kind with
  | .clearing owner => decide (owner = x)
  | .route _ _ => false
  | .block _ => false
  | .bar _ => false

/-- R71: route, whole. -/
def retireRoute (l : LeverId) : State → State := retireWhere (Hold.ownedByRoute l)
/-- R71: route, protected by a circuit. -/
def retireProtected (l : LeverId) (t : TrackId) : State → State :=
  retireWhere (Hold.protectedBy l t)
/-- R71: clearing, whole. -/
def retireClearing (x : Line) : State → State := retireWhere (Hold.clearingOf x)
/-- R71: block. -/
def retireBlock (x : Line) (s : State) : State := s.updHold (blockEntry x) none

/-- R69: the line's block hold is created in its own entry if that entry is free, with the line's
starter at NORMAL, and left as it stands if it is live. -/
def ensureBlock (x : Line) (s : State) : State :=
  match s.ht[blockEntry x], (s.cfg.lines.get x).starter with
  | none, some starter =>
    s.updHold (blockEntry x) (some ⟨.block x, starter, .normal, s.tb.clock⟩)
  | _, _ => s

/-! ### Replies -/

/-- The status codes of R179. -/
inductive Status
  | done | busy | badFrame | badRequest | badArgument | state | condition | pool | noRecord
  | scanNotReady | leversNotNormal | tableError
  deriving DecidableEq, Repr

/-- R179 -/
def Status.code : Status → Byte
  | .done => 0
  | .busy => 1
  | .badFrame => 2
  | .badRequest => 3
  | .badArgument => 4
  | .state => 5
  | .condition => 6
  | .pool => 7
  | .noRecord => 8
  | .scanNotReady => 9
  | .leversNotNormal => 10
  | .tableError => 11

/-- An owner's answer: a status and the data after the request number. -/
structure Reply where
  status : Status
  data : List Byte
  deriving DecidableEq, Repr

namespace Reply

/-- DONE with its data (R190). -/
def done (data : List Byte) : Reply := ⟨.done, data⟩
/-- DONE without data. -/
def ok : Reply := ⟨.done, []⟩
/-- BUSY: the line's sender is SENDING. -/
def busy : Reply := ⟨.busy, []⟩
/-- STATE. -/
def state : Reply := ⟨.state, []⟩
/-- POOL. -/
def pool : Reply := ⟨.pool, []⟩
/-- NO_RECORD. -/
def noRecord : Reply := ⟨.noRecord, []⟩
/-- BAD_ARGUMENT with the place of the argument, counted from 1. -/
def badArgument (place : Nat) : Reply := ⟨.badArgument, bytesOne place⟩
/-- CONDITION with the place of the first failing condition or entry. -/
def condition (place : Nat) : Reply := ⟨.condition, bytesOne place⟩

end Reply

/-- R179, R188: status, length m, request byte answered, data. -/
def replyFrame (request : Byte) (r : Reply) : List Byte :=
  r.status.code :: BitVec.ofNat 8 (r.data.length + 1) :: request :: r.data

/-- R177: the answer is formed in the reply buffer, the port becomes REPLY_READY and RDY goes high.
Each answer draws its free bytes afresh (log 11). -/
def State.answered (s : State) (request : Byte) (r : Reply) : State :=
  { s with
    cp := { s.cp with state := .replyReady, reply := replyFrame request r }
    draws := s.draws + 1 }

/-- A request and its answer: the state its owner leaves, with the reply formed. -/
def reply (request : Byte) (answer : State × Reply) : State := answer.1.answered request answer.2

/-- A request command: it stands for the host's whole exchange up to the reply. While a request is
EXECUTING (a SCAN_STOP that awaits its closing sync) the host reads BUSY and its selection has no
effect (R177; log 5). -/
def serve (request : Byte) (take : State → State × Reply) (s : State) :
    Host.Outcome State Fault Refusal :=
  if s.cp.state = .executing then .next s else .next (reply request (take s))

/-- The bytes of `n` places from `pos` on to which no rule gives a value (log 11). -/
def State.fill (s : State) (pos n : Nat) : List Byte :=
  (List.range n).map fun i => Config.fill s.draws (pos + i)

/-- A stamp in three bytes; when absent its bytes are free (R187; log 11). -/
def State.stampBytes (s : State) (pos : Nat) : Option Clock → List Byte
  | some c => bytesThree c.toNat
  | none => s.fill pos 3

/-- A pattern in a fixed field of seven bytes: the count, the groups, and bytes that no rule gives a
value (R193, R194, R197; log 11). -/
def State.patternBytes (s : State) (pos : Nat) (groups : List Nat) : List Byte :=
  listBytes bytesOne groups ++ s.fill (pos + 1 + groups.length) (6 - groups.length)

/-- A pattern as a list: a count byte and one byte per group (R187). -/
def patternList (groups : List Nat) : List Byte := listBytes bytesOne groups

end Sys2Proof.Machine
end

