-- ==== Sys2Proof/Machine/Block.lean ====
section
/-! DEFINITION. The Block Line Controllers (07): the block hold, the fault count and its health, the
IN instrument, the outbound standing, the obstruction flag, the sampling of INSTR_IN, and the requests
they own. -/

namespace Sys2Proof.Machine

/-- R136: in SERVICE the block hold is retired if the block condition holds and ensured otherwise. -/
def rejudge (x : Line) (s : State) : State :=
  if s.device = .service then
    if (s.blc.get x).blockCondition then retireBlock x s else ensureBlock x s
  else s

/-- R130, R131: the count is given its new value; a change of health latches LINE_x, and a line that
becomes SUSPENDED has its block hold re-judged. While the line is SUSPENDED a step changes nothing. -/
def changeCount (x : Line) (f : Nat → Nat) (s : State) : State :=
  let old := s.blc.get x
  if old.suspended then s
  else
    let new := healthOf (f old.count)
    let s1 := s.updLine x fun b => { b with count := f b.count }
    if new = old.health then s1
    else
      let s2 := latch (.line x) (.lineCause .health) s1
      if new = .suspended then rejudge x s2 else s2

/-- R130: a rising step, held at 255. -/
def stepUp (x : Line) (n : Nat) : State → State := changeCount x fun c => min 255 (c + n)

/-- R130: the step of -1, held at 0. -/
def stepDown (x : Line) : State → State := changeCount x fun c => c - 1

/-- R126: the IN instrument takes the state instructed. -/
def setInstrument (x : Line) (i : Instrument) (s : State) : State :=
  s.updLine x fun b => { b with inInstrument := i }

/-- R135, R136: the new outbound standing, and the block hold re-judged. -/
def setStanding (x : Line) (st : Standing) (s : State) : State :=
  rejudge x (s.updLine x fun b => { b with standing := st })

/-- R134: the obstruction flag, and the block hold re-judged. -/
def setObstruction (x : Line) (flag : Bool) (s : State) : State :=
  rejudge x (s.updLine x fun b => { b with obstruction := flag })

/-- R127: one sample of INSTR_IN against the settled reading and the candidate. A run of 40 is due to
settle and waits for INSTRUMENT_SETTLING. -/
def BlockLine.sample (b : BlockLine) (r : RawReading) : BlockLine :=
  if r = b.settled then { b with candidate := none }
  else
    match b.candidate with
    | some (c, n) =>
      if r = c then { b with candidate := some (c, min 40 (n + 1)) }
      else { b with candidate := some (r, 1) }
    | none => { b with candidate := some (r, 1) }

/-- R133: a rising-edge notice restarts a running quiet wait, to end 2000 ticks after the edge. -/
def BlockLine.risingEdge (b : BlockLine) (edge : Tick) : BlockLine :=
  { b with quiet := b.quiet.map fun _ => edge + 2000 }

/-- R132: RESTORE_LINE. -/
def takeRestoreLine (line : Nat) (s : State) : State × Reply :=
  if s.device = .config then (s, .state)
  else
    match lineOf line with
    | none => (s, .badArgument 1)
    | some x =>
      if (s.blc.get x).suspended then
        (s.updLine x fun b => { b with quiet := some (s.tb.tickCount + 2000) },
          .done (bytesTwo 2000))
      else (s, .state)

/-- RESTORE_LINE (R132). -/
def execRestoreLine (line : Nat) (s : State) : Host.Outcome State Fault Refusal :=
  serve 62 (takeRestoreLine line) s

/-- R133: the quiet wait has run to its end. Where a rising-edge notice comes at the tick of the end, R133
allows either order; the notice is of TICK, at which the end is not yet due, and is taken first (log
42). -/
def quietWaitDue (x : Line) (s : State) : Bool :=
  match (s.blc.get x).quiet with
  | some t => reached s.tb.tickCount t
  | none => false

/-- QUIET_WAIT_END (R133). -/
def execQuietWaitEnd (x : Line) (s : State) : Host.Outcome State Fault Refusal :=
  if quietWaitDue x s then
    .next (rejudge x (latch (.line x) (.lineCause .health)
      (s.updLine x fun b => { b with count := 0, quiet := none })))
  else .next s

end Sys2Proof.Machine
end

