-- ==== Sys2Proof/Machine/Bell.lean ====
section
/-! DEFINITION. The Bell Units (06): sampling, pulses, beats and codes on the way in; the sender,
blanking and expected repetition on the way out; the received-code buffers; the requests they own. -/

namespace Sys2Proof.Machine

/-! ### From samples to a code -/

/-- One more beat in the last group of a code; a tenth marks the code OVERFLOW and the count stays at
9 (R105). -/
def Assembly.beatInGroup (c : Assembly) : Assembly :=
  match c.groups.reverse with
  | last :: before =>
    if last < 9 then { c with groups := ((last + 1) :: before).reverse }
    else { c with overflow := true }
  | [] => { c with groups := [1] }

/-- A new group; a seventh marks the code OVERFLOW and is not stored (R105). -/
def Assembly.newGroup (c : Assembly) : Assembly :=
  if c.groups.length < 6 then { c with groups := c.groups ++ [1] }
  else { c with beyond := true, overflow := true }

/-- R104, R105: an accepted beat placed in the code being assembled. Its falling edge becomes the gap
reference and restarts the end timer. -/
def placeBeat (t : Timing) (rise fall : Tick) (held : Bool) (code : Option Assembly) : Assembly :=
  let c : Assembly :=
    match code with
    | none => ⟨[1], false, false, false, fall, fall⟩
    | some c =>
      if c.beyond then c
      else if (rise - c.lastFall).toNat < t.groupGap then c.beatInGroup
      else c.newGroup
  { c with held := c.held || held, lastFall := fall, endTick := fall + BitVec.ofNat 32 t.endGap }

/-- R104: the pulse closed by a falling edge is noise, a beat or a held beat by its width. -/
def BellUnit.fallingEdge (b : BellUnit) (t : Timing) (fall : Tick) : BellUnit :=
  match b.pulse with
  | none => b
  | some rise =>
    let width := (fall - rise).toNat
    if width < t.minBeat then { b with pulse := none }
    else
      { b with
        pulse := none
        code := some (placeBeat t rise fall (decide (t.maxBeat < width)) b.code) }

/-- R102: one sample of BELL_IN at tick `now`. The edge tick of a change is that of its candidate. -/
def BellUnit.sample (b : BellUnit) (t : Timing) (now : Tick) (lvl : Bool) : BellUnit :=
  if lvl = b.level then { b with candidate := none }
  else
    match b.candidate with
    | none => { b with candidate := some now }
    | some edge =>
      if lvl then { b with level := true, candidate := none, pulse := some edge }
      else { b with level := false, candidate := none }.fallingEdge t edge

/-- R102: the edge tick of the rising-edge notice that a sample gives, if it gives one. -/
def BellUnit.risingNotice (b : BellUnit) (lvl : Bool) : Option Tick :=
  if lvl && !b.level then b.candidate else none

/-- R102, R133: the sample of a line's BELL_IN, with its rising-edge notice to the Block Line
Controller. -/
def sampleBell (x : Line) (lvl : Bool) (s : State) : State :=
  let b := s.bu.get x
  let s1 := s.updBell x fun b => b.sample s.cfg.timing s.tb.tickCount lvl
  match b.risingNotice lvl with
  | some edge => s1.updLine x fun c => c.risingEdge edge
  | none => s1

/-! ### Matching -/

/-- R108: a group of a code against a group of a pattern. -/
def GroupSpec.accepts (g : GroupSpec) (n : Nat) : Bool := !g.care || decide (g.count = n)

/-- R108: the groups of a code against a pattern. -/
def patternMatches : List GroupSpec → List Nat → Bool
  | [], [] => true
  | g :: gs, n :: ns => g.accepts n && patternMatches gs ns
  | [], _ :: _ => false
  | _ :: _, [] => false

/-- R108: an entry matches a code; an empty entry matches nothing. -/
def entryMatches (groups : List Nat) : Option CodeEntry → Bool
  | some e => patternMatches e.pattern groups
  | none => false

/-- R106, R108: what a decoded code is found to be. -/
def identify (codes : Vector (Option CodeEntry) 32) (c : Assembly) : Heard :=
  if c.held || c.overflow then .malformed
  else
    match lowest fun i : CodeId => entryMatches c.groups codes[i] with
    | some i =>
      match codes[i] with
      | some e => .recognised i e.meaning e.trainClass
      | none => .unrecognised
    | none => .unrecognised

/-- R121: a well-formed code equal to the expected repetition. -/
def BellUnit.isRepetition (b : BellUnit) (heard : Heard) (groups : List Nat) : Bool :=
  match b.expected with
  | some e => decide (heard ≠ .malformed) && decide (groups = e.groups)
  | none => false

/-! ### The received-code buffers -/

/-- The buffer named by the write turn. -/
def BellUnit.turnBuffer (b : BellUnit) : Option StoredCode :=
  if b.turn then b.buffer1 else b.buffer0

/-- R112: the code stored in the buffer named by the write turn, which passes. -/
def BellUnit.store (b : BellUnit) (c : StoredCode) : BellUnit :=
  if b.turn then { b with buffer1 := some c, turn := false }
  else { b with buffer0 := some c, turn := true }

/-- R112: the code offered to the buffers. -/
def storeCode (x : Line) (c : StoredCode) (s : State) : State :=
  if (s.bu.get x).turnBuffer.isNone then s.updBell x fun b => b.store c
  else latch (.line x) (.lineCause .overrun) (s.updBell x fun b => { b with overrun := true })

/-- R114: the older unreleased buffer freed and OVERRUN cleared. -/
def BellUnit.releaseOlder (b : BellUnit) : BellUnit :=
  if b.olderIsOne then { b with buffer1 := none, overrun := false }
  else { b with buffer0 := none, overrun := false }

/-! ### The sender -/

/-- R116 to R118, R121, R122: a send is taken: what is in assembly is discarded, COLLIDED says
whether anything was, the expectation and UNACKNOWLEDGED are cleared, the first beat starts at the
next tick, and BELL_IN is blanked until 10 ticks after the last beat. -/
def BellUnit.beginSend (b : BellUnit) (t : Timing) (now : Tick) (groups : List Nat)
    (entry : Option CodeId) (meaning : Option Meaning) : BellUnit :=
  let d := sendLength t groups
  { b with
    level := false
    candidate := none
    pulse := none
    code := none
    sender := some ⟨now + 1, groups, entry, meaning, d⟩
    blankUntil := some (now + 1 + BitVec.ofNat 32 (d + 10))
    expected := none
    unacknowledged := false
    collided := b.code.isSome || b.pulse.isSome }

/-- R116, R118: a send is taken on line `x`; COLLIDED latches LINE_x. -/
def takeSend (x : Line) (groups : List Nat) (entry : Option CodeId) (meaning : Option Meaning)
    (s : State) : State :=
  let b := s.bu.get x
  let s1 := s.updBell x fun b => b.beginSend s.cfg.timing s.tb.tickCount groups entry meaning
  if b.code.isSome || b.pulse.isSome then latch (.line x) (.lineCause .collided) s1 else s1

/-- The send of a code table entry. -/
def takeEntrySend (x : Line) (c : CodeId) (s : State) : State :=
  match s.cfg.codes[c] with
  | some e => takeSend x e.counts (some c) (some e.meaning) s
  | none => s

/-- The length D of the send of an entry. -/
def State.entryLength (s : State) (c : CodeId) : Nat :=
  match s.cfg.codes[c] with
  | some e => sendLength s.cfg.timing e.counts
  | none => 0

/-- R116, R152: the automatic ENTERING: taken by an IDLE sender, held as the pending send otherwise. -/
def autoEntering (x : Line) (s : State) : State :=
  match entryToSend s.cfg.codes .entering none with
  | some c =>
    if (s.bu.get x).sender.isNone then takeEntrySend x c s
    else s.updBell x fun b => { b with pendingEntering := true }
  | none => s

/-! ### Events -/

/-- R117: the blanking has run to its end. -/
def blankingDue (x : Line) (s : State) : Bool :=
  match (s.bu.get x).blankUntil with
  | some t => reached s.tb.tickCount t
  | none => false

/-- BLANKING_END (R117, R102): sampling resumes with the sample of this tick. -/
def execBlankingEnd (x : Line) (bellIn : Bool) (s : State) : Host.Outcome State Fault Refusal :=
  if blankingDue x s then
    .next (sampleBell x bellIn (s.updBell x fun b => { b with blankUntil := none }))
  else .next s

/-- R121: the deadline of the expected repetition is due. -/
def repetitionDue (x : Line) (s : State) : Bool :=
  match (s.bu.get x).expected with
  | some e => decide (e.deadline = 0)
  | none => false

/-- REPETITION_DEADLINE_EXPIRY (R121, R122). -/
def execRepetitionDeadlineExpiry (x : Line) (s : State) : Host.Outcome State Fault Refusal :=
  if repetitionDue x s then
    .next (latch (.line x) (.lineCause .unacknowledged)
      (s.updBell x fun b => { b with expected := none, unacknowledged := true }))
  else .next s

/-! ### Requests -/

/-- R119 order 5: the meanings SEND_CODE does not send. -/
def sendableByHost (owed : Bool) : Meaning → Bool
  | .offer | .outOfSection | .cancel => false
  | .entering => owed
  | .callAttention | .obstructionDanger | .obstructionRemoved | .testing | .information => true

/-- R119: SEND_CODE. -/
def takeSendCode (line entry : Nat) (s : State) : State × Reply :=
  if s.device = .config then (s, .state)
  else
    match lineOf line, codeOf entry with
    | none, _ => (s, .badArgument 1)
    | some _, none => (s, .badArgument 2)
    | some x, some c =>
      match s.cfg.codes[c] with
      | none => (s, .noRecord)
      | some e =>
        if !e.sendable then (s, .badArgument 2)
        else if !sendableByHost (s.trt.owed.get x) e.meaning then (s, .badArgument 2)
        else if (s.blc.get x).suspended then (s, .state)
        else if (s.bu.get x).sender.isSome then (s, .busy)
        else
          (takeSend x e.counts (some c) (some e.meaning) s,
            .done (bytesTwo (sendLength s.cfg.timing e.counts)))

/-- SEND_CODE (R119). -/
def execSendCode (line entry : Nat) (s : State) : Host.Outcome State Fault Refusal :=
  serve 58 (takeSendCode line entry) s

/-- R120: ACKNOWLEDGE. -/
def takeAcknowledge (line : Nat) (s : State) : State × Reply :=
  if s.device = .config then (s, .state)
  else
    match lineOf line with
    | none => (s, .badArgument 1)
    | some x =>
      if (s.blc.get x).suspended then (s, .state)
      else
        match (s.bu.get x).lastRecognised with
        | none => (s, .noRecord)
        | some c =>
          if (s.bu.get x).sender.isSome then (s, .busy)
          else
            (takeSend x c.groups none none s,
              .done (patternList c.groups ++ bytesTwo (sendLength s.cfg.timing c.groups)))

/-- ACKNOWLEDGE (R120). -/
def execAcknowledge (line : Nat) (s : State) : Host.Outcome State Fault Refusal :=
  serve 57 (takeAcknowledge line) s

/-- R114: RELEASE_CODE. -/
def takeReleaseCode (line : Nat) (s : State) : State × Reply :=
  match lineOf line with
  | none => (s, .badArgument 1)
  | some x =>
    let b := s.bu.get x
    if b.unreleased = 0 then (s, .noRecord)
    else
      (s.updBell x BellUnit.releaseOlder,
        .done (bytesOne (b.unreleased - 1) ++ bytesOne (flagNo b.overrun)))

/-- RELEASE_CODE (R114). -/
def execReleaseCode (line : Nat) (s : State) : Host.Outcome State Fault Refusal :=
  serve 63 (takeReleaseCode line) s

end Sys2Proof.Machine
end

