-- ==== Sys2Proof/Machine/Train.lean ====
section
/-! DEFINITION. The Train Record Table (08): records and their pool, received codes judged by the
state of a line's halves, adoptions of the OUT instrument, section entry and berth events, lapses and
retirement, and the requests it owns. -/

namespace Sys2Proof.Machine

/-! ### Records -/

/-- No stamp reached. -/
def TrainStamps.absent : TrainStamps := ⟨none, none, none, none, none, none⟩

/-- R142: a record made live. -/
def Train.fresh (cls : Nat) (description : Option Description) : Train where
  trainClass := cls
  description := description
  arrivalLine := none
  offerHeard := none
  inbound := .none
  tailSeen := false
  berthSeen := false
  destination := .undecided
  outbound := .none
  stamps := TrainStamps.absent
  inLapse := none
  outLapse := none
  unannounced := false
  withdrawn := false
  lapsed := false

/-- R161: the retirement check. -/
def Train.retires (t : Train) : Bool :=
  !t.inbound.active && !t.outbound.active &&
    (decide (t.outbound = .cleared) ||
      (decide (t.destination = .localBox) && decide (t.inbound = .cleared)) ||
      (t.arrivalLine.isSome && decide (t.inbound = .none) && decide (t.outbound = .none)))

/-- R161: the record is freed if the check retires it. -/
def retirementCheck (r : TrainId) (s : State) : State :=
  match s.trt.records[r] with
  | some t => if t.retires then s.updRecord r none else s
  | none => s

/-- The record of a train is free. -/
def State.recordFree (s : State) (r : TrainId) : Bool := s.trt.records[r].isNone

/-- TRAIN latched with the number of a record changed by a code, an instrument, a track event or a
lapse. -/
def latchTrain (r : TrainId) (s : State) : State := latch .train (.record r) s

/-- R145 step 5, R159, R161: TRAIN latched for a change, and for the retirement that may follow it
(whether that is a second cause: log 13). -/
def latchChange (r : TrainId) (s : State) : State :=
  if s.recordFree r && Config.retirementIsSecondCause then latchTrain r (latchTrain r s)
  else latchTrain r s

/-- R126 and R148, R155, R157: the line's inbound half leaves the section. -/
def Train.leavesInbound (t : Train) (st : Inbound) : Train :=
  { t with inbound := st, inLapse := none }

/-! ### Received codes -/

/-- What the judgement of a code gives: the state, whether it was in turn, and the record it
changed. -/
structure Judgement where
  state : State
  inTurn : Bool
  changed : Option TrainId

/-- A recognised code as the Bell Unit hands it over (R110). -/
structure ReceivedCode where
  line : Line
  meaning : Meaning
  trainClass : Option Nat
  groups : List Nat
  repetition : Bool
  received : Clock
  deriving DecidableEq, Repr

/-- Out of turn: no record changes. -/
def Judgement.outOfTurn (s : State) : Judgement := ⟨s, false, none⟩
/-- In turn without effect. -/
def Judgement.noEffect (s : State) : Judgement := ⟨s, true, none⟩

/-- R143: the record an offer received on line `x` is given. -/
def TrainTable.recordForOffer (t : TrainTable) (x : Line) : Option TrainId :=
  match t.freeShared with
  | some r => some r
  | none => if t.records[reserveRecord x].isNone then some (reserveRecord x) else none

/-- R146: a record created by an offer. -/
def Train.offered (c : ReceivedCode) (lapse : Nat) : Train :=
  { Train.fresh (c.trainClass.getD 0) none with
    arrivalLine := some c.line
    offerHeard := some c.groups
    inbound := .offered
    stamps := { TrainStamps.absent with offeredIn := some c.received }
    inLapse := some lapse }

/-- R146: a received OFFER. -/
def judgeOffer (c : ReceivedCode) (s : State) : Judgement :=
  match s.trt.inboundTrain c.line with
  | some _ => .outOfTurn s
  | none =>
    match s.trt.recordForOffer c.line with
    | some r =>
      ⟨s.updRecord r (some (Train.offered c (s.cfg.lines.get c.line).lapse)), true, some r⟩
    | none => .outOfTurn (latch .pool (.line c.line) s)

/-- The record's inbound state, when it is live. -/
def State.inboundOf (s : State) (r : TrainId) : Inbound :=
  match s.trt.records[r] with
  | some t => t.inbound
  | none => .none

/-- The record's outbound state, when it is live. -/
def State.outboundOf (s : State) (r : TrainId) : Outbound :=
  match s.trt.records[r] with
  | some t => t.outbound
  | none => .none

/-- R147: a received ENTERING. -/
def judgeEntering (c : ReceivedCode) (s : State) : Judgement :=
  match s.trt.inboundTrain c.line with
  | some r =>
    if s.inboundOf r = .accepted then
      ⟨setInstrument c.line .onLine (s.updTrain r fun t =>
        { t with inbound := .inSection, stamps := { t.stamps with enteredIn := some c.received } }),
        true, some r⟩
    else .outOfTurn s
  | none => .outOfTurn s

/-- R147: a received OUT_OF_SECTION. -/
def judgeOutOfSection (c : ReceivedCode) (s : State) : Judgement :=
  match s.trt.outboundTrain c.line with
  | some r =>
    if s.outboundOf r = .inSection then
      let s1 := s.updTrain r fun t =>
        { t with outbound := .cleared, stamps := { t.stamps with clearedOut := some c.received } }
      let s2 := (setStanding c.line .none s1).setOwed c.line false
      ⟨retirementCheck r s2, true, some r⟩
    else .outOfTurn s
  | none => .outOfTurn s

/-- R148: a received CANCEL. -/
def judgeCancel (c : ReceivedCode) (s : State) : Judgement :=
  match s.trt.inboundTrain c.line with
  | some r =>
    if s.inboundOf r = .offered ∨ s.inboundOf r = .accepted then
      let s1 := s.updTrain r fun t => t.leavesInbound .none
      let s2 := if s.inboundOf r = .accepted then retireClearing c.line s1 else s1
      ⟨retirementCheck r (setInstrument c.line .blocked s2), true, some r⟩
    else .outOfTurn s
  | none => .outOfTurn s

/-- R145 step 2: a code judged by its meaning (R146 to R149). -/
def judgeMeaning (c : ReceivedCode) (s : State) : Judgement :=
  match c.meaning with
  | .offer => judgeOffer c s
  | .entering => judgeEntering c s
  | .outOfSection => judgeOutOfSection c s
  | .cancel => judgeCancel c s
  | .callAttention | .testing | .information => .noEffect s
  | .obstructionDanger => .noEffect (setObstruction c.line true s)
  | .obstructionRemoved => .noEffect (setObstruction c.line false s)

/-- R145: a recognised code taken, with the answer whether it was out of turn. -/
def takeReceivedCode (c : ReceivedCode) (s : State) : State × Bool :=
  let j := if c.repetition then Judgement.noEffect s else judgeMeaning c s
  let s1 := if j.inTurn then stepDown c.line j.state else stepUp c.line 4 j.state
  match j.changed with
  | some r => (latchChange r s1, !j.inTurn)
  | none => (s1, !j.inTurn)

/-! ### Adoptions of the OUT instrument -/

/-- R151: an acceptance withdrawn. -/
def withdrawAcceptance (x : Line) (r : TrainId) (s : State) : State :=
  latchTrain r (setStanding x .offered (s.updTrain r fun t =>
    { t with
      outbound := .offered
      withdrawn := true
      outLapse := some (s.cfg.lines.get x).lapse }))

/-- R151: the outbound half accepted. -/
def acceptOutbound (x : Line) (r : TrainId) (s : State) : State :=
  latchTrain r (setStanding x .accepted (s.updTrain r fun t =>
    { t with outbound := .accepted, outLapse := none }))

/-- R151: an adoption judged by the new state, the line's outbound half and the obstruction flag. -/
def judgeAdoption (x : Line) (new : Instrument) (s : State) : State :=
  let train := s.trt.outboundTrain x
  let half := (train.map s.outboundOf).getD .none
  match new, train, half with
  | .clear, some r, .offered =>
    if (s.blc.get x).obstruction then s else acceptOutbound x r s
  | .clear, _, .accepted => if Config.clearWhileAcceptedIrregular then stepUp x 4 s else s
  | .clear, _, _ => stepUp x 4 s
  | .onLine, some r, .accepted => withdrawAcceptance x r (stepUp x 4 s)
  | .onLine, _, .inSection => s
  | .onLine, _, _ => stepUp x 4 s
  | .blocked, some r, .accepted => withdrawAcceptance x r s
  | .blocked, _, _ => s

/-! ### Track events -/

/-- R152: the section entry of the line's outbound train. -/
def enterSection (x : Line) (r : TrainId) (s : State) : State :=
  let s1 := s.updTrain r fun t =>
    { t with outbound := .inSection, stamps := { t.stamps with enteredOut := some s.tb.clock } }
  let s2 := setStanding x .inSection s1
  let s3 := if (s2.blc.get x).health = .active then autoEntering x s2 else s2.setOwed x true
  latchTrain r s3

/-- R152: an occupation of a line's section-entry circuit. -/
def entryOccupied (x : Line) (t : TrackId) (s : State) : State :=
  match s.trt.outboundTrain x with
  | some r =>
    if s.outboundOf r = .accepted then enterSection x r s
    else latch .trackFault (.circuit t) s
  | none => latch .trackFault (.circuit t) s

/-- R154: a berth occupied with no ENTERING heard. -/
def arriveUnannounced (x : Line) (r : TrainId) (s : State) : State :=
  latchTrain r (setInstrument x .onLine (s.updTrain r fun t =>
    { t with
      inbound := .inSection
      unannounced := true
      berthSeen := true
      stamps := { t.stamps with enteredIn := some s.tb.clock } }))

/-- The record's berth-seen flag, when it is live. -/
def State.berthSeenOf (s : State) (r : TrainId) : Bool :=
  match s.trt.records[r] with
  | some t => t.berthSeen
  | none => false

/-- R154: an occupation of a line's berth circuit. -/
def berthOccupied (x : Line) (t : TrackId) (s : State) : State :=
  match s.trt.inboundTrain x with
  | some r =>
    match s.inboundOf r with
    | .accepted => arriveUnannounced x r s
    | .inSection =>
      if s.berthSeenOf r then s
      else latchTrain r (s.updTrain r fun tr => { tr with berthSeen := true })
    | .arrived => s
    | .offered | .none | .cleared => latch .trackFault (.circuit t) s
  | none => latch .trackFault (.circuit t) s

/-- R152, R154: an occupation event judged for each line that names the circuit, in the order A, B,
C. -/
def trainOccupation (t : TrackId) (s : State) : State :=
  forEachLine (fun x s =>
    let s1 := if (s.cfg.lines.get x).entryCircuit = some t then entryOccupied x t s else s
    if (s1.cfg.lines.get x).berth = some t then berthOccupied x t s1 else s1) s

/-- R155: the arrival of the line's inbound train: ARRIVED, the clearing holds retired. -/
def arriveInbound (x : Line) (r : TrainId) (s : State) : State :=
  retireClearing x (s.updTrain r fun t =>
    { t with inbound := .arrived, stamps := { t.stamps with arrived := some s.tb.clock } })

/-- R155: a clearance of a line's berth circuit. -/
def berthCleared (x : Line) (s : State) : State :=
  match s.trt.inboundTrain x with
  | some r =>
    if s.inboundOf r = .inSection ∧ s.berthSeenOf r = true then latchTrain r (arriveInbound x r s)
    else s
  | none => s

/-- R155: a clearance event judged for each line whose berth it is. R154 gives the order A, B, C for an
occupation event only; DESIGN CHOICE: a clearance event is judged in that order too (log 43). -/
def trainClearance (t : TrackId) (s : State) : State :=
  forEachLine (fun x s =>
    if (s.cfg.lines.get x).berth = some t then berthCleared x s else s) s

/-! ### Send completions -/

/-- R152: what a send-completed notice does to ENTERING owed: an ENTERING clears it, a dropped
pending ENTERING sets it (both at once: log 20). -/
def takeSendCompleted (x : Line) (meaning : Option Meaning) (dropped : Bool) (s : State) : State :=
  let s1 := if meaning = some .entering then s.setOwed x false else s
  if dropped then s1.setOwed x true else s1

/-! ### Lapses -/

/-- R159: the lapse deadline of a half is due with the half still OFFERED. -/
def lapseDue (r : TrainId) (h : Half) (s : State) : Bool :=
  match s.trt.records[r] with
  | some t =>
    match h with
    | .inbound => decide (t.inLapse = some 0) && decide (t.inbound = .offered)
    | .outbound => decide (t.outLapse = some 0) && decide (t.outbound = .offered)
  | none => false

/-- R159: an inbound lapse. -/
def lapseInbound (r : TrainId) (s : State) : State :=
  let s1 := s.updTrain r fun t => { t.leavesInbound .none with lapsed := true }
  let s2 :=
    match s.trt.records[r] with
    | some t =>
      match t.arrivalLine with
      | some x => setInstrument x .blocked s1
      | none => s1
    | none => s1
  latchChange r (retirementCheck r s2)

/-- R158, R159: the outbound half returns to NONE and its destination to UNDECIDED; the line's
standing follows it. -/
def dropOutbound (r : TrainId) (lapsed : Bool) (s : State) : State :=
  let s1 := s.updTrain r fun t =>
    { t with
      outbound := .none
      outLapse := none
      destination := .undecided
      lapsed := t.lapsed || lapsed }
  match s.trt.records[r] with
  | some t =>
    match t.destination with
    | .line x => setStanding x .none s1
    | .undecided => s1
    | .localBox => s1
  | none => s1

/-- LAPSE_EXPIRY (R159). -/
def execLapseExpiry (r : TrainId) (h : Half) (s : State) : Host.Outcome State Fault Refusal :=
  if lapseDue r h s then
    match h with
    | .inbound => .next (lapseInbound r s)
    | .outbound => .next (latchChange r (retirementCheck r (dropOutbound r true s)))
  else .next s

/-! ### Requests -/

/-- A request about a live record: STATE in CONFIG, BAD_ARGUMENT, NO_RECORD, then its own tests. -/
def withRecord (train : Nat) (k : TrainId → Train → State → State × Reply) (s : State) :
    State × Reply :=
  if s.device = .config then (s, .state)
  else
    match trainOf train with
    | none => (s, .badArgument 1)
    | some r =>
      match s.trt.records[r] with
      | none => (s, .noRecord)
      | some t => k r t s

/-- R150: OFFER with its send taken. -/
def offerOn (x : Line) (r : TrainId) (c : CodeId) (s : State) : State :=
  let s1 := takeEntrySend x c s
  let s2 := s1.updTrain r fun t =>
    { t with
      outbound := .offered
      destination := .line x
      stamps := { t.stamps with offeredOut := some s.tb.clock }
      outLapse := some (s.cfg.lines.get x).lapse }
  setStanding x .offered s2

/-- R150: OFFER. -/
def takeOffer (train line : Nat) (s : State) : State × Reply :=
  if s.device = .config then (s, .state)
  else
    match trainOf train, lineOf line with
    | none, _ => (s, .badArgument 1)
    | some _, none => (s, .badArgument 2)
    | some r, some x =>
      match s.trt.records[r] with
      | none => (s, .noRecord)
      | some t =>
        if (s.blc.get x).suspended then (s, .state)
        else if (s.trt.outboundTrain x).isSome || decide (t.outbound ≠ .none) then (s, .state)
        else
          match entryToSend s.cfg.codes .offer (some t.trainClass) with
          | none => (s, .badArgument 1)
          | some c =>
            if (s.bu.get x).sender.isSome then (s, .busy)
            else (offerOn x r c s, .done (bytesOne c.val ++ bytesTwo (s.entryLength c)))

/-- OFFER (R150). -/
def execOffer (train line : Nat) (s : State) : Host.Outcome State Fault Refusal :=
  serve 55 (takeOffer train line) s

/-- R68, R153: the CLEARING group of a line. -/
def clearingGroup (x : Line) (s : State) : List GroupEntry :=
  (s.cfg.lines.get x).clearing.map fun e => ⟨.clearing x, e.1, e.2⟩

/-- R153: ACCEPT with its group created and its send taken. -/
def acceptOn (x : Line) (r : TrainId) (description : Option Description) (heard : List Nat)
    (s : State) : State :=
  let s1 := takeSend x heard none none s
  let s2 := s1.updTrain r fun t =>
    { t with
      inbound := .accepted
      inLapse := none
      description := if description.isSome then description else t.description }
  setInstrument x .clear s2

/-- R153 orders 9 to 11, after the tests of orders 4 to 8. -/
def acceptGroup (x : Line) (r : TrainId) (description : Option Description) (heard : List Nat)
    (s : State) : State × Reply :=
  match createGroup (clearingGroup x s) (.line x) s with
  | (.created numbers, s1) =>
    if (s.bu.get x).sender.isSome then (retireClearing x s1, .busy)
    else
      (acceptOn x r description heard s1,
        .done (listBytes bytesOne (numbers.map fun h => h.val) ++
          bytesTwo (sendLength s.cfg.timing heard)))
  | (.pool, s1) => (s1, .pool)
  | (.state, s1) => (s1, .state)

/-- R153: ACCEPT. -/
def takeAccept (train : Nat) (description : Option Description) : State → State × Reply :=
  withRecord train fun r t s =>
    match t.inbound, t.arrivalLine with
    | .offered, some x =>
      if (s.blc.get x).suspended then (s, .state)
      else if (s.blc.get x).inInstrument ≠ .blocked then (s, .state)
      else
        match firstFailing (s.condition s.recorded) 1 (s.cfg.lines.get x).conditions with
        | some place => (s, .condition place)
        | none =>
          match firstFailing (fun e => s.stands s.recorded e.1 e.2) 13
              (s.cfg.lines.get x).clearing with
          | some place => (s, .condition place)
          | none => acceptGroup x r description (t.offerHeard.getD []) s
    | _, _ => (s, .state)

/-- ACCEPT (R153). -/
def execAccept (train : Nat) (description : Option Description) (s : State) :
    Host.Outcome State Fault Refusal :=
  serve 56 (takeAccept train description) s

/-- The circuit is CLEAR, when one is named. -/
def State.circuitClear (s : State) : Option TrackId → Bool
  | some t => s.tcm[t].isClear
  | none => false

/-- R156: TAIL_SEEN. -/
def takeTailSeen (train : Nat) : State → State × Reply :=
  withRecord train fun r t s =>
    match t.inbound, t.arrivalLine with
    | .arrived, _ => (s.updTrain r fun t => { t with tailSeen := true }, .ok)
    | .inSection, some x =>
      if !t.berthSeen && s.circuitClear (s.cfg.lines.get x).berth then
        ((arriveInbound x r s).updTrain r fun t => { t with tailSeen := true, berthSeen := true },
          .ok)
      else (s, .state)
    | _, _ => (s, .state)

/-- TAIL_SEEN (R156). -/
def execTailSeen (train : Nat) (s : State) : Host.Outcome State Fault Refusal :=
  serve 59 (takeTailSeen train) s

/-- The lever stands NORMAL by its recorded position and is not unseen, when one is named. -/
def State.standsNormal (s : State) : Option LeverId → Bool
  | some l => s.stands s.recorded l .normal
  | none => false

/-- R157: OUT_OF_SECTION with its send taken. -/
def giveBackSection (x : Line) (r : TrainId) (c : CodeId) (s : State) : State :=
  let s1 := takeEntrySend x c s
  let s2 := s1.updTrain r fun t => { t with inbound := .cleared }
  retirementCheck r (setInstrument x .blocked s2)

/-- CONDITION from OUT_OF_SECTION, whose place no rule gives (log 12). -/
def State.outOfSectionCondition (s : State) (order : Nat) : Reply :=
  ⟨.condition, [Config.outOfSectionPlace s.draws order]⟩

/-- R157: OUT_OF_SECTION. -/
def takeOutOfSection (train : Nat) : State → State × Reply :=
  withRecord train fun r t s =>
    match t.inbound, t.tailSeen, t.arrivalLine with
    | .arrived, true, some x =>
      if (s.blc.get x).suspended then (s, .state)
      else if !s.standsNormal (s.cfg.lines.get x).home then (s, s.outOfSectionCondition 6)
      else if !s.circuitClear (s.cfg.lines.get x).berth then (s, s.outOfSectionCondition 7)
      else
        match entryToSend s.cfg.codes .outOfSection none with
        | none => (s, .badArgument 1)
        | some c =>
          if (s.bu.get x).sender.isSome then (s, .busy)
          else
            let s1 := giveBackSection x r c s
            (s1, .done (bytesTwo (s.entryLength c) ++ bytesOne (flagNo (s1.recordFree r))))
    | _, _, _ => (s, .state)

/-- OUT_OF_SECTION (R157). -/
def execOutOfSection (train : Nat) (s : State) : Host.Outcome State Fault Refusal :=
  serve 60 (takeOutOfSection train) s

/-- R158: CANCEL_OFFER. -/
def takeCancelOffer (train : Nat) : State → State × Reply :=
  withRecord train fun r t s =>
    match t.destination with
    | .line x =>
      if t.outbound ≠ .offered ∧ t.outbound ≠ .accepted then (s, .state)
      else if (s.blc.get x).suspended then (s, .state)
      else
        match entryToSend s.cfg.codes .cancel none with
        | none => (s, .badArgument 1)
        | some c =>
          if (s.bu.get x).sender.isSome then (s, .busy)
          else (retirementCheck r (dropOutbound r false (takeEntrySend x c s)), .ok)
    | .undecided => (s, .state)
    | .localBox => (s, .state)

/-- CANCEL_OFFER (R158). -/
def execCancelOffer (train : Nat) (s : State) : Host.Outcome State Fault Refusal :=
  serve 61 (takeCancelOffer train) s

/-- R160: CREATE_TRAIN. -/
def takeCreateTrain (cls : Nat) (description : Option Description) (s : State) : State × Reply :=
  if s.device = .config then (s, .state)
  else if cls < 1 ∨ 15 < cls then (s, .badArgument 1)
  else
    match s.trt.freeShared with
    | none => (latch .pool .host s, .pool)
    | some r => (s.updRecord r (some (Train.fresh cls description)), .done (bytesOne (trainNo r)))

/-- CREATE_TRAIN (R160). -/
def execCreateTrain (cls : Nat) (description : Option Description) (s : State) :
    Host.Outcome State Fault Refusal :=
  serve 52 (takeCreateTrain cls description) s

/-- R160: SET_DESTINATION. -/
def takeSetDestination (train destination : Nat) (s : State) : State × Reply :=
  if s.device = .config then (s, .state)
  else
    match trainOf train, freeDestinationOf destination with
    | none, _ => (s, .badArgument 1)
    | some _, none => (s, .badArgument 2)
    | some r, some d =>
      match s.trt.records[r] with
      | none => (s, .noRecord)
      | some t =>
        if t.outbound ≠ .none then (s, .state)
        else
          let s1 := retirementCheck r (s.updTrain r fun t => { t with destination := d })
          (s1, .done (bytesOne (flagNo (s1.recordFree r))))

/-- SET_DESTINATION (R160). -/
def execSetDestination (train destination : Nat) (s : State) : Host.Outcome State Fault Refusal :=
  serve 53 (takeSetDestination train destination) s

/-- R161: RETIRE_TRAIN. -/
def takeRetireTrain (train : Nat) : State → State × Reply :=
  withRecord train fun r t s =>
    if t.inbound.active || t.outbound.active then (s, .state) else (s.updRecord r none, .ok)

/-- RETIRE_TRAIN (R161). -/
def execRetireTrain (train : Nat) (s : State) : Host.Outcome State Fault Refusal :=
  serve 54 (takeRetireTrain train) s

end Sys2Proof.Machine
end

