-- ==== Sys2Proof/Machine/LineEvent.lean ====
section
/-! DEFINITION. The events of a line that its Bell Unit or its Block Line Controller hands to the Train
Record Table: the end of a code, the completion of a send, the settling of the OUT instrument. -/

namespace Sys2Proof.Machine

/-! ### The end of a code -/

/-- R106: the code in assembly has reached its end tick. -/
def endingCode (x : Line) (s : State) : Option Assembly :=
  match (s.bu.get x).code with
  | some c => if reached s.tb.tickCount c.endTick then some c else none
  | none => none

/-- R110 step 3: what a decoded code hands over, with the answer whether it was out of turn. -/
def handOver (x : Line) (c : Assembly) (heard : Heard) (repetition : Bool) (s : State) :
    State × Bool :=
  if s.device = .service ∧ (s.blc.get x).suspended = false then
    match heard with
    | .recognised _ m cls =>
      takeReceivedCode ⟨x, m, cls, c.groups, repetition, s.tb.clock⟩ s
    | .unrecognised => (stepUp x 8 s, false)
    | .malformed => (stepUp x 8 s, false)
  else (s, false)

/-- R110 step 4: in SERVICE a recognised code becomes the line's last recognised code. -/
def keepRecognised (x : Line) (groups : List Nat) (heard : Heard) (s : State) : State :=
  match heard with
  | .recognised entry _ _ =>
    if s.device = .service then
      s.updBell x fun b => { b with lastRecognised := some ⟨groups, entry⟩ }
    else s
  | .unrecognised => s
  | .malformed => s

/-- R106, R110: the code ends and goes onward, as one event. -/
def endCode (x : Line) (c : Assembly) (s : State) : State :=
  let heard := identify s.cfg.codes c
  let repetition := (s.bu.get x).isRepetition heard c.groups
  let s1 := s.updBell x fun b =>
    { b with code := none, expected := if repetition then none else b.expected }
  let h := handOver x c heard repetition s1
  let s2 := keepRecognised x c.groups heard h.1
  storeCode x ⟨c.groups, heard, c.held, c.overflow, h.2, repetition, s.tb.clock⟩ s2

/-- CODE_END (R106). -/
def execCodeEnd (x : Line) (s : State) : Host.Outcome State Fault Refusal :=
  match endingCode x s with
  | some c => .next (endCode x c s)
  | none => .next s

/-! ### The completion of a send -/

/-- R116: the send in progress whose last beat has ended. -/
def completedSend (x : Line) (s : State) : Option Send :=
  match (s.bu.get x).sender with
  | some send =>
    if reached s.tb.tickCount (send.start + BitVec.ofNat 32 send.length) then some send else none
  | none => none

/-- R116, R121: the send completion, then the pending automatic ENTERING, taken if the line is ACTIVE
and dropped otherwise. -/
def completeSend (x : Line) (send : Send) (s : State) : State :=
  let pending := (s.bu.get x).pendingEntering
  let active := decide ((s.blc.get x).health = .active)
  let s1 := takeSendCompleted x send.meaning (pending && !active) s
  let s2 := s1.updBell x fun b =>
    { b with sender := none, pendingEntering := false, expected := some ⟨send.groups, 300⟩ }
  if pending && active then autoEntering x s2 else s2

/-- SEND_COMPLETION (R116). -/
def execSendCompletion (x : Line) (s : State) : Host.Outcome State Fault Refusal :=
  match completedSend x s with
  | some send => .next (completeSend x send s)
  | none => .next s

/-! ### The settling of the OUT instrument -/

/-- R127: the candidate whose run has reached 40. -/
def settlingReading (x : Line) (s : State) : Option RawReading :=
  match (s.blc.get x).candidate with
  | some (r, n) => if 40 ≤ n then some r else none
  | none => none

/-- R128: an adoption in SERVICE. -/
def adopt (x : Line) (new : Instrument) (s : State) : State :=
  let s1 := if new ≠ .clear then rejudge x s else s
  let s2 := if (s1.blc.get x).suspended then s1 else judgeAdoption x new s1
  let s3 := if new = .clear then rejudge x s2 else s2
  latch (.line x) (.lineCause .instrument) s3

/-- R129: the start of an occurrence of an invalid reading, in SERVICE. -/
def invalidReading (x : Line) (s : State) : State :=
  latch (.line x) (.lineCause .invalid) (stepUp x 4 s)

/-- R127 to R129: the candidate becomes the settled reading. -/
def settle (x : Line) (r : RawReading) (s : State) : State :=
  let old := (s.blc.get x).outState
  let s1 := s.updLine x fun b => { b with settled := r, candidate := none }
  if s.device = .service then
    let s2 := if outStateOf r = old then s1 else adopt x (outStateOf r) s1
    if r = .both then invalidReading x s2 else s2
  else s1

/-- INSTRUMENT_SETTLING (R127). -/
def execInstrumentSettling (x : Line) (s : State) : Host.Outcome State Fault Refusal :=
  match settlingReading x s with
  | some r => .next (settle x r s)
  | none => .next s

end Sys2Proof.Machine
end

