-- ==== Sys2Proof/Machine/Attention.lean ====
section
/-! DEFINITION. The Attention Unit's requests (09). -/

namespace Sys2Proof.Machine

/-- The pending flags of all fourteen sources as a number, bit s - 1 for source s (R190). -/
def State.pendingFlags (s : State) : Nat :=
  (List.finRange 14).foldr (fun i n => flagNo (s.sourcePending i) + 2 * n) 0

/-- R172: the data of NEXT_ATTENTION up to the count: the source ranked first, or NONE. -/
def State.nextAttention (s : State) : List Byte :=
  match s.topSource with
  | some i =>
    bytesOne (i.val + 1) ++ detailBytes (s.sourceDetail i) ++ bytesOne (flagNo (s.sourceMultiple i))
  | none => bytesOne 0 ++ detailBytes none ++ bytesOne 255

/-- R172: NEXT_ATTENTION. -/
def takeNextAttention (s : State) : State × Reply :=
  (s, .done (s.nextAttention ++ bytesOne s.activeCount ++ bytesTwo s.pendingFlags))

/-- NEXT_ATTENTION (R172). -/
def execNextAttention (s : State) : Host.Outcome State Fault Refusal :=
  serve 64 takeNextAttention s

/-- R174: what CLEAR_ATTENTION reports of a source. -/
def State.clearReport (s : State) (i : SourceId) : List Byte :=
  bytesOne (i.val + 1) ++ bytesOne (flagNo (s.sourcePending i)) ++ detailBytes (s.sourceDetail i) ++
    bytesOne (flagNo (s.sourceMultiple i))

/-- R174: CLEAR_ATTENTION; a level source is reported and left. -/
def takeClearAttention (source : Nat) (s : State) : State × Reply :=
  match sourceOf source with
  | none => (s, .badArgument 1)
  | some i =>
    (if (s.level i).isSome then s else s.updSource i SourceRecord.clear, .done (s.clearReport i))

/-- CLEAR_ATTENTION (R174). -/
def execClearAttention (source : Nat) (s : State) : Host.Outcome State Fault Refusal :=
  serve 65 (takeClearAttention source) s

/-- R173: the priority that a load gives a source: none if it is out of range, the one that stands for
a fixed source. -/
def loadedPriority (s : State) (i : SourceId) (priority : Nat) : Option Nat :=
  if isFixed i then some s.au[i].priority
  else if priority ≤ 7 then some priority
  else none

/-- R173: LOAD_ATTENTION. -/
def takeLoadAttention (source enable priority : Nat) (s : State) : State × Reply :=
  if s.device = .service then (s, .state)
  else
    match sourceOf source with
    | none => (s, .badArgument 1)
    | some i =>
      match yesNoOf enable, loadedPriority s i priority with
      | none, _ => (s, .badArgument 2)
      | some _, none => (s, .badArgument 3)
      | some e, some p => (s.updSource i fun r => { r with enabled := e, priority := p }, .ok)

/-- LOAD_ATTENTION (R173). -/
def execLoadAttention (source enable priority : Nat) (s : State) :
    Host.Outcome State Fault Refusal :=
  serve 8 (takeLoadAttention source enable priority) s

end Sys2Proof.Machine
end

