-- ==== Sys2Proof/Machine/Hold.lean ====
section
/-! DEFINITION. The Hold Table's own requests (04): bars and lookup. -/

namespace Sys2Proof.Machine

/-! ### Bars -/

/-- R73: the entry a bar takes: the lowest free shared entry, else the lowest free reserve entry. -/
def barEntry (ht : Vector (Option Hold) 72) : Option HoldId :=
  match (freeShared ht).head? with
  | some h => some h
  | none => (freeReserve ht).head?

/-- R73: PLACE_BAR. -/
def takePlaceBar (lever position : Nat) (reason : Byte) (s : State) : State × Reply :=
  if s.device = .config then (s, .state)
  else
    match leverOf lever, endPosOf position with
    | none, _ => (s, .badArgument 1)
    | some _, none => (s, .badArgument 2)
    | some l, some p =>
      if !s.cfg.levers[l].configured then (s, .noRecord)
      else
        match barEntry s.ht with
        | none => (latch .pool .host s, .pool)
        | some h =>
          (s.updHold h (some ⟨.bar reason, l, p, s.tb.clock⟩), .done (bytesOne h.val))

/-- PLACE_BAR (R73). -/
def execPlaceBar (lever position : Nat) (reason : Byte) (s : State) :
    Host.Outcome State Fault Refusal :=
  serve 49 (takePlaceBar lever position reason) s

/-- R74: REMOVE_BAR. -/
def takeRemoveBar (number : Nat) (s : State) : State × Reply :=
  if s.device = .config then (s, .state)
  else
    match holdOf number with
    | none => (s, .badArgument 1)
    | some h =>
      match s.ht[h] with
      | some ⟨.bar reason, l, p, _⟩ =>
        (s.updHold h none, .done (bytesOne (levNo l) ++ bytesOne (endPosNo p) ++ [reason]))
      | _ => (s, .noRecord)

/-- REMOVE_BAR (R74). -/
def execRemoveBar (number : Nat) (s : State) : Host.Outcome State Fault Refusal :=
  serve 50 (takeRemoveBar number) s

/-! ### Lookup -/

/-- R75, R191: the area of an entry. -/
def areaNo (h : HoldId) : Nat := if inShared h then 0 else if inReserve h then 2 else 1

/-- R191: the owner byte. -/
def HoldKind.ownerNo : HoldKind → Nat
  | .route owner _ => levNo owner
  | .clearing owner => lineNo owner
  | .block owner => lineNo owner
  | .bar _ => 255

/-- R191: the protecting circuit, or 0. -/
def HoldKind.protectingNo : HoldKind → Nat
  | .route _ t => trkNo t
  | .clearing _ => 0
  | .block _ => 0
  | .bar _ => 0

/-- R191: the reason of a bar; 0 otherwise. -/
def HoldKind.reasonByte : HoldKind → Byte
  | .bar reason => reason
  | .route _ _ => 0
  | .clearing _ => 0
  | .block _ => 0

/-- R62: a hold is BINDING while its lever's recorded position is the held one. -/
def State.binding (s : State) (hold : Hold) : Bool :=
  decide (s.recorded hold.lever = hold.position.toPosition)

/-- R75, R191: the hold record. -/
def State.holdData (s : State) (h : HoldId) (hold : Hold) : List Byte :=
  bytesOne h.val ++ bytesOne (holdKindNo hold.kind) ++ bytesOne (levNo hold.lever) ++
    bytesOne (endPosNo hold.position) ++ bytesOne hold.kind.ownerNo ++
    bytesOne hold.kind.protectingNo ++ [hold.kind.reasonByte] ++
    bytesThree hold.created.toNat ++ bytesOne (areaNo h) ++ bytesOne (flagNo (s.binding hold)) ++
    bytesOne (releaseNo s.llu[hold.lever].release)

/-- R75: READ_HOLD. -/
def takeReadHold (number : Nat) (s : State) : State × Reply :=
  match holdOf number with
  | none => (s, .badArgument 1)
  | some h =>
    match s.ht[h] with
    | some hold => (s, .done (s.holdData h hold))
    | none => (s, .noRecord)

/-- READ_HOLD (R75). -/
def execReadHold (number : Nat) (s : State) : Host.Outcome State Fault Refusal :=
  serve 36 (takeReadHold number) s

/-- R76: a selector, ALL (0) or a lever: the levers it selects. -/
def selectorOf (n : Nat) : Option (Option LeverId) :=
  if n = 0 then some none else (leverOf n).map some

/-- R76: a live hold that the selector selects. -/
def selects (sel : Option LeverId) : Option Hold → Bool
  | some hold =>
    match sel with
    | some l => decide (hold.lever = l)
    | none => true
  | none => false

/-- R76: the matching live holds from the start on, in ascending order. -/
def matchingHolds (sel : Option LeverId) (start : HoldId) (ht : Vector (Option Hold) 72) :
    List HoldId :=
  (List.finRange 72).filter fun h => decide (start.val ≤ h.val) && selects sel ht[h]

/-- R76: LIST_HOLDS. -/
def takeListHolds (selector start : Nat) (s : State) : State × Reply :=
  match selectorOf selector, holdOf start with
  | none, _ => (s, .badArgument 1)
  | some _, none => (s, .badArgument 2)
  | some sel, some h =>
    let found := matchingHolds sel h s.ht
    (s, .done (bytesOne (flagNo (decide (16 < found.length))) ++
      listBytes bytesOne ((found.take 16).map fun h => h.val)))

/-- LIST_HOLDS (R76). -/
def execListHolds (selector start : Nat) (s : State) : Host.Outcome State Fault Refusal :=
  serve 37 (takeListHolds selector start) s

end Sys2Proof.Machine
end

