-- ==== Sys2Proof/Machine/Load.lean ====
section
/-! DEFINITION. The loading requests that the Configuration Store and the Scan Bus Controller own (10
section 10.4 and the rules of each chapter). A BAD_ARGUMENT carries the place of the first argument, in
the order of R189, that its rule refuses (log 10). -/

namespace Sys2Proof.Machine

/-! ### Common steps -/

/-- A load taken in CONFIG (R180). -/
def inConfig (take : State → State × Reply) (s : State) : State × Reply :=
  if s.device = .service then (s, .state) else take s

/-- The tables replaced. -/
def State.setCfg (s : State) (cfg : ConfigStore) : State := { s with cfg := cfg }

/-- A value of time clamped into its range (section 10.4). -/
def clamp (low high n : Nat) : Nat := max low (min high n)

/-- No element twice. -/
def distinct {α : Type} [DecidableEq α] : List α → Bool
  | [] => true
  | v :: rest => !rest.contains v && distinct rest

/-- Each element once, at its first place (R19). -/
def once {α : Type} [DecidableEq α] (l : List α) : List α :=
  l.foldl (fun kept v => if kept.contains v then kept else kept ++ [v]) []

/-- A list of at most `n` elements, each in its range. -/
def readUpTo {α β : Type} (n : Nat) (f : α → Option β) (l : List α) : Option (List β) :=
  if n < l.length then none else readAll f l

/-! ### LOAD_SLOTS -/

/-- R4: the entries of a run: functions in their encodings, slots in 0 to 191. -/
def slotRunOf (first : Nat) (entries : List RawSlot) : Option (List SlotEntry) :=
  if 192 < first + entries.length then none else readAll slotEntryOf entries

/-- R4: a run of entries written from the first slot on. -/
def writeSlots (first : Nat) (entries : List SlotEntry) (slots : Vector SlotEntry 192) :
    Vector SlotEntry 192 :=
  tabulate fun k =>
    if first ≤ k.val then (entries[k.val - first]?).getD slots[k] else slots[k]

/-- R2, R4: LOAD_SLOTS. -/
def takeLoadSlots (frameLength firstSlot : Nat) (entries : List RawSlot) :
    State → State × Reply :=
  inConfig fun s =>
    if frameLength < 8 ∨ 192 < frameLength then (s, .badArgument 1)
    else if 192 ≤ firstSlot then (s, .badArgument 2)
    else
      match slotRunOf firstSlot entries with
      | none => (s, .badArgument 3)
      | some run =>
        (s.setCfg { s.cfg with
          frameLength := frameLength
          slots := writeSlots firstSlot run s.cfg.slots }, .ok)

/-- LOAD_SLOTS (R4). -/
def execLoadSlots (frameLength firstSlot : Nat) (entries : List RawSlot) (s : State) :
    Host.Outcome State Fault Refusal :=
  serve 1 (takeLoadSlots frameLength firstSlot entries) s

/-! ### LOAD_LEVER -/

/-- A condition that names the lever being loaded (R37). -/
def namesLever (lever : Nat) (c : RawCondition) : Bool :=
  decide (c.form < 2) && decide (c.number = lever)

/-- R37: a condition list of the lever being loaded. -/
def leaveListOf (lever : Nat) (cs : List RawCondition) : Option (List Condition) :=
  if cs.any (namesLever lever) then none else readUpTo 12 conditionOf cs

/-- R37: LOAD_LEVER. -/
def takeLoadLever (lever kind timeout : Nat) (leaveNormal leaveReverse : List RawCondition) :
    State → State × Reply :=
  inConfig fun s =>
    match leverOf lever, leverKindOf kind, leaveListOf lever leaveNormal,
        leaveListOf lever leaveReverse with
    | none, _, _, _ => (s, .badArgument 1)
    | some _, none, _, _ => (s, .badArgument 2)
    | some _, some _, none, _ => (s, .badArgument 4)
    | some _, some _, some _, none => (s, .badArgument 5)
    | some l, some k, some ns, some rs =>
      (s.setCfg { s.cfg with
        levers := tableUpdate s.cfg.levers l fun _ => ⟨true, k, clamp 10 600 timeout, ns, rs⟩ },
        .ok)

/-- LOAD_LEVER (R37). -/
def execLoadLever (lever kind timeout : Nat) (leaveNormal leaveReverse : List RawCondition)
    (s : State) : Host.Outcome State Fault Refusal :=
  serve 2 (takeLoadLever lever kind timeout leaveNormal leaveReverse) s

/-! ### LOAD_ROUTE -/

/-- R80: the points entries of the signal lever being loaded. -/
def pointsListOf (lever : Nat) (points : List RawPoints) : Option (List PointsEntry) :=
  if points.any (fun e => decide (e.lever = lever)) || !distinct (points.map RawPoints.lever) then
    none
  else readUpTo 8 pointsEntryOf points

/-- R80: the route circuits, none of them twice. -/
def routeCircuitsOf (circuits : List Nat) : Option (List TrackId) :=
  if distinct circuits then readUpTo 6 trackOf circuits else none

/-- R80: LOAD_ROUTE. -/
def takeLoadRoute (lever : Nat) (points : List RawPoints) (circuits approach : List Nat)
    (approachTime : Nat) : State → State × Reply :=
  inConfig fun s =>
    match leverOf lever, pointsListOf lever points, routeCircuitsOf circuits,
        readUpTo 3 trackOf approach with
    | none, _, _, _ => (s, .badArgument 1)
    | some _, none, _, _ => (s, .badArgument 2)
    | some _, some _, none, _ => (s, .badArgument 3)
    | some _, some _, some _, none => (s, .badArgument 4)
    | some l, some ps, some cs, some aps =>
      (s.setCfg { s.cfg with
        routes := tableUpdate s.cfg.routes l fun _ =>
          ⟨true, ps, cs, aps, clamp 0 2550 approachTime⟩ }, .ok)

/-- LOAD_ROUTE (R80). -/
def execLoadRoute (lever : Nat) (points : List RawPoints) (circuits approach : List Nat)
    (approachTime : Nat) (s : State) : Host.Outcome State Fault Refusal :=
  serve 3 (takeLoadRoute lever points circuits approach approachTime) s

/-! ### LOAD_TRACK -/

/-- R19: the neighbour list of the circuit being loaded. -/
def neighboursOf (circuit : Nat) (neighbours : List Nat) : Option (List TrackId) :=
  if neighbours.contains circuit then none else (readUpTo 4 trackOf neighbours).map once

/-- R20: a circuit in PICKUP_TIMING waits the full new delay from the load. -/
def Track.reloaded (r : Track) (delay : Nat) : Track :=
  if r.state = .pickupTiming then { r with timer := some delay } else r

/-- R19, R20: LOAD_TRACK. -/
def takeLoadTrack (circuit delay : Nat) (neighbours : List Nat) : State → State × Reply :=
  inConfig fun s =>
    match trackOf circuit, neighboursOf circuit neighbours with
    | none, _ => (s, .badArgument 1)
    | some _, none => (s, .badArgument 3)
    | some t, some ns =>
      let s1 := s.setCfg { s.cfg with
        tracks := tableUpdate s.cfg.tracks t fun _ => ⟨true, clamp 1 100 delay, ns⟩ }
      (s1.updTrack t fun r => r.reloaded (clamp 1 100 delay), .ok)

/-- LOAD_TRACK (R19). -/
def execLoadTrack (circuit delay : Nat) (neighbours : List Nat) (s : State) :
    Host.Outcome State Fault Refusal :=
  serve 4 (takeLoadTrack circuit delay neighbours) s

/-! ### LOAD_LINE -/

/-- R124: the home, which is not the starter. -/
def homeOf (starter home : Nat) : Option LeverId :=
  if home = starter then none else leverOf home

/-- R124: the clearing-hold list, no lever twice. -/
def clearingListOf (clearing : List RawClearing) : Option (List (LeverId × EndPos)) :=
  if distinct (clearing.map RawClearing.lever) then readUpTo 4 clearingOf clearing else none

/-- R124: the two levers and the two circuits of a line, or the place of the first that is refused. -/
def lineObjectsOf (starter entryCircuit home berth : Nat) :
    Except Nat (LeverId × TrackId × LeverId × TrackId) :=
  match leverOf starter, trackOf entryCircuit, homeOf starter home, trackOf berth with
  | none, _, _, _ => .error 2
  | some _, none, _, _ => .error 3
  | some _, some _, none, _ => .error 4
  | some _, some _, some _, none => .error 5
  | some st, some en, some hm, some bt => .ok (st, en, hm, bt)

/-- R124: LOAD_LINE. -/
def takeLoadLine (line starter entryCircuit home berth : Nat) (conditions : List RawCondition)
    (clearing : List RawClearing) (lapse : Nat) : State → State × Reply :=
  inConfig fun s =>
    match lineOf line, lineObjectsOf starter entryCircuit home berth,
        readUpTo 12 conditionOf conditions, clearingListOf clearing with
    | none, _, _, _ => (s, .badArgument 1)
    | some _, .error place, _, _ => (s, .badArgument place)
    | some _, .ok _, none, _ => (s, .badArgument 6)
    | some _, .ok _, some _, none => (s, .badArgument 7)
    | some x, .ok (st, en, hm, bt), some cs, some ks =>
      (s.setCfg { s.cfg with
        lines := s.cfg.lines.set x
          ⟨true, some st, some en, some hm, some bt, cs, ks, clamp 100 6000 lapse⟩ }, .ok)

/-- LOAD_LINE (R124). -/
def execLoadLine (line starter entryCircuit home berth : Nat) (conditions : List RawCondition)
    (clearing : List RawClearing) (lapse : Nat) (s : State) : Host.Outcome State Fault Refusal :=
  serve 5 (takeLoadLine line starter entryCircuit home berth conditions clearing lapse) s

/-! ### LOAD_CODE -/

/-- R107: one group count of a pattern. -/
def countOfGroup (n : Nat) : Option Nat := if 1 ≤ n ∧ n ≤ 9 then some n else none

/-- R107, R187: one place of a care mask: CARE 0, DONT_CARE 1. -/
def careOf : Nat → Option Bool
  | 0 => some true
  | 1 => some false
  | _ => none

/-- R107: the care mask of a pattern. -/
def maskOf (pattern mask : List Nat) : Option (List Bool) :=
  if mask.length = pattern.length then readAll careOf mask else none

/-- R107: the class that a load stores: of an OFFER 1 to 15, of any other meaning absent. -/
def classOf (m : Meaning) (cls : Nat) : Option (Option Nat) :=
  if m = .offer then
    if 1 ≤ cls ∧ cls ≤ 15 then some (some cls) else none
  else some none

/-- R107: the meaning and the class, or the place of the first that is refused. -/
def meaningAndClassOf (meaning cls : Nat) : Except Nat (Meaning × Option Nat) :=
  match meaningOf meaning with
  | none => .error 4
  | some m =>
    match classOf m cls with
    | none => .error 5
    | some c => .ok (m, c)

/-- R107: the entry that a load gives: empty for a pattern of no groups. -/
def codeEntryFrom (counts : List Nat) (cares : List Bool) (m : Meaning) (cls : Option Nat)
    (sendable : Bool) : Option CodeEntry :=
  if counts.isEmpty then none
  else some ⟨(counts.zip cares).map fun g => ⟨g.1, g.2⟩, m, cls, sendable⟩

/-- R107: LOAD_CODE. -/
def takeLoadCode (entry : Nat) (pattern mask : List Nat) (meaning trainClass sendable : Nat) :
    State → State × Reply :=
  inConfig fun s =>
    match codeOf entry, readUpTo 6 countOfGroup pattern, maskOf pattern mask,
        meaningAndClassOf meaning trainClass, yesNoOf sendable with
    | none, _, _, _, _ => (s, .badArgument 1)
    | some _, none, _, _, _ => (s, .badArgument 2)
    | some _, some _, none, _, _ => (s, .badArgument 3)
    | some _, some _, some _, .error place, _ => (s, .badArgument place)
    | some _, some _, some _, .ok _, none => (s, .badArgument 6)
    | some c, some counts, some cares, .ok (m, cls), some snd =>
      (s.setCfg { s.cfg with
        codes := tableUpdate s.cfg.codes c fun _ => codeEntryFrom counts cares m cls snd }, .ok)

/-- LOAD_CODE (R107). -/
def execLoadCode (entry : Nat) (pattern mask : List Nat) (meaning trainClass sendable : Nat)
    (s : State) : Host.Outcome State Fault Refusal :=
  serve 6 (takeLoadCode entry pattern mask meaning trainClass sendable) s

/-! ### LOAD_TIMING -/

/-- R3 steps 1 and 2: a permitted frame period. -/
def permittedPeriod (requested : Nat) : Nat := 5 * ((clamp 10 50 requested + 4) / 5)

/-- R3, R95, R103, R115, R181: the timing set as clamped. -/
def clampTiming (v : RawTiming) : Timing :=
  let minBeat := clamp 2 20 v.minBeat
  let groupGap := clamp 40 400 v.groupGap
  { requestedPeriod := permittedPeriod v.framePeriod
    minBeat := minBeat
    maxBeat := clamp (minBeat + 1) 200 v.maxBeat
    groupGap := groupGap
    endGap := clamp (groupGap + 40) 1000 v.endGap
    on := clamp 10 60 v.on
    intra := clamp 20 80 v.intra
    group := clamp 100 400 v.group
    emergency := clamp 300 6000 v.emergency }

/-- R103: a code in assembly ends under the new END_GAP, at the next tick if that tick has passed. -/
def Assembly.regap (c : Assembly) (endGap : Nat) (now : Tick) : Assembly :=
  { c with
    endTick :=
      if endGap < (now - c.lastFall).toNat then now + 1
      else c.lastFall + BitVec.ofNat 32 endGap }

/-- R181: the nine values as stored, the effective frame period in place of the requested one. -/
def ConfigStore.timingData (cfg : ConfigStore) : List Byte :=
  bytesTwo cfg.effectivePeriod ++ bytesTwo cfg.timing.minBeat ++ bytesTwo cfg.timing.maxBeat ++
    bytesTwo cfg.timing.groupGap ++ bytesTwo cfg.timing.endGap ++ bytesTwo cfg.timing.on ++
    bytesTwo cfg.timing.intra ++ bytesTwo cfg.timing.group ++ bytesTwo cfg.timing.emergency

/-- R181: the timing set loaded whole. -/
def loadTimingSet (t : Timing) (s : State) : State :=
  { s with
    cfg := { s.cfg with timing := t }
    bu := s.bu.map fun b =>
      { b with code := b.code.map fun c => c.regap t.endGap s.tb.tickCount } }

/-- R181: LOAD_TIMING. -/
def takeLoadTiming (values : RawTiming) : State → State × Reply :=
  inConfig fun s =>
    let s1 := loadTimingSet (clampTiming values) s
    (s1, .done s1.cfg.timingData)

/-- LOAD_TIMING (R181). -/
def execLoadTiming (values : RawTiming) (s : State) : Host.Outcome State Fault Refusal :=
  serve 7 (takeLoadTiming values) s

end Sys2Proof.Machine
end

