-- ==== Sys2Proof/Machine/Read.lean ====
section
/-! DEFINITION. The reading requests in the layouts of R192 to R198. A reading changes no record.
Absent fields read 0 or 255 by R187; bytes that no rule gives a value are free (log 11). -/

namespace Sys2Proof.Machine

/-! ### READ_STATUS -/

/-- The block entries that are live (R198). -/
def State.blockBits (s : State) : List Bool :=
  [s.ht[blockEntry .a].isSome, s.ht[blockEntry .b].isSome, s.ht[blockEntry .c].isSome]

/-- The reserve records that are live (R198, R190). -/
def State.reserveBits (s : State) : List Bool :=
  [s.trt.records[reserveRecord .a].isSome, s.trt.records[reserveRecord .b].isSome,
    s.trt.records[reserveRecord .c].isSome]

/-- R198: health and fault count of one line. -/
def State.lineSummary (s : State) (x : Line) : List Byte :=
  bytesOne (healthNo (s.blc.get x).health) ++ bytesOne (s.blc.get x).count

/-- R186, R198: the summary. -/
def State.statusData (s : State) : List Byte :=
  bytesOne (deviceNo s.device) ++ bytesOne (scanNo s.sbc.scan) ++ bytesOne s.cfg.frameLength ++
    bytesOne s.cfg.effectivePeriod ++ bytesTwo s.sbc.frameCounter.toNat ++
    bytesOne s.sbc.goodRun ++ bytesOne s.sbc.badRun ++
    bytesOne (sharedCount s.ht) ++ bytesOne (reserveCount s.ht) ++ [bitsByte s.blockBits] ++
    bytesOne s.trt.sharedCount ++ [bitsByte s.reserveBits] ++
    s.lineSummary .a ++ s.lineSummary .b ++ s.lineSummary .c ++
    bytesThree s.tb.clock.toNat ++ bytesOne (flagNo s.attn) ++ bytesOne s.activeCount

/-- R186: READ_STATUS. -/
def takeReadStatus (s : State) : State × Reply := (s, .done s.statusData)

/-- READ_STATUS (R186). -/
def execReadStatus (s : State) : Host.Outcome State Fault Refusal := serve 32 takeReadStatus s

/-! ### READ_LEVER -/

/-- R192: the origin byte. -/
def Release.originByte : Release → List Byte
  | .notGranted => orAbsent none
  | .granted p => orAbsent (some (endPosNo p))
  | .stroke p => orAbsent (some (endPosNo p))

/-- R192: the last stroke with its stamp. -/
def State.strokeData (s : State) (pos : Nat) : Option (Bool × Clock) → List Byte
  | some (full, c) => bytesOne (if full then 1 else 2) ++ bytesThree c.toNat
  | none => bytesOne 0 ++ s.fill (pos + 1) 3

/-- R192: the number of a refusal reason. -/
def RefusalReason.number : RefusalReason → Nat
  | .notService => 1
  | .scan => 2
  | .condition _ => 3
  | .held _ => 4
  | .routeBusy => 5
  | .pool => 6

/-- R192: the place or the hold number of a refusal reason. -/
def RefusalReason.detail : RefusalReason → Option Nat
  | .condition place => some place
  | .held h => some h.val
  | .notService => none
  | .scan => none
  | .routeBusy => none
  | .pool => none

/-- R192: the last refusal with its detail and its stamp. -/
def State.refusalData (s : State) (pos : Nat) : Option RefusalRecord → List Byte
  | some r =>
    bytesOne (r.reason.number + 128 * flagNo r.superseded) ++ orAbsent r.reason.detail ++
      bytesThree r.stamp.toNat
  | none => bytesOne 0 ++ orAbsent none ++ s.fill (pos + 2) 3

/-- R192: the number of a fault. -/
def LeverFault.number : LeverFault → Nat
  | .strokeTimeout => 1
  | .contradictory => 2
  | .unreleased => 3

/-- R192: the last fault with its stamp. -/
def State.faultData (s : State) (pos : Nat) : Option (LeverFault × Clock) → List Byte
  | some (f, c) => bytesOne f.number ++ bytesThree c.toNat
  | none => bytesOne 0 ++ s.fill (pos + 1) 3

/-- What READ_LEVER shows of one lever. -/
structure LeverView where
  configured : Bool
  kind : LeverKind
  record : Lever
  magnet : Bool
  contactN : Bool
  contactR : Bool
  catchIn : Bool

/-- R59: a configured lever as it stands; any other at its full-reset values. -/
def State.leverView (s : State) (l : LeverId) : LeverView :=
  if s.cfg.levers[l].configured then
    ⟨true, s.cfg.levers[l].kind, s.llu[l], s.sbc.magnets[l], s.sbc.input.leverN[l],
      s.sbc.input.leverR[l], s.sbc.input.catches[l]⟩
  else ⟨false, .other, Lever.reset, false, false, false, false⟩

/-- R59, R192: the lever record. -/
def State.leverData (s : State) (l : LeverId) : List Byte :=
  let v := s.leverView l
  let r := v.record
  bytesOne (levNo l) ++
    [bitsByte [v.configured, r.catchGripped, r.unseen, v.magnet, v.contactN, v.contactR, v.catchIn,
      r.reported]] ++
    bytesOne (kindNo v.kind) ++ bytesOne (positionNo r.position) ++ bytesOne (releaseNo r.release) ++
    r.release.originByte ++ bytesOne (gripNo r.grip) ++ bytesTwo (shownTimer r.strokeTimer) ++
    s.strokeData 9 r.lastStroke ++ s.refusalData 13 r.lastRefusal ++ s.faultData 18 r.lastFault

/-- R59: READ_LEVER. -/
def takeReadLever (lever : Nat) (s : State) : State × Reply :=
  match leverOf lever with
  | none => (s, .badArgument 1)
  | some l => (s, .done (s.leverData l))

/-- READ_LEVER (R59). -/
def execReadLever (lever : Nat) (s : State) : Host.Outcome State Fault Refusal :=
  serve 33 (takeReadLever lever) s

/-! ### READ_TRACK -/

/-- What READ_TRACK shows of one circuit. -/
structure TrackView where
  configured : Bool
  up : Bool
  slot : Option SlotId
  config : TrackConfig
  record : Track

/-- R34: a configured circuit as it stands; any other with the state UNKNOWN and its reset values. -/
def State.trackView (s : State) (t : TrackId) : TrackView :=
  if s.cfg.tracks[t].configured then
    ⟨true, s.sbc.input.tracks[t], inputSlot s.cfg.slots s.cfg.frameLength (.track t),
      s.cfg.tracks[t], s.tcm[t]⟩
  else ⟨false, false, none, TrackConfig.reset, Track.reset⟩

/-- R34, R195: the track record. -/
def State.trackData (s : State) (t : TrackId) : List Byte :=
  let v := s.trackView t
  bytesOne (trkNo t) ++ [bitsByte [v.configured, v.up, v.record.mark, v.record.fault]] ++
    bytesOne (trackStateNo v.record.state) ++ orAbsent (v.slot.map fun k => k.val) ++
    bytesOne v.config.delay ++ bytesOne (shownTimer v.record.timer) ++
    bytesThree v.record.changed.toNat ++ listBytes bytesOne (v.config.neighbours.map trkNo)

/-- R34: READ_TRACK. -/
def takeReadTrack (circuit : Nat) (s : State) : State × Reply :=
  match trackOf circuit with
  | none => (s, .badArgument 1)
  | some t => (s, .done (s.trackData t))

/-- READ_TRACK (R34). -/
def execReadTrack (circuit : Nat) (s : State) : Host.Outcome State Fault Refusal :=
  serve 34 (takeReadTrack circuit) s

/-! ### READ_ROUTE -/

/-- R99: the running record of a configured SIGNAL lever; of any other its CONFIG condition. -/
def State.routeView (s : State) (l : LeverId) : Route :=
  if s.cfg.levers[l].configured ∧ s.cfg.levers[l].kind = .signal then s.ru[l] else Route.reset

/-- R196: the number of a running timer; none 0. -/
def timerKindNo : Option RouteTimer → Nat
  | some t =>
    if t.remaining = 0 then 0
    else match t.kind with
      | .approach => 1
      | .emergency => 2
  | none => 0

/-- R196: the points entries with their released flags and hold numbers; an entry without a running
field shows the flag clear and the number absent. -/
def pointsData : List PointsEntry → List EntryRun → List Byte
  | e :: es, r :: rs =>
    bytesOne (levNo e.lever) ++ bytesOne (endPosNo e.position) ++ bytesOne (trkNo e.circuit) ++
      bytesOne (flagNo r.released) ++ orAbsent (r.hold.map fun h => h.val) ++ pointsData es rs
  | e :: es, [] =>
    bytesOne (levNo e.lever) ++ bytesOne (endPosNo e.position) ++ bytesOne (trkNo e.circuit) ++
      bytesOne 0 ++ orAbsent none ++ pointsData es []
  | [], _ => []

/-- R196: a route circuit with its track state and its mark. -/
def State.routeCircuitData (s : State) (t : TrackId) : List Byte :=
  bytesOne (trkNo t) ++ bytesOne (trackStateNo s.tcm[t].state) ++ bytesOne (flagNo s.tcm[t].mark)

/-- R196: an approach circuit with its track state. -/
def State.approachCircuitData (s : State) (t : TrackId) : List Byte :=
  bytesOne (trkNo t) ++ bytesOne (trackStateNo s.tcm[t].state)

/-- R99, R196: the route record. -/
def State.routeData (s : State) (l : LeverId) : List Byte :=
  let r := s.routeView l
  let cfg := s.cfg.routes[l]
  bytesOne (levNo l) ++ [bitsByte [cfg.loaded, r.escape]] ++ bytesOne (routeStateNo r.state) ++
    bytesOne r.k ++ bytesOne (timerKindNo r.timer) ++
    bytesTwo (shownTimer (r.timer.map fun t => t.remaining)) ++ bytesOne (causeNo r.cause) ++
    bytesThree r.changed.toNat ++ bytesTwo cfg.approachTime ++
    bytesOne cfg.points.length ++ pointsData cfg.points r.entries ++
    listBytes s.routeCircuitData cfg.circuits ++ listBytes s.approachCircuitData cfg.approach

/-- R99: READ_ROUTE. -/
def takeReadRoute (lever : Nat) (s : State) : State × Reply :=
  match leverOf lever with
  | none => (s, .badArgument 1)
  | some l => (s, .done (s.routeData l))

/-- READ_ROUTE (R99). -/
def execReadRoute (lever : Nat) (s : State) : Host.Outcome State Fault Refusal :=
  serve 35 (takeReadRoute lever) s

/-! ### READ_LINE -/

/-- R193: the candidate and its run: 255 and 0 when there is none; a run due to settle shows 39
(log 23). -/
def candidateData : Option (RawReading × Nat) → List Byte
  | some (r, n) => orAbsent (some (rawReadingNo r)) ++ bytesOne (min 39 n)
  | none => orAbsent none ++ orZero none

/-- R138: the ticks of a quiet wait still to run. -/
def State.quietRemaining (s : State) (x : Line) : Nat :=
  match (s.blc.get x).quiet with
  | some t => ticksTo s.tb.tickCount t
  | none => 0

/-- R193: the flags of a line. -/
def State.lineFlags (s : State) (x : Line) : Byte :=
  let b := s.bu.get x
  bitsByte [(s.blc.get x).obstruction, s.trt.owed.get x, b.sender.isSome, b.pendingEntering,
    b.overrun, b.collided, b.unacknowledged, s.ht[blockEntry x].isSome]

/-- R193: the block hold's number and stamp. -/
def State.blockHoldData (s : State) (x : Line) : List Byte :=
  match s.ht[blockEntry x] with
  | some h => bytesOne (blockEntry x).val ++ bytesThree h.created.toNat
  | none => orAbsent none ++ s.fill 13 3

/-- R193: the expected repetition with its deadline. -/
def State.repetitionData (s : State) (x : Line) : List Byte :=
  match (s.bu.get x).expected with
  | some e => bytesTwo e.deadline ++ s.patternBytes 21 e.groups
  | none => bytesTwo 0 ++ s.patternBytes 21 []

/-- R193: the configuration fields of a line. -/
def LineConfig.data (c : LineConfig) : List Byte :=
  bytesOne (flagNo c.configured) ++ orZero (c.starter.map levNo) ++
    orZero (c.entryCircuit.map trkNo) ++ orZero (c.home.map levNo) ++ orZero (c.berth.map trkNo) ++
    bytesTwo c.lapse ++ listBytes conditionBytes c.conditions ++
    listBytes (fun e : LeverId × EndPos => bytesOne (levNo e.1) ++ bytesOne (endPosNo e.2)) c.clearing

/-- R138, R193: the line record. -/
def State.lineData (s : State) (x : Line) : List Byte :=
  let b := s.blc.get x
  bytesOne (lineNo x) ++ bytesOne (instrumentNo b.inInstrument) ++
    bytesOne (rawReadingNo b.settled) ++ bytesOne (instrumentNo b.outState) ++
    candidateData b.candidate ++ bytesOne b.count ++ bytesOne (healthNo b.health) ++
    bytesTwo (s.quietRemaining x) ++ [s.lineFlags x] ++ bytesOne (standingNo b.standing) ++
    s.blockHoldData x ++ orZero ((s.trt.inboundTrain x).map trainNo) ++
    orZero ((s.trt.outboundTrain x).map trainNo) ++ bytesOne (s.bu.get x).unreleased ++
    s.repetitionData x ++ (s.cfg.lines.get x).data

/-- R138: READ_LINE. -/
def takeReadLine (line : Nat) (s : State) : State × Reply :=
  match lineOf line with
  | none => (s, .badArgument 1)
  | some x => (s, .done (s.lineData x))

/-- READ_LINE (R138). -/
def execReadLine (line : Nat) (s : State) : Host.Outcome State Fault Refusal :=
  serve 38 (takeReadLine line) s

/-! ### READ_CODE -/

/-- R197: the entry of a stored code, or absent. -/
def Heard.entryNo : Heard → Option Nat
  | .recognised e _ _ => some e.val
  | .unrecognised => none
  | .malformed => none

/-- R197: the class of a stored code, or absent. -/
def Heard.classNo : Heard → Option Nat
  | .recognised _ _ c => c
  | .unrecognised => none
  | .malformed => none

/-- R113, R197: a stored code. -/
def State.codeData (s : State) (x : Line) (c : StoredCode) : List Byte :=
  let b := s.bu.get x
  bytesOne (lineNo x) ++ bytesOne b.unreleased ++
    [bitsByte [c.held, c.overflow, c.outOfTurn, c.repetition, b.overrun, b.collided,
      b.unacknowledged]] ++
    orAbsent c.heard.entryNo ++ bytesOne (heardNo c.heard) ++ orZero c.heard.classNo ++
    bytesThree c.received.toNat ++ s.patternBytes 9 c.groups

/-- R113: READ_CODE. -/
def takeReadCode (line : Nat) (s : State) : State × Reply :=
  match lineOf line with
  | none => (s, .badArgument 1)
  | some x =>
    match (s.bu.get x).older with
    | none => (s, .noRecord)
    | some c => (s, .done (s.codeData x c))

/-- READ_CODE (R113). -/
def execReadCode (line : Nat) (s : State) : Host.Outcome State Fault Refusal :=
  serve 39 (takeReadCode line) s

/-! ### READ_TRAIN and LIST_TRAINS -/

/-- R194: the four characters of a description; free when absent. -/
def State.descriptionBytes (s : State) : Option Description → List Byte
  | some d => [d.c1, d.c2, d.c3, d.c4]
  | none => s.fill 2 4

/-- R194: which stamps are present. -/
def TrainStamps.presence (t : TrainStamps) : List Bool :=
  [t.offeredIn.isSome, t.enteredIn.isSome, t.arrived.isSome, t.offeredOut.isSome,
    t.enteredOut.isSome, t.clearedOut.isSome]

/-- R194: the six stamps. -/
def State.trainStamps (s : State) (t : TrainStamps) : List Byte :=
  s.stampBytes 12 t.offeredIn ++ s.stampBytes 15 t.enteredIn ++ s.stampBytes 18 t.arrived ++
    s.stampBytes 21 t.offeredOut ++ s.stampBytes 24 t.enteredOut ++ s.stampBytes 27 t.clearedOut

/-- R162, R194: the train record. -/
def State.trainData (s : State) (r : TrainId) (t : Train) : List Byte :=
  bytesOne (trainNo r) ++ bytesOne t.trainClass ++ s.descriptionBytes t.description ++
    orAbsent (t.arrivalLine.map lineNo) ++ bytesOne (inboundNo t.inbound) ++
    bytesOne (outboundNo t.outbound) ++ bytesOne (destinationNo t.destination) ++
    [bitsByte [t.tailSeen, t.berthSeen, t.unannounced, t.withdrawn, t.lapsed,
      t.description.isSome]] ++
    [bitsByte t.stamps.presence] ++ s.trainStamps t.stamps ++
    bytesTwo (shownTimer t.inLapse) ++ bytesTwo (shownTimer t.outLapse) ++
    s.patternBytes 34 (t.offerHeard.getD [])

/-- R162: READ_TRAIN. -/
def takeReadTrain (train : Nat) (s : State) : State × Reply :=
  match trainOf train with
  | none => (s, .badArgument 1)
  | some r =>
    match s.trt.records[r] with
    | none => (s, .noRecord)
    | some t => (s, .done (s.trainData r t))

/-- READ_TRAIN (R162). -/
def execReadTrain (train : Nat) (s : State) : Host.Outcome State Fault Refusal :=
  serve 40 (takeReadTrain train) s

/-- R190: one element of LIST_TRAINS. -/
def trainElement (r : TrainId) (t : Train) : List Byte :=
  bytesOne (trainNo r) ++ bytesOne (inboundNo t.inbound) ++ bytesOne (outboundNo t.outbound) ++
    orAbsent (t.arrivalLine.map lineNo) ++ bytesOne (destinationNo t.destination)

/-- R162: the live records with their numbers, in ascending order. -/
def TrainTable.live (t : TrainTable) : List (TrainId × Train) :=
  (List.finRange 12).filterMap fun r => t.records[r].map fun v => (r, v)

/-- R162: LIST_TRAINS. -/
def takeListTrains (s : State) : State × Reply :=
  (s, .done (bytesOne s.trt.sharedCount ++ [bitsByte s.reserveBits] ++
    listBytes (fun e : TrainId × Train => trainElement e.1 e.2) s.trt.live))

/-- LIST_TRAINS (R162). -/
def execListTrains (s : State) : Host.Outcome State Fault Refusal := serve 41 takeListTrains s

end Sys2Proof.Machine
end

