-- ==== Sys2Proof/Machine/Route.lean ====
section
/-! DEFINITION. The Route Unit (05): the grant, the notices of the Lever Lock Unit, approach locking,
sectional release, timed release, and its two expiries. -/

namespace Sys2Proof.Machine

/-! ### Common steps -/

/-- R26: the Track Circuit Monitor clears a circuit's occupation mark. -/
def clearMark (t : TrackId) (s : State) : State := s.updTrack t fun r => { r with mark := false }

/-- R26: the marks of a list of circuits cleared. -/
def clearMarks (ts : List TrackId) (s : State) : State := ts.foldl (fun s t => clearMark t s) s

/-- The route changes state and takes the stamp. -/
def setRouteState (l : LeverId) (st : RouteState) (s : State) : State :=
  s.updRoute l fun r => { r with state := st, changed := s.tb.clock }

/-- R83: a released entry has its flag set and its hold number absent. -/
def EntryRun.released_ : EntryRun := ⟨true, none⟩

/-- The running record of a route that becomes IDLE (R81, R83): every entry released, k at 1, no
timer, escape flag clear, fault cause absent. -/
def Route.becomesIdle (r : Route) (cfg : RouteConfig) (clock : Clock) : Route :=
  { r with
    state := .idle
    k := 1
    timer := none
    entries := cfg.points.map fun _ => EntryRun.released_
    escape := false
    cause := none
    changed := clock }

/-- The whole route retired and the route made IDLE (R84, R87, R88, R93, R97). -/
def makeIdle (l : LeverId) (s : State) : State :=
  (retireRoute l s).updRoute l fun r => r.becomesIdle s.cfg.routes[l] s.tb.clock

/-- The route goes to SEQUENCE_FAULT with its cause, and ROUTE is latched (R87, R94, R98). -/
def faultRoute (l : LeverId) (cause : FaultCause) (s : State) : State :=
  latch .route (.lever l) (setRouteState l .sequenceFault (s.updRoute l fun r =>
    { r with cause := some cause }))

/-- A lever that owns a route: a configured SIGNAL lever (R38). -/
def State.isSignal (s : State) (l : LeverId) : Bool :=
  s.cfg.levers[l].configured && decide (s.cfg.levers[l].kind = .signal)

/-! ### The grant -/

/-- The answers of R44. -/
inductive RouteAnswer
  | granted
  | busy
  | condition (place : Nat)
  | pool
  | notService
  deriving DecidableEq, Repr

/-- R67, R82: the ROUTE group of a route. -/
def routeGroup (l : LeverId) (cfg : RouteConfig) : List GroupEntry :=
  cfg.points.map fun e => ⟨.route l e.circuit, e.lever, e.position⟩

/-- R82: the place 12 + e of the first points entry whose lever is elsewhere. -/
def pointsFailing (l : LeverId) (s : State) : Option Nat :=
  firstFailing (fun e : PointsEntry => s.stands s.decoded e.lever e.position) 13
    s.cfg.routes[l].points

/-- R82, R86: the holds of a group recorded, every released flag clear, k at 1. -/
def Route.takesHolds (r : Route) (numbers : List HoldId) : Route :=
  { r with entries := numbers.map fun h => ⟨false, some h⟩, k := 1 }

/-- R82: the route request of the Lever Lock Unit. -/
def routeRequest (l : LeverId) (s : State) : RouteAnswer × State :=
  if s.ru[l].state ≠ .idle then (.busy, s)
  else
    match pointsFailing l s with
    | some place => (.condition place, s)
    | none =>
      match createGroup (routeGroup l s.cfg.routes[l]) (.lever l) s with
      | (.created numbers, s1) =>
        let s2 := s1.updRoute l fun r => { r.takesHolds numbers with escape := false, cause := none }
        (.granted, setRouteState l .granted (clearMarks s.cfg.routes[l].circuits s2))
      | (.pool, s1) => (.pool, s1)
      | (.state, s1) => (.notService, s1)

/-- R84: a withdrawn notice. -/
def routeWithdrawn (l : LeverId) (s : State) : State :=
  if s.ru[l].state = .granted then makeIdle l s else s

/-- R85: a left-NORMAL notice marked granted. -/
def leftNormalGranted (l : LeverId) (s : State) : State :=
  if s.ru[l].state = .granted then setRouteState l .set s else s

/-- R86, first row: the holds of a route that escapes from IDLE. -/
def escapeFromIdle (l : LeverId) (s : State) : State :=
  let cfg := s.cfg.routes[l]
  let unheld (s : State) : State := s.updRoute l fun r =>
    { r with entries := cfg.points.map fun _ => EntryRun.released_, k := 1 }
  let s1 :=
    match pointsFailing l s with
    | some _ => unheld s
    | none =>
      match createGroup (routeGroup l cfg) (.lever l) s with
      | (.created numbers, s1) => s1.updRoute l fun r => r.takesHolds numbers
      | (.pool, s1) => unheld s1
      | (.state, s1) => unheld s1
  clearMarks cfg.circuits s1

/-- R86: a left-NORMAL notice marked unreleased: an escape. -/
def routeEscape (l : LeverId) (s : State) : State :=
  let s1 :=
    if s.ru[l].state = .idle then escapeFromIdle l s
    else s.updRoute l fun r => { r with timer := none }
  setRouteState l .set (latch .route (.lever l) (s1.updRoute l fun r => { r with escape := true }))

/-! ### Sectional release -/

/-- The route circuit named by k, 1 for the first (R81). -/
def RouteConfig.circuitAt (cfg : RouteConfig) (k : Nat) : Option TrackId :=
  if k = 0 then none else cfg.circuits[k - 1]?

/-- A circuit is marked and CLEAR. -/
def State.markedClear (s : State) (t : TrackId) : Bool := s.tcm[t].mark && s.tcm[t].isClear

/-- R92 step 1: the entries that circuit `t` protects marked released. -/
def releaseEntries (t : TrackId) : List PointsEntry → List EntryRun → List EntryRun
  | e :: es, r :: rs =>
    (if e.circuit = t then EntryRun.released_ else r) :: releaseEntries t es rs
  | [], rs => rs
  | _ :: _, [] => []

/-- R92: section k of the route released. -/
def releaseSection (l : LeverId) (t : TrackId) (s : State) : State :=
  let s1 := (retireProtected l t s).updRoute l fun r =>
    { r with entries := releaseEntries t s.cfg.routes[l].points r.entries }
  (clearMark t s1).updRoute l fun r => { r with k := r.k + 1 }

/-- R91 first part, R92, R93: sections released for as long as R92 applies; when k passes the last
route circuit the route is complete. -/
def releaseSections (l : LeverId) : Nat → State → State
  | 0, s => s
  | n + 1, s =>
    match s.cfg.routes[l].circuitAt s.ru[l].k with
    | none => makeIdle l s
    | some t => if s.markedClear t then releaseSections l n (releaseSection l t s) else s

/-- R94: circuit k is unmarked and a later route circuit is CLEAR with its mark set. -/
def sequenceBroken (l : LeverId) (s : State) : Bool :=
  match s.cfg.routes[l].circuitAt s.ru[l].k with
  | some t => !s.tcm[t].mark && (s.cfg.routes[l].circuits.drop s.ru[l].k).any s.markedClear
  | none => false

/-- R91: the release pass of one route. -/
def releasePass (l : LeverId) (s : State) : State :=
  if s.ru[l].state = .releasing then
    let s1 := releaseSections l (s.cfg.routes[l].circuits.length + 1) s
    if s1.ru[l].state = .releasing ∧ sequenceBroken l s1 = true then faultRoute l .sequence s1
    else s1
  else s

/-- R91: the pass for every RELEASING route in ascending order of signal lever. -/
def releasePasses (s : State) : State := forEach 40 releasePass s

/-- The route becomes RELEASING with k = 1 and the pass runs at once (R87, R89). -/
def startReleasing (l : LeverId) (s : State) : State :=
  releasePass l (setRouteState l .releasing (s.updRoute l fun r => { r with timer := none, k := 1 }))

/-! ### The return to NORMAL -/

/-- R87 case 2: the mark of the first route circuit is set. -/
def firstMarked (l : LeverId) (s : State) : Bool :=
  match s.cfg.routes[l].circuits with
  | t :: _ => s.tcm[t].mark
  | [] => false

/-- R87 case 3: approach locking applies. -/
def approachOccupied (l : LeverId) (s : State) : Bool :=
  decide (0 < s.cfg.routes[l].approachTime) &&
    s.cfg.routes[l].approach.any fun t => !s.tcm[t].isClear

/-- R87: the return-to-normal decision of a SET route. -/
def returnDecision (l : LeverId) (s : State) : State :=
  if s.ru[l].escape then faultRoute l .unreleased s
  else if firstMarked l s then startReleasing l s
  else if approachOccupied l s then
    setRouteState l .approachLocked (s.updRoute l fun r =>
      { r with timer := some ⟨.approach, s.cfg.routes[l].approachTime⟩ })
  else makeIdle l s

/-- R87: a returned notice; in any state other than SET it changes nothing. -/
def routeReturned (l : LeverId) (s : State) : State :=
  if s.ru[l].state = .set then returnDecision l s else s

/-! ### Events and expiries -/

/-- R89: an occupation event, for every route it concerns. -/
def routeOccupation (t : TrackId) (s : State) : State :=
  forEach 40 (fun l s =>
    if s.ru[l].state = .approachLocked ∧ s.cfg.routes[l].circuits.head? = some t then
      startReleasing l s
    else s) s

/-- R98: the restore notice: every RELEASING route goes to SEQUENCE_FAULT. -/
def restoreNotice (s : State) : State :=
  forEach 40 (fun l s =>
    if s.ru[l].state = .releasing then faultRoute l .scanLoss s else s) s

/-- The route's timer of a kind is due with the route in the state that the expiry acts on. -/
def routeTimerDue (l : LeverId) (kind : RouteTimerKind) (st : RouteState) (s : State) : Bool :=
  decide (s.ru[l].timer = some ⟨kind, 0⟩) && decide (s.ru[l].state = st)

/-- APPROACH_EXPIRY (R88). -/
def execApproachExpiry (l : LeverId) (s : State) : Host.Outcome State Fault Refusal :=
  if routeTimerDue l .approach .approachLocked s then .next (makeIdle l s) else .next s

/-- EMERGENCY_EXPIRY (R97). -/
def execEmergencyExpiry (l : LeverId) (s : State) : Host.Outcome State Fault Refusal :=
  if routeTimerDue l .emergency .timedRelease s then
    .next (latch .route (.lever l) (makeIdle l (clearMarks s.cfg.routes[l].circuits s)))
  else .next s

/-! ### Timed release -/

/-- R96 order 4: the states TIMED_RELEASE is taken in. -/
def RouteState.timedReleasable : RouteState → Bool
  | .approachLocked | .releasing | .sequenceFault => true
  | .idle | .granted | .set | .timedRelease => false

/-- R96: TIMED_RELEASE. -/
def takeTimedRelease (lever : Nat) (s : State) : State × Reply :=
  if s.device = .config then (s, .state)
  else
    match leverOf lever with
    | none => (s, .badArgument 1)
    | some l =>
      if !s.isSignal l then (s, .noRecord)
      else if s.ru[l].state.timedReleasable then
        (setRouteState l .timedRelease (s.updRoute l fun r =>
          { r with timer := some ⟨.emergency, s.cfg.timing.emergency⟩ }),
          .done (bytesTwo s.cfg.timing.emergency))
      else (s, .state)

/-- TIMED_RELEASE (R96). -/
def execTimedRelease (lever : Nat) (s : State) : Host.Outcome State Fault Refusal :=
  serve 51 (takeTimedRelease lever) s

end Sys2Proof.Machine
end

