-- ==== Sys2Proof/Machine/Lever.lean ====
section
/-! DEFINITION. The Lever Lock Unit (03): the lever part of a sample arrival, the scan-withdrawn notice
and the stroke timeout. -/

namespace Sys2Proof.Machine

/-! ### Common steps -/

/-- R54: a notice to the Route Unit, which the Lever Lock Unit hands in SERVICE only. -/
def notice (f : State → State) (s : State) : State := if s.device = .service then f s else s

/-- The decoded catch of a lever is gripped (R39). -/
def State.gripped (s : State) (l : LeverId) : Bool := s.sbc.input.catches[l]

/-- R45: the reasons that latch RELEASE_REFUSED. -/
def RefusalReason.reported : RefusalReason → Bool
  | .notService => false
  | .scan => false
  | .condition _ => true
  | .held _ => true
  | .routeBusy => true
  | .pool => true

/-- R45: a refusal recorded, and RELEASE_REFUSED latched once in a grip. -/
def refuse (l : LeverId) (reason : RefusalReason) (s : State) : State :=
  let first := reason.reported && !s.llu[l].reported
  let s1 := s.updLever l fun r =>
    { r with
      lastRefusal := some ⟨reason, s.tb.clock, false⟩
      reported := r.reported || reason.reported }
  if first then latch .releaseRefused (.lever l) s1 else s1

/-- R49, R50, R51: a lever fault recorded and LEVER_FAULT latched. -/
def leverFault (l : LeverId) (f : LeverFault) (s : State) : State :=
  latch .leverFault (.lever l) (s.updLever l fun r => { r with lastFault := some (f, s.tb.clock) })

/-- R42: the grip record at an evaluation. -/
def Lever.gripAt (r : Lever) (gripped : Bool) : Lever :=
  if gripped then
    if r.catchGripped then r else { r with grip := .seeking }
  else { r with grip := .free, reported := false }

/-- The conditions to leave an end position (R37). -/
def LeverConfig.leave (c : LeverConfig) : EndPos → List Condition
  | .normal => c.leaveNormal
  | .reverse => c.leaveReverse

/-- The other end position. -/
def EndPos.other : EndPos → EndPos
  | .normal => .reverse
  | .reverse => .normal

/-- The first failing condition to leave an end, judged at an evaluation (R40). -/
def leaveFailing (l : LeverId) (p : EndPos) (s : State) : Option Nat :=
  firstFailing (s.condition s.decoded) 1 (s.cfg.levers[l].leave p)

/-- The lever is a SIGNAL lever and the position is NORMAL. -/
def signalNormal (l : LeverId) (p : EndPos) (s : State) : Bool :=
  s.isSignal l && decide (p = .normal)

/-! ### Seeking a grant -/

/-- R43: a grant to leave `p`. -/
def giveGrant (l : LeverId) (p : EndPos) (s : State) : State :=
  s.updLever l fun r =>
    { r with
      release := .granted p
      grip := .spent
      lastRefusal := r.lastRefusal.map fun f => { f with superseded := true } }

/-- R43 test 5, R44: the route request of a SIGNAL lever that seeks to leave NORMAL. -/
def askRoute (l : LeverId) (p : EndPos) (s : State) : State :=
  if signalNormal l p s then
    match routeRequest l s with
    | (.granted, s1) => giveGrant l p s1
    | (.busy, s1) => refuse l .routeBusy s1
    | (.condition place, s1) => refuse l (.condition place) s1
    | (.pool, s1) => refuse l .pool s1
    | (.notService, s1) => refuse l .notService s1
  else giveGrant l p s

/-- R43: the tests of a lever that seeks to leave `p`, in their order. -/
def seekGrant (l : LeverId) (p : EndPos) (s : State) : State :=
  if s.device = .config then refuse l .notService s
  else if s.sbc.scan ≠ .running then refuse l .scan s
  else
    match leaveFailing l p s with
    | some place => refuse l (.condition place) s
    | none =>
      match bindingHold s.ht l p with
      | some h => refuse l (.held h) s
      | none => askRoute l p s

/-- R43: a NOT_GRANTED lever that stands at an end with a SEEKING grip seeks a grant. R58 says that CONFIG
refuses every SEEKING lever, R43 lets only a lever at an end seek: DESIGN CHOICE, a SEEKING lever at
BETWEEN or CONTRADICTORY records no refusal in CONFIG either (log 41). -/
def seekAtEnd (l : LeverId) (s : State) : State :=
  match (s.decoded l).asEnd with
  | some p => if s.llu[l].grip = .seeking then seekGrant l p s else s
  | none => s

/-! ### The granted lever and the stroke -/

/-- R47: a grant withdrawn, with its notice. -/
def withdrawGrant (l : LeverId) (p : EndPos) (s : State) : State :=
  let s1 := s.updLever l fun r => { r with release := .notGranted }
  if signalNormal l p s then notice (routeWithdrawn l) s1 else s1

/-- R47: a withdrawal for a condition or a binding hold. -/
def withdrawFor (l : LeverId) (p : EndPos) (reason : RefusalReason) (s : State) : State :=
  withdrawGrant l p ((refuse l reason s).updLever l fun r => { r with grip := .seeking })

/-- R47: the grant of a lever that has not moved is tested again. -/
def retestGrant (l : LeverId) (p : EndPos) (s : State) : State :=
  if !s.gripped l then
    withdrawGrant l p (s.updLever l fun r => { r with grip := .free })
  else
    match leaveFailing l p s with
    | some place => withdrawFor l p (.condition place) s
    | none =>
      match bindingHold s.ht l p with
      | some h => withdrawFor l p (.held h) s
      | none => s

/-- R54: the returned notice of a SIGNAL lever that reaches NORMAL. -/
def noticeReturned (l : LeverId) (e : EndPos) (s : State) : State :=
  if signalNormal l e s then notice (routeReturned l) s else s

/-- R48: a stroke from `origin` ends at the end position `e`. -/
def arriveAt (l : LeverId) (origin e : EndPos) (s : State) : State :=
  noticeReturned l e (s.updLever l fun r =>
    { r with
      release := .notGranted
      strokeTimer := none
      lastStroke := some (decide (e ≠ origin), s.tb.clock) })

/-- R46: the lever leaves its origin and enters STROKE. -/
def beginStroke (l : LeverId) (p : EndPos) (s : State) : State :=
  let s1 := s.updLever l fun r =>
    { r with release := .stroke p, strokeTimer := some s.cfg.levers[l].strokeTimeout }
  if signalNormal l p s then notice (leftNormalGranted l) s1 else s1

/-- R46: the lever has left its origin; at the other end its whole stroke lay between two arrivals. -/
def leaveOrigin (l : LeverId) (p : EndPos) (s : State) : State :=
  match (s.decoded l).asEnd with
  | some e => arriveAt l p e (beginStroke l p s)
  | none => beginStroke l p s

/-! ### Departures without a grant and contradictory contacts -/

/-- R50: an unreleased departure from the recorded end `p`. -/
def unreleasedDeparture (l : LeverId) (p : EndPos) (s : State) : State :=
  let s1 := leverFault l .unreleased s
  let s2 := if s.gripped l then s1.updLever l fun r => { r with grip := .spent } else s1
  let s3 := if signalNormal l p s then notice (routeEscape l) s2 else s2
  if s.decoded l = p.other.toPosition then noticeReturned l p.other s3 else s3

/-- R51: what follows from a contact fault, by the release state. -/
def contactEffect (l : LeverId) (s : State) : State :=
  match s.llu[l].release with
  | .granted p =>
    let s1 := s.updLever l fun r => { r with release := .notGranted }
    if signalNormal l p s then notice (leftNormalGranted l) s1 else s1
  | .stroke _ => s.updLever l fun r => { r with release := .notGranted, strokeTimer := none }
  | .notGranted =>
    if s.isSignal l && decide (s.recorded l = .normal) then notice (routeEscape l) s else s

/-- R51: a contact fault, judged when the recorded position is not CONTRADICTORY. -/
def contactFault (l : LeverId) (s : State) : State :=
  if s.recorded l = .contradictory then s
  else contactEffect l (leverFault l .contradictory s)

/-! ### The evaluation -/

/-- R50: a lever that stands NOT_GRANTED with a recorded end and is found elsewhere has departed, at a
CONTINUOUS arrival in SERVICE. -/
def departs (mark : Continuity) (l : LeverId) (s : State) : Option EndPos :=
  if mark = .continuous ∧ s.device = .service then
    match (s.recorded l).asEnd with
    | some p => if s.decoded l = p.toPosition then none else some p
    | none => none
  else none

/-- R43, R50: a NOT_GRANTED lever whose contacts agree. -/
def judgeNotGranted (mark : Continuity) (l : LeverId) (s : State) : State :=
  match departs mark l s with
  | some p => unreleasedDeparture l p s
  | none =>
    let s1 :=
      if s.decoded l = .normal ∧ (s.recorded l).asEnd = none then noticeReturned l .normal s else s
    seekAtEnd l s1

/-- R43 to R51: one lever judged by its release state and its decoded position. -/
def judgeLever (mark : Continuity) (l : LeverId) (s : State) : State :=
  if s.decoded l = .contradictory then
    if mark = .restored then s else contactFault l s
  else
    match s.llu[l].release with
    | .granted p => if s.decoded l = p.toPosition then retestGrant l p s else leaveOrigin l p s
    | .stroke p =>
      match (s.decoded l).asEnd with
      | some e => arriveAt l p e s
      | none => s
    | .notGranted => judgeNotGranted mark l s

/-- R41 step 3: the evaluation of one configured lever; its decoded position and catch become its
recorded ones. At a RESTORED arrival the grip record stands as R57 left it. -/
def evaluateLever (mark : Continuity) (l : LeverId) (s : State) : State :=
  if s.cfg.levers[l].configured then
    let s1 := if mark = .restored then s else s.updLever l fun r => r.gripAt (s.gripped l)
    (judgeLever mark l s1).updLever l fun r =>
      { r with position := s.decoded l, catchGripped := s.gripped l }
  else s

/-- R52: the closing check of one lever. -/
def closingCheck (l : LeverId) (s : State) : State :=
  match s.llu[l].release with
  | .granted p =>
    match bindingHold s.ht l p with
    | some h => withdrawFor l p (.held h) s
    | none => s
  | .stroke _ => s
  | .notGranted => s

/-- R53: the magnet bit of every configured lever written. -/
def writeMagnets (s : State) : State :=
  s.setSbc { s.sbc with
    magnets := tabulate fun l =>
      if s.cfg.levers[l].configured then s.llu[l].release.magnet else s.sbc.magnets[l] }

/-! ### The RESTORED arrival -/

/-- R57 step 1. -/
def restoreRelease (l : LeverId) (s : State) : State :=
  if s.cfg.levers[l].configured then
    s.updLever l fun r =>
      { r with
        release := .notGranted
        strokeTimer := none
        reported := false
        grip := if s.gripped l then .seeking else .free }
  else s

/-- R57 step 2. -/
def restoreDeparture (l : LeverId) (s : State) : State :=
  if s.cfg.levers[l].configured && !s.llu[l].unseen && decide (s.decoded l ≠ .contradictory) then
    match departs .continuous l s with
    | some p => unreleasedDeparture l p s
    | none => s
  else s

/-- R57 step 3. -/
def restoreUnseen (l : LeverId) (s : State) : State :=
  if s.cfg.levers[l].configured && s.llu[l].unseen then
    s.updLever l fun r => { r with position := s.decoded l, unseen := false }
  else s

/-- R57 step 4. -/
def restoreContacts (l : LeverId) (s : State) : State :=
  if s.cfg.levers[l].configured && decide (s.decoded l = .contradictory) then contactFault l s
  else s

/-- R57 step 5. -/
def restoreReturned (l : LeverId) (s : State) : State :=
  if s.isSignal l && decide (s.decoded l = .normal) && decide (s.ru[l].state = .set) then
    notice (routeReturned l) s
  else s

/-- R57: the steps of a RESTORED arrival before any lever is evaluated. -/
def restoredSteps (s : State) : State :=
  let s0 := notice restoreNotice s
  let s1 := forEach 40 restoreRelease s0
  let s2 := forEach 40 restoreDeparture s1
  let s3 := forEach 40 restoreUnseen s2
  let s4 := forEach 40 restoreContacts s3
  forEach 40 restoreReturned s4

/-! ### The lever part of an arrival -/

/-- R41: the lever part of a sample arrival. -/
def takeLeverPart (mark : Continuity) (s : State) : State :=
  let s1 := if mark = .restored then restoredSteps s else s
  let s2 := forEach 40 (evaluateLever mark) s1
  let s3 := forEach 40 closingCheck s2
  notice releasePasses (writeMagnets s3)

/-! ### Losing the scan -/

/-- R56: a lever in GRANTED or STROKE becomes unseen. -/
def becomeUnseen (l : LeverId) (s : State) : State :=
  let s1 := s.updLever l fun r => { r with unseen := true, strokeTimer := none }
  match s.llu[l].release with
  | .granted p => if signalNormal l p s then notice (leftNormalGranted l) s1 else s1
  | .stroke _ => s1
  | .notGranted => s

/-- R56: one configured lever at a scan-withdrawn notice. -/
def withdrawLever (l : LeverId) (s : State) : State :=
  if s.cfg.levers[l].configured then
    let s1 := becomeUnseen l s
    if s1.llu[l].grip = .seeking then
      s1.updLever l fun r => { r with lastRefusal := some ⟨.scan, s.tb.clock, false⟩ }
    else s1
  else s

/-- R56: a scan-withdrawn notice. -/
def leverWithdrawn (s : State) : State := forEach 40 withdrawLever s

/-! ### The stroke timeout -/

/-- R49: the lever stands in STROKE. -/
def Release.inStroke : Release → Bool
  | .notGranted => false
  | .granted _ => false
  | .stroke _ => true

/-- STROKE_TIMEOUT (R49). -/
def execStrokeTimeout (l : LeverId) (s : State) : Host.Outcome State Fault Refusal :=
  if decide (s.llu[l].strokeTimer = some 0) && s.llu[l].release.inStroke then
    .next (leverFault l .strokeTimeout (s.updLever l fun r => { r with strokeTimer := none }))
  else .next s

end Sys2Proof.Machine
end

