-- ==== Sys2Proof/Machine/Track.lean ====
section
/-! DEFINITION. The Track Circuit Monitor (02): the track part of a sample arrival, the scan-withdrawn
notice, the pickup expiry, and CLEAR_MARK. -/

namespace Sys2Proof.Machine

/-! ### The states of one circuit -/

/-- A circuit changes state and takes the stamp. -/
def Track.enters (r : Track) (st : TrackState) (clock : Clock) : Track :=
  { r with state := st, changed := clock }

/-- The table of R22 for one circuit with its pickup delay (R23) and its mark (R25). -/
def Track.step (r : Track) (delay : Nat) (up : Bool) (clock : Clock) : Track :=
  match r.state, up with
  | .unknown, false => r.enters .occupied clock
  | .unknown, true => { r.enters .pickupTiming clock with timer := some delay }
  | .occupied, false => r
  | .occupied, true => { r.enters .pickupTiming clock with timer := some delay }
  | .pickupTiming, false => { r.enters .occupied clock with timer := none }
  | .pickupTiming, true => r
  | .clear, false => { r.enters .occupied clock with mark := true }
  | .clear, true => r

/-- R27: a circuit that the neighbour check counts as occupied. -/
def TrackState.besideOccupied : TrackState → Bool
  | .occupied => true
  | .pickupTiming => true
  | .unknown => false
  | .clear => false

/-- R29: the lamp bit of a state. -/
def TrackState.lamp : TrackState → Bool
  | .unknown => true
  | .occupied => true
  | .pickupTiming => true
  | .clear => false

/-! ### The track part of an arrival -/

/-- R22 step 1: every configured circuit moves to its new state. -/
def stepCircuits (s : State) : State :=
  { s with
    tcm := tabulate fun t =>
      if s.cfg.tracks[t].configured then
        s.tcm[t].step s.cfg.tracks[t].delay s.sbc.input.tracks[t] s.tb.clock
      else s.tcm[t] }

/-- The circuit went from CLEAR to OCCUPIED. -/
def dropped (before after : State) (t : TrackId) : Bool :=
  decide (before.tcm[t].state = .clear) && decide (after.tcm[t].state = .occupied)

/-- R27: an occupation of the circuit is spontaneous. -/
def State.spontaneous (s : State) (t : TrackId) : Bool :=
  !s.cfg.tracks[t].neighbours.isEmpty &&
    s.cfg.tracks[t].neighbours.all fun n => !s.tcm[n].state.besideOccupied

/-- R28: the fault flag set and TRACK_FAULT latched. -/
def setTrackFault (t : TrackId) (s : State) : State :=
  latch .trackFault (.circuit t) (s.updTrack t fun r => { r with fault := true })

/-- R22 step 2: the neighbour check of every circuit that dropped, in ascending order. -/
def neighbourChecks (before s : State) : State :=
  forEach 32 (fun t s1 =>
    if dropped before s t && s.spontaneous t then setTrackFault t s1 else s1) s

/-- R29: the lamp bit of every configured circuit written. -/
def writeLamps (s : State) : State :=
  s.setSbc { s.sbc with
    lamps := tabulate fun t =>
      if s.cfg.tracks[t].configured then s.tcm[t].state.lamp else s.sbc.lamps[t] }

/-- R32: the occupation events, handed over in SERVICE in ascending order. -/
def occupationEvents (before after s : State) : State :=
  if s.device = .service then
    forEach 32 (fun t s1 =>
      if dropped before after t then trainOccupation t (routeOccupation t s1) else s1) s
  else s

/-- R22: the track part of a sample arrival. -/
def takeTrackPart (s : State) : State :=
  let s1 := stepCircuits s
  occupationEvents s s1 (writeLamps (neighbourChecks s s1))

/-! ### Losing the scan -/

/-- R30: one configured circuit at a scan-withdrawn notice. -/
def Track.withdrawn (r : Track) (clock : Clock) : Track :=
  if r.state = .unknown then { r with timer := none }
  else { r.enters .unknown clock with timer := none }

/-- R30: a scan-withdrawn notice. -/
def trackWithdrawn (s : State) : State :=
  { s with
    tcm := tabulate fun t =>
      if s.cfg.tracks[t].configured then s.tcm[t].withdrawn s.tb.clock else s.tcm[t]
    sbc := { s.sbc with
      lamps := tabulate fun t => s.cfg.tracks[t].configured || s.sbc.lamps[t] } }

/-! ### The pickup expiry -/

/-- R23: the pickup timer of the circuit is due with the circuit in PICKUP_TIMING. -/
def State.pickupDue (s : State) (t : TrackId) : Bool :=
  decide (s.tcm[t].timer = some 0) && decide (s.tcm[t].state = .pickupTiming)

/-- R23: every circuit whose timer is due moves to CLEAR, with its lamp bit 0. -/
def clearDue (s : State) : State :=
  { s with
    tcm := tabulate fun t =>
      if s.pickupDue t then { s.tcm[t].enters .clear s.tb.clock with timer := none } else s.tcm[t]
    sbc := { s.sbc with lamps := tabulate fun t => !s.pickupDue t && s.sbc.lamps[t] } }

/-- R33: the clearance events, handed over in SERVICE in ascending order. -/
def clearanceEvents (before s : State) : State :=
  if s.device = .service then
    forEach 32 (fun t s1 =>
      if before.pickupDue t then trainClearance t (releasePasses s1) else s1) s
  else s

/-- PICKUP_EXPIRY (R23): every pickup timer that is due expires. -/
def execPickupExpiry (s : State) : Host.Outcome State Fault Refusal :=
  .next (clearanceEvents s (clearDue s))

/-! ### CLEAR_MARK -/

/-- R35: CLEAR_MARK. -/
def takeClearMark (circuit : Nat) (s : State) : State × Reply :=
  match trackOf circuit with
  | none => (s, .badArgument 1)
  | some t =>
    if s.cfg.tracks[t].configured then
      (s.updTrack t fun r => { r with mark := false, fault := false },
        .done [bitsByte [s.tcm[t].mark, s.tcm[t].fault]])
    else (s, .noRecord)

/-- CLEAR_MARK (R35). -/
def execClearMark (circuit : Nat) (s : State) : Host.Outcome State Fault Refusal :=
  serve 48 (takeClearMark circuit) s

end Sys2Proof.Machine
end

