-- ==== Sys2Proof/Machine/Scan.lean ====
section
/-! DEFINITION. The Scan Bus Controller (01): the frame and its copy, the judgement and the scan
states, the sample arrival, and the start and the stop of the scan. -/

namespace Sys2Proof.Machine

/-! ### The boards -/

/-- R5: what a sync does at the boards: the bits shifted in go to the latch, and the path takes the
bits of the frame that opens. -/
def Boards.sync (b : Boards) (bits : List Bool) : Boards :=
  { latched := b.shifted, shifted := some bits }

/-! ### A frame opens -/

/-- R6: the output image bit of an output function; 0 for NONE. -/
def ScanBus.outputBit (b : ScanBus) : OutputFunction → Bool
  | .none => false
  | .magnet l => b.magnets[l]
  | .trackLamp t => b.lamps[t]

/-- R7: the bit of slot `k` below the marker slot: the image bit in RUNNING, 0 in any other state. -/
def ScanBus.copyBit (b : ScanBus) (slots : Vector SlotEntry 192) (k : Nat) : Bool :=
  if h : k < 192 then
    if b.scan = .running then b.outputBit slots[k].output else false
  else false

/-- R7: the output copy of a frame of `n` slots: slots 0 to n - 2, then the marker. -/
def ScanBus.outputCopy (b : ScanBus) (slots : Vector SlotEntry 192) (n : Nat) (marker : Bool) :
    List Bool :=
  (List.range (n - 1)).map (b.copyBit slots) ++ [marker]

/-- The sync that is due has come (R1, R3, R16). -/
def syncDue (s : State) : Bool :=
  match s.sbc.nextSync with
  | some t => reached s.tb.tickCount t && s.sbc.frame.isNone
  | none => false

/-- R3: the tick of the sync that follows the one now taken. -/
def followingSync (s : State) : Option Tick :=
  s.sbc.nextSync.map fun t => t + s.cfg.periodTicks

/-- R2, R9: the first frame after SCAN_START or under a changed length is unjudged. -/
def opensUnjudged (s : State) : Bool :=
  s.sbc.firstDue || decide (s.cfg.frameLength ≠ s.sbc.lengthInForce)

/-- R1, R7, R8, R9: a frame opens. -/
def openFrame (s : State) : State :=
  let marker := !s.sbc.marker
  let copy := s.sbc.outputCopy s.cfg.slots s.cfg.frameLength marker
  { s with
    boards := s.boards.sync copy
    sbc := { s.sbc with
      frameCounter := s.sbc.frameCounter + 1
      expected := s.sbc.marker
      marker := marker
      frame := some ⟨s.cfg.frameLength, s.cfg.slots, opensUnjudged s, copy⟩
      lengthInForce := s.cfg.frameLength
      firstDue := false
      nextSync := followingSync s
      syncPulse := false } }

/-- FRAME_OPEN (R7): the sync of a frame that is due. -/
def execFrameOpen (s : State) : Host.Outcome State Fault Refusal :=
  if syncDue s && decide (s.sbc.scan ≠ .stopped) then .next (openFrame s) else .next s

/-! ### A frame is judged -/

/-- R14: the bit that an input function takes from a frame; 0 when no slot carries it. -/
def Frame.inputBit (f : Frame) (sdi : BitVec 192) (fn : InputFunction) : Bool :=
  match inputSlot f.slots f.length fn with
  | some k => sdi.getLsbD k.val
  | none => false

/-- R9, R14: the input image of a good frame, by function. -/
def Frame.image (f : Frame) (sdi : BitVec 192) : InputImage where
  leverN := tabulate fun l => f.inputBit sdi (.leverN l)
  leverR := tabulate fun l => f.inputBit sdi (.leverR l)
  catches := tabulate fun l => f.inputBit sdi (.catch_ l)
  tracks := tabulate fun t => f.inputBit sdi (.track t)

/-- R9: the input image and the run counts after a good frame, which ends. -/
def ScanBus.takeGood (b : ScanBus) (image : InputImage) : ScanBus :=
  { b with frame := none, input := image, goodRun := min 255 (b.goodRun + 1), badRun := 0 }

/-- R9: the run counts after a bad frame, which ends. -/
def ScanBus.takeBad (b : ScanBus) : ScanBus :=
  { b with frame := none, badRun := min 255 (b.badRun + 1), goodRun := 0 }

/-- R14: a sample arrival: the track part, then the lever part. -/
def deliverArrival (mark : Continuity) (s : State) : State := takeLeverPart mark (takeTrackPart s)

/-- The scan state becomes RUNNING (R10, R13). -/
def enterRunning (s : State) : State := s.setSbc { s.sbc with scan := .running }

/-- R9 to R11, R13: what follows a good frame. -/
def afterGood (s : State) : State :=
  match s.sbc.scan with
  | .starting => if s.sbc.goodRun = 8 then deliverArrival .first (enterRunning s) else s
  | .lost => if s.sbc.goodRun = 8 then deliverArrival .restored (enterRunning s) else s
  | .running => deliverArrival .continuous s
  | .stopped => s

/-- R12: the entry to LOST. SCAN is a level source, pending while the state is LOST. -/
def loseScan (s : State) : State :=
  leverWithdrawn (trackWithdrawn (s.setSbc { s.sbc with
    scan := .lost
    magnets := Vector.replicate 40 false }))

/-- R11, R12: what follows a bad frame. -/
def afterBad (s : State) : State :=
  if s.sbc.scan = .running ∧ s.sbc.badRun = 3 then loseScan s else s

/-- R9: the frame in progress ends and is judged. -/
def judgeFrame (f : Frame) (sdi : BitVec 192) (s : State) : State :=
  if f.unjudged then s.setSbc { s.sbc with frame := none }
  else if sdi.getLsbD (f.length - 1) = s.sbc.expected then
    afterGood (s.setSbc (s.sbc.takeGood (f.image sdi)))
  else afterBad (s.setSbc s.sbc.takeBad)

/-- FRAME_JUDGE (R9). -/
def execFrameJudge (sdi : BitVec 192) (s : State) : Host.Outcome State Fault Refusal :=
  match s.sbc.frame with
  | some f => .next (judgeFrame f sdi s)
  | none => .next s

/-! ### Starting -/

/-- R15: SCAN_START. -/
def takeScanStart (s : State) : State × Reply :=
  if s.device = .service ∨ s.sbc.scan ≠ .stopped then (s, .state)
  else
    (s.setSbc { s.sbc with
      scan := .starting
      frameCounter := 0
      goodRun := 0
      badRun := 0
      firstDue := true
      nextSync := some (s.tb.tickCount + 1) }, .ok)

/-- SCAN_START (R15). -/
def execScanStart (s : State) : Host.Outcome State Fault Refusal := serve 16 takeScanStart s

/-! ### Stopping -/

/-- R16 steps 1 to 3: the scan stops, a frame in progress becomes unjudged, the notices are
delivered. -/
def stopScan (s : State) : State :=
  let s1 := s.setSbc { s.sbc with
    scan := .stopped
    frame := s.sbc.frame.map fun f => { f with unjudged := true }
    stop := .closingFrame }
  if s.sbc.scan = .running ∨ s.sbc.scan = .lost then leverWithdrawn (trackWithdrawn s1) else s1

/-- R16: SCAN_STOP. A stop of a scan that is not STOPPED is answered after its closing sync: no reply
yet. -/
def takeScanStop (s : State) : State × Option Reply :=
  if s.device = .service then (s, some .state)
  else if s.sbc.scan = .stopped then (s, some .ok)
  else (stopScan s, none)

/-- A request whose answer may have to wait: while it waits, the port stays EXECUTING (R177). -/
def replyOrWait (request : Byte) (answer : State × Option Reply) : State :=
  match answer.2 with
  | some r => answer.1.answered request r
  | none => answer.1.setPort { answer.1.cp with state := .executing }

/-- SCAN_STOP (R16). -/
def execScanStop (s : State) : Host.Outcome State Fault Refusal :=
  if s.cp.state = .executing then .next s else .next (replyOrWait 17 (takeScanStop s))

/-- R16 step 5: the closing frame opens: every output slot 0, the marker slot too, and unjudged. -/
def openClosingFrame (s : State) : State :=
  let zeros := List.replicate s.cfg.frameLength false
  { s with
    boards := s.boards.sync zeros
    sbc := { s.sbc with
      frameCounter := s.sbc.frameCounter + 1
      expected := s.sbc.marker
      marker := !s.sbc.marker
      frame := some ⟨s.cfg.frameLength, s.cfg.slots, true, zeros⟩
      lengthInForce := s.cfg.frameLength
      firstDue := false
      nextSync := followingSync s
      stop := .closingSync
      syncPulse := false } }

/-- CLOSING_FRAME (R16): the next frame period of a SCAN_STOP. -/
def execClosingFrame (s : State) : Host.Outcome State Fault Refusal :=
  if syncDue s && decide (s.sbc.stop = .closingFrame) then .next (openClosingFrame s) else .next s

/-- R16 steps 6 and 7: SFS is high for one slot time with SCK_S low, so the zeros go to the latches and
no clock shifts anything in; then the bus is idle. The reply is formed. -/
def closeBus (s : State) : State :=
  State.answered
    { s with
      boards := { s.boards with latched := s.boards.shifted }
      sbc := { s.sbc with stop := .none, nextSync := none, syncPulse := true } } 17 .ok

/-- CLOSING_SYNC (R16): the following frame period of a SCAN_STOP. -/
def execClosingSync (s : State) : Host.Outcome State Fault Refusal :=
  if syncDue s && decide (s.sbc.stop = .closingSync) then .next (closeBus s) else .next s

end Sys2Proof.Machine
end

