-- ==== Sys2Proof/Machine/Service.lean ====
section
/-! DEFINITION. The device states (10 section 10.5): the consistency check of ENTER_SERVICE, and what
ENTER_SERVICE, RESTART and a full reset do to every block (the reset table of each chapter). -/

namespace Sys2Proof.Machine

/-! ### The consistency check of R182 -/

/-- The items a TABLE_ERROR names (R187). -/
inductive TableItem
  | slot (k : SlotId)
  | track (t : TrackId)
  | lever (l : LeverId)
  | route (l : LeverId)
  | line (x : Line)
  | codeMeaning (m : Meaning)
  | codeEntry (c : CodeId)
  deriving DecidableEq, Repr

/-- R187: the two bytes of an item. -/
def TableItem.bytes : TableItem → List Byte
  | .slot k => bytesOne 0 ++ bytesOne k.val
  | .track t => bytesOne 1 ++ bytesOne (trkNo t)
  | .lever l => bytesOne 2 ++ bytesOne (levNo l)
  | .route l => bytesOne 3 ++ bytesOne (levNo l)
  | .line x => bytesOne 4 ++ bytesOne (lineNo x)
  | .codeMeaning m => bytesOne 5 ++ bytesOne (meaningNo m)
  | .codeEntry c => bytesOne 6 ++ bytesOne c.val

/-- Slot `k` is below the marker slot. -/
def ConfigStore.belowMarker (cfg : ConfigStore) (k : SlotId) : Bool :=
  decide (k.val + 1 < cfg.frameLength)

/-- Slots `j` and `k` carry the same function, other than NONE, in one direction. -/
def ConfigStore.sameFunction (cfg : ConfigStore) (j k : SlotId) : Bool :=
  (decide (cfg.slots[k].input ≠ .none) && decide (cfg.slots[j].input = cfg.slots[k].input)) ||
    (decide (cfg.slots[k].output ≠ .none) && decide (cfg.slots[j].output = cfg.slots[k].output))

/-- The slot below the marker slot repeats a function of a lower one. -/
def ConfigStore.slotFails (cfg : ConfigStore) (k : SlotId) : Bool :=
  cfg.belowMarker k &&
    (List.finRange 192).any fun j => decide (j.val < k.val) && cfg.sameFunction j k

/-- A slot below the marker slot carries an input function. -/
def ConfigStore.hasInput (cfg : ConfigStore) (f : InputFunction) : Bool :=
  (inputSlot cfg.slots cfg.frameLength f).isSome

/-- A slot below the marker slot carries an output function. -/
def ConfigStore.hasOutput (cfg : ConfigStore) (f : OutputFunction) : Bool :=
  hasOutputSlot cfg.slots cfg.frameLength f

/-- The circuit fails its check. -/
def ConfigStore.trackFails (cfg : ConfigStore) (t : TrackId) : Bool :=
  cfg.tracks[t].configured &&
    (!cfg.hasInput (.track t) || cfg.tracks[t].neighbours.any fun n => !cfg.tracks[n].configured)

/-- What a condition names is configured. -/
def ConfigStore.namesConfigured (cfg : ConfigStore) : Condition → Bool
  | .leverAt l _ => cfg.levers[l].configured
  | .trackClear t => cfg.tracks[t].configured

/-- The lever fails its check. -/
def ConfigStore.leverFails (cfg : ConfigStore) (l : LeverId) : Bool :=
  cfg.levers[l].configured &&
    (!cfg.hasInput (.leverN l) || !cfg.hasInput (.leverR l) || !cfg.hasInput (.catch_ l) ||
      !cfg.hasOutput (.magnet l) ||
      !(cfg.levers[l].leaveNormal ++ cfg.levers[l].leaveReverse).all cfg.namesConfigured)

/-- The lever is a configured SIGNAL lever. -/
def ConfigStore.isSignal (cfg : ConfigStore) (l : LeverId) : Bool :=
  cfg.levers[l].configured && decide (cfg.levers[l].kind = .signal)

/-- The lever named is a configured SIGNAL lever. -/
def ConfigStore.namesSignal (cfg : ConfigStore) : Option LeverId → Bool
  | some l => cfg.isSignal l
  | none => false

/-- The circuit named is configured. -/
def ConfigStore.namesCircuit (cfg : ConfigStore) : Option TrackId → Bool
  | some t => cfg.tracks[t].configured
  | none => false

/-- R80: an empty route: no points entries, no circuits, an approach time of 0. -/
def RouteConfig.isEmpty (r : RouteConfig) : Bool :=
  r.points.isEmpty && r.circuits.isEmpty && r.approach.isEmpty && decide (r.approachTime = 0)

/-- The points entry names a configured POINTS or OTHER lever and a configured circuit. -/
def ConfigStore.pointsSound (cfg : ConfigStore) (e : PointsEntry) : Bool :=
  cfg.levers[e.lever].configured && decide (cfg.levers[e.lever].kind ≠ .signal) &&
    cfg.tracks[e.circuit].configured

/-- The route fails its check. -/
def ConfigStore.routeFails (cfg : ConfigStore) (l : LeverId) : Bool :=
  let r := cfg.routes[l]
  r.loaded && !r.isEmpty &&
    (!cfg.isSignal l || !r.points.all cfg.pointsSound ||
      !(r.circuits ++ r.approach).all fun t => cfg.tracks[t].configured)

/-- The lines before a line. -/
def earlierLines : Line → List Line
  | .a => []
  | .b => [.a]
  | .c => [.a, .b]

/-- The line fails its check. -/
def ConfigStore.lineFails (cfg : ConfigStore) (x : Line) : Bool :=
  let r := cfg.lines.get x
  !r.configured || !cfg.namesSignal r.starter || !cfg.namesSignal r.home ||
    (earlierLines x).any (fun y => decide ((cfg.lines.get y).starter = r.starter)) ||
    !cfg.namesCircuit r.entryCircuit || !cfg.namesCircuit r.berth ||
    !r.conditions.all cfg.namesConfigured ||
    !r.clearing.all fun e => cfg.levers[e.1].configured

/-- R109: an entry serves a meaning: loaded, sendable, no DONT_CARE group. -/
def servesMeaning (m : Meaning) : Option CodeEntry → Bool
  | some e => decide (e.meaning = m) && e.sendable && e.pattern.all GroupSpec.care
  | none => false

/-- R109: the meanings of its first part, in its order. -/
def requiredMeanings : List Meaning :=
  [.callAttention, .entering, .outOfSection, .cancel, .obstructionDanger, .obstructionRemoved]

/-- No entry serves the meaning. -/
def ConfigStore.meaningLacks (cfg : ConfigStore) (m : Meaning) : Bool :=
  !(List.finRange 32).any fun c : CodeId => servesMeaning m cfg.codes[c]

/-- R109: two groups at one place are the same: one mask, and one count where the mask is CARE. -/
def GroupSpec.sameAs (g h : GroupSpec) : Bool :=
  decide (g.care = h.care) && (!g.care || decide (g.count = h.count))

/-- R109: two loaded entries are identical. -/
def identicalEntries : Option CodeEntry → Option CodeEntry → Bool
  | some e, some f =>
    decide (e.pattern.length = f.pattern.length) &&
      (e.pattern.zip f.pattern).all fun g => g.1.sameAs g.2
  | _, _ => false

/-- R109: the entry is identical with a lower one. -/
def ConfigStore.codeFails (cfg : ConfigStore) (c : CodeId) : Bool :=
  (List.finRange 32).any fun d : CodeId =>
    decide (d.val < c.val) && identicalEntries cfg.codes[d] cfg.codes[c]

/-- R182: the first offending item of the tables. -/
def ConfigStore.offendingItem (cfg : ConfigStore) : Option TableItem :=
  ((lowest cfg.slotFails).map TableItem.slot) <|>
  ((lowest cfg.trackFails).map TableItem.track) <|>
  ((lowest cfg.leverFails).map TableItem.lever) <|>
  ((lowest cfg.routeFails).map TableItem.route) <|>
  (([Line.a, Line.b, Line.c].find? cfg.lineFails).map TableItem.line) <|>
  ((requiredMeanings.find? cfg.meaningLacks).map TableItem.codeMeaning) <|>
  ((lowest cfg.codeFails).map TableItem.codeEntry)

/-- R182 check 3: the lever is out of place. -/
def State.leverOutOfPlace (s : State) (l : LeverId) : Bool :=
  s.cfg.levers[l].configured &&
    (decide (s.recorded l = .contradictory) ||
      (decide (s.cfg.levers[l].kind = .signal) && decide (s.recorded l ≠ .normal)))

/-! ### Entering service -/

/-- R58: a lever at ENTER_SERVICE. -/
def Lever.entersService (r : Lever) : Lever :=
  { r with
    grip := if r.grip = .seeking then .spent else r.grip
    strokeTimer := none
    unseen := false }

/-- R123: a Bell Unit at ENTER_SERVICE. -/
def BellUnit.entersService (b : BellUnit) : BellUnit :=
  { b with lastRecognised := none, sender := none, pendingEntering := false, expected := none }

/-- R140: a line at ENTER_SERVICE, and at RESTART. -/
def BlockLine.starts (b : BlockLine) : BlockLine :=
  { b with
    inInstrument := .blocked
    count := 0
    quiet := none
    obstruction := false
    standing := .none }

/-- R77: the Hold Table at ENTER_SERVICE: the three block holds and nothing else. -/
def createBlockHolds (s : State) : State :=
  forEachLine ensureBlock { s with ht := Vector.replicate 72 none }

/-- R183: ENTER_SERVICE with every check passed. -/
def enterService (s : State) : State :=
  createBlockHolds { s with
    device := .service
    tcm := s.tcm.map fun r => { r with mark := false }
    llu := s.llu.map Lever.entersService
    ru := s.ru.map fun r => { Route.reset with changed := r.changed }
    bu := s.bu.map BellUnit.entersService
    blc := s.blc.map BlockLine.starts
    trt := TrainTable.reset }

/-- R182: ENTER_SERVICE. -/
def takeEnterService (s : State) : State × Reply :=
  if s.device = .service then (s, .state)
  else if s.sbc.scan ≠ .running then (s, ⟨.scanNotReady, bytesOne (scanNo s.sbc.scan)⟩)
  else
    match s.cfg.offendingItem with
    | some item => (s, ⟨.tableError, item.bytes⟩)
    | none =>
      match lowest s.leverOutOfPlace with
      | some l =>
        (s, ⟨.leversNotNormal, bytesOne (levNo l) ++ bytesOne (positionNo (s.recorded l))⟩)
      | none => (enterService s, .ok)

/-- ENTER_SERVICE (R182). -/
def execEnterService (s : State) : Host.Outcome State Fault Refusal := serve 20 takeEnterService s

/-! ### RESTART -/

/-- R58: a lever at RESTART. -/
def Lever.restarts (r : Lever) : Lever :=
  { r with release := .notGranted, strokeTimer := none, unseen := false }

/-- R123: a Bell Unit at RESTART; a blanking that runs ends 10 ticks after it. -/
def BellUnit.restarts (b : BellUnit) (now : Tick) : BellUnit :=
  { b with
    buffer0 := none
    buffer1 := none
    turn := false
    lastRecognised := none
    sender := none
    pendingEntering := false
    blankUntil := b.blankUntil.map fun _ => now + 10
    expected := none
    overrun := false
    collided := false
    unacknowledged := false }

/-- R184: RESTART, as one event. -/
def restartPart (s : State) : State :=
  { s with
    device := .config
    sbc := { s.sbc with magnets := Vector.replicate 40 false }
    llu := s.llu.map Lever.restarts
    ht := Vector.replicate 72 none
    ru := Vector.replicate 40 Route.reset
    bu := s.bu.map fun b => b.restarts s.tb.tickCount
    blc := s.blc.map BlockLine.starts
    trt := TrainTable.reset
    au := s.au.map SourceRecord.clear }

/-- R184: RESTART. -/
def takeRestart (s : State) : State × Reply := (restartPart s, .ok)

/-- RESTART (R184). -/
def execRestart (s : State) : Host.Outcome State Fault Refusal := serve 21 takeRestart s

/-! ### Full reset -/

/-- R17: a full reset leaves the board latches; a frame in progress is left part shifted (log 7). -/
def Boards.afterReset (b : Boards) (frameInProgress : Bool) : Boards :=
  { b with shifted := if frameInProgress then none else b.shifted }

/-- FULL_RESET (R185). -/
def execFullReset (s : State) : Host.Outcome State Fault Refusal :=
  .next { State.reset with
    pending := s.pending
    draws := s.draws
    boards := s.boards.afterReset s.sbc.frame.isSome }

end Sys2Proof.Machine
end

