-- ==== Sys2Proof/Machine/Time.lean ====
section
/-! DEFINITION. The Time Base (09): the tick with the sampling it drives, the tenth boundary with the
timers it counts, and SET_CLOCK. -/

namespace Sys2Proof.Machine

/-! ### The tick -/

/-- R164: one tick counted; the phase returns to 0 at a tenth boundary, which is then due. -/
def TimeBase.tick (t : TimeBase) : TimeBase :=
  if t.tickPhase = 19 then
    { t with tickCount := t.tickCount + 1, tickPhase := 0, boundariesDue := t.boundariesDue + 1 }
  else { t with tickCount := t.tickCount + 1, tickPhase := t.tickPhase + 1 }

/-- R102, R117, R127: one line's inputs sampled at the tick; a blanked line takes no bell sample. -/
def sampleLine (x : Line) (inputs : LineInputs) (s : State) : State :=
  let s1 := if (s.bu.get x).blankUntil.isSome then s else sampleBell x inputs.bellIn s
  s1.updLine x fun b => b.sample (rawReadingOf inputs.instrP inputs.instrN)

/-- R164: a tick, and what it samples. DESIGN CHOICE: the count rises and the samples are taken as one
event, so an event due at this tick comes after the samples of this tick (log 42). -/
def takeTick (a b c : LineInputs) (s : State) : State :=
  sampleLine .c c (sampleLine .b b (sampleLine .a a { s with tb := s.tb.tick }))

/-- TICK (R164). -/
def execTick (a b c : LineInputs) (s : State) : Host.Outcome State Fault Refusal :=
  .next (takeTick a b c s)

/-! ### The tenth boundary -/

/-- One boundary counted by a pickup timer (R23, R166). -/
def Track.boundary (r : Track) : Track := { r with timer := countDown r.timer }
/-- One boundary counted by a stroke timer (R49, R166). -/
def Lever.boundary (r : Lever) : Lever := { r with strokeTimer := countDown r.strokeTimer }
/-- One boundary counted by a route's timer (R88, R97, R166). -/
def Route.boundary (r : Route) : Route :=
  { r with timer := r.timer.map fun t => { t with remaining := t.remaining - 1 } }
/-- One boundary counted by a repetition deadline (R121, R166). -/
def BellUnit.boundary (b : BellUnit) : BellUnit :=
  { b with expected := b.expected.map fun e => { e with deadline := e.deadline - 1 } }
/-- One boundary counted by a record's lapse deadlines (R159, R166). -/
def Train.boundary (t : Train) : Train :=
  { t with inLapse := countDown t.inLapse, outLapse := countDown t.outLapse }

/-- R165, R166: the clock rises and every timer counted in tenths counts one boundary. A timer that
reaches 0 is due. -/
def takeBoundary (s : State) : State :=
  { s with
    tb := { s.tb with clock := s.tb.clock + 1, boundariesDue := s.tb.boundariesDue - 1 }
    tcm := s.tcm.map Track.boundary
    llu := s.llu.map Lever.boundary
    ru := s.ru.map Route.boundary
    bu := s.bu.map BellUnit.boundary
    trt := { s.trt with records := s.trt.records.map fun r => r.map Train.boundary } }

/-- TENTH_BOUNDARY (R165): a boundary that the tick phase has reached. -/
def execTenthBoundary (s : State) : Host.Outcome State Fault Refusal :=
  if 0 < s.tb.boundariesDue then .next (takeBoundary s) else .next s

/-! ### SET_CLOCK -/

/-- R167: SET_CLOCK. -/
def takeSetClock (value : Nat) (s : State) : State × Reply :=
  if value ≤ 16777215 then
    ({ s with tb := { s.tb with clock := BitVec.ofNat 24 value } },
      .done (bytesThree s.tb.clock.toNat))
  else (s, .badArgument 1)

/-- SET_CLOCK (R167). -/
def execSetClock (value : Nat) (s : State) : Host.Outcome State Fault Refusal :=
  serve 66 (takeSetClock value) s

end Sys2Proof.Machine
end

