-- ==== Sys2Proof/Machine/Port.lean ====
section
/-! DEFINITION. The Console Port (10 sections 10.1 and 10.2): the selection, the frame it stores, the
hand-over of a request to its owner, and the reply. -/

namespace Sys2Proof.Machine

/-! ### The selection -/

/-- R176: the bytes MISO carries, by the port state at the falling edge of CSN: 0 in every position,
BUSY in every position, or the reply frame and then 0. -/
def ConsolePort.misoByte (cp : ConsolePort) (place : Nat) : Byte :=
  match cp.state with
  | .idle => 0
  | .executing => Status.code .busy
  | .replyReady => cp.reply.getD place 0

/-- R176: the bits driven on MISO over a number of clocks. -/
def ConsolePort.misoBits (cp : ConsolePort) (clocks : Nat) : List Bool :=
  (bitsOf ((List.range ((clocks + 7) / 8)).map cp.misoByte)).take clocks

/-- R176: the bytes a selection stores: in IDLE up to 62 whole bytes; none in any other state. -/
def ConsolePort.storedBytes (cp : ConsolePort) (mosi : List Bool) : List Byte :=
  match cp.state with
  | .idle => (wholeBytes mosi).take 62
  | .executing => cp.request
  | .replyReady => cp.request

/-- R176: a selection, from the falling edge of CSN to its last clock. -/
def takeSelection (mosi : List Bool) (s : State) : State :=
  s.setPort { s.cp with
    selected := some s.cp.state
    request := s.cp.storedBytes mosi
    miso := s.cp.misoBits mosi.length }

/-- PORT_SELECTION (R176): the port is selected when CSN falls; a selection that lasts is not begun
anew. -/
def execPortSelection (mosi : List Bool) (s : State) : Host.Outcome State Fault Refusal :=
  if s.cp.selected.isNone then .next (takeSelection mosi s) else .next s

/-! ### The hand-over -/

/-- An answer that is formed at once. -/
def atOnce (answer : State × Reply) : State × Option Reply := (answer.1, some answer.2)

/-- R178: a request handed to the block that owns it. No event is a request. -/
def handRequest (i : Instr) (s : State) : State × Option Reply :=
  match i with
  | .fullReset => (s, none)
  | .tick _ _ _ => (s, none)
  | .tenthBoundary => (s, none)
  | .frameOpen => (s, none)
  | .frameJudge _ => (s, none)
  | .pickupExpiry => (s, none)
  | .strokeTimeout _ => (s, none)
  | .approachExpiry _ => (s, none)
  | .emergencyExpiry _ => (s, none)
  | .codeEnd _ => (s, none)
  | .sendCompletion _ => (s, none)
  | .blankingEnd _ _ => (s, none)
  | .repetitionDeadlineExpiry _ => (s, none)
  | .instrumentSettling _ => (s, none)
  | .quietWaitEnd _ => (s, none)
  | .lapseExpiry _ _ => (s, none)
  | .portSelection _ => (s, none)
  | .portDeselection => (s, none)
  | .loadSlots n first es => atOnce (takeLoadSlots n first es s)
  | .loadLever l kind t ns rs => atOnce (takeLoadLever l kind t ns rs s)
  | .loadRoute l ps cs aps time => atOnce (takeLoadRoute l ps cs aps time s)
  | .loadTrack t d ns => atOnce (takeLoadTrack t d ns s)
  | .loadLine x st en hm bt cs ks lapse => atOnce (takeLoadLine x st en hm bt cs ks lapse s)
  | .loadCode e p m meaning cls snd => atOnce (takeLoadCode e p m meaning cls snd s)
  | .loadTiming v => atOnce (takeLoadTiming v s)
  | .loadAttention src en p => atOnce (takeLoadAttention src en p s)
  | .scanStart => atOnce (takeScanStart s)
  | .scanStop => takeScanStop s
  | .closingFrame => (s, none)
  | .closingSync => (s, none)
  | .enterService => atOnce (takeEnterService s)
  | .restart => atOnce (takeRestart s)
  | .readStatus => atOnce (takeReadStatus s)
  | .readLever l => atOnce (takeReadLever l s)
  | .readTrack t => atOnce (takeReadTrack t s)
  | .readRoute l => atOnce (takeReadRoute l s)
  | .readHold n => atOnce (takeReadHold n s)
  | .listHolds sel st => atOnce (takeListHolds sel st s)
  | .readLine x => atOnce (takeReadLine x s)
  | .readCode x => atOnce (takeReadCode x s)
  | .readTrain r => atOnce (takeReadTrain r s)
  | .listTrains => atOnce (takeListTrains s)
  | .clearMark t => atOnce (takeClearMark t s)
  | .placeBar l p why => atOnce (takePlaceBar l p why s)
  | .removeBar n => atOnce (takeRemoveBar n s)
  | .timedRelease l => atOnce (takeTimedRelease l s)
  | .createTrain c d => atOnce (takeCreateTrain c d s)
  | .setDestination r d => atOnce (takeSetDestination r d s)
  | .retireTrain r => atOnce (takeRetireTrain r s)
  | .offer r x => atOnce (takeOffer r x s)
  | .accept r d => atOnce (takeAccept r d s)
  | .acknowledge x => atOnce (takeAcknowledge x s)
  | .sendCode x e => atOnce (takeSendCode x e s)
  | .tailSeen r => atOnce (takeTailSeen r s)
  | .outOfSection r => atOnce (takeOutOfSection r s)
  | .cancelOffer r => atOnce (takeCancelOffer r s)
  | .restoreLine x => atOnce (takeRestoreLine x s)
  | .releaseCode x => atOnce (takeReleaseCode x s)
  | .nextAttention => atOnce (takeNextAttention s)
  | .clearAttention src => atOnce (takeClearAttention src s)
  | .setClock v => atOnce (takeSetClock v s)

/-! ### The deselection -/

/-- R179: the request byte as stored, or 0 if none was stored. -/
def storedRequest (stored : List Byte) : Byte := stored.headD 0

/-- R177, R178: the frame stored is judged, and a frame that passes is handed to its owner. -/
def judgeStored (s : State) : State :=
  let stored := s.cp.request
  match checkFrame stored with
  | .badFrame => s.answered (storedRequest stored) ⟨.badFrame, bytesOne stored.length⟩
  | .badRequest => s.answered (storedRequest stored) ⟨.badRequest, [storedRequest stored]⟩
  | .request i => replyOrWait (storedRequest stored) (handRequest i s)

/-- R176, R177: a deselection, by the port state at its selection; MISO is driven no more. The port is
still IDLE at the end of a selection that began in IDLE, unless a request command was taken meanwhile
(log 5). -/
def takeDeselection (at_ : PortState) (s : State) : State :=
  let s1 := s.setPort { s.cp with selected := none, miso := [] }
  match at_ with
  | .idle =>
    if s.cp.request.isEmpty || decide (s.cp.state ≠ .idle) then s1
    else judgeStored (s1.setPort { s1.cp with state := .executing })
  | .executing => s1
  | .replyReady => s1.setPort { s1.cp with state := .idle, request := [], reply := [] }

/-- PORT_DESELECTION (R177). -/
def execPortDeselection (s : State) : Host.Outcome State Fault Refusal :=
  match s.cp.selected with
  | some at_ => .next (takeDeselection at_ s)
  | none => .next s

end Sys2Proof.Machine
end

