-- ==== Sys2Proof/Machine/Dispatch.lean ====
section
/-! DEFINITION. One arm for each command, each one call of its meaning. -/

namespace Sys2Proof.Machine

def exec (i : Instr) (s : State) : Host.Outcome State Fault Refusal :=
  match i with
  | .fullReset => Sys2Proof.Machine.execFullReset s
  | .tick a b c => Sys2Proof.Machine.execTick a b c s
  | .tenthBoundary => Sys2Proof.Machine.execTenthBoundary s
  | .frameOpen => Sys2Proof.Machine.execFrameOpen s
  | .frameJudge sdi => Sys2Proof.Machine.execFrameJudge sdi s
  | .pickupExpiry => Sys2Proof.Machine.execPickupExpiry s
  | .strokeTimeout l => Sys2Proof.Machine.execStrokeTimeout l s
  | .approachExpiry l => Sys2Proof.Machine.execApproachExpiry l s
  | .emergencyExpiry l => Sys2Proof.Machine.execEmergencyExpiry l s
  | .codeEnd x => Sys2Proof.Machine.execCodeEnd x s
  | .sendCompletion x => Sys2Proof.Machine.execSendCompletion x s
  | .blankingEnd x bellIn => Sys2Proof.Machine.execBlankingEnd x bellIn s
  | .repetitionDeadlineExpiry x => Sys2Proof.Machine.execRepetitionDeadlineExpiry x s
  | .instrumentSettling x => Sys2Proof.Machine.execInstrumentSettling x s
  | .quietWaitEnd x => Sys2Proof.Machine.execQuietWaitEnd x s
  | .lapseExpiry r h => Sys2Proof.Machine.execLapseExpiry r h s
  | .portSelection bits => Sys2Proof.Machine.execPortSelection bits s
  | .portDeselection => Sys2Proof.Machine.execPortDeselection s
  | .loadSlots frameLength firstSlot entries => Sys2Proof.Machine.execLoadSlots frameLength firstSlot entries s
  | .loadLever l kind timeout leaveNormal leaveReverse => Sys2Proof.Machine.execLoadLever l kind timeout leaveNormal leaveReverse s
  | .loadRoute l points circuits approach approachTime => Sys2Proof.Machine.execLoadRoute l points circuits approach approachTime s
  | .loadTrack circuit delay neighbours => Sys2Proof.Machine.execLoadTrack circuit delay neighbours s
  | .loadLine x starter entryCircuit home berth conditions clearing lapse => Sys2Proof.Machine.execLoadLine x starter entryCircuit home berth conditions clearing lapse s
  | .loadCode entry pattern mask meaning trainClass sendable => Sys2Proof.Machine.execLoadCode entry pattern mask meaning trainClass sendable s
  | .loadTiming v => Sys2Proof.Machine.execLoadTiming v s
  | .loadAttention source enable priority => Sys2Proof.Machine.execLoadAttention source enable priority s
  | .scanStart => Sys2Proof.Machine.execScanStart s
  | .scanStop => Sys2Proof.Machine.execScanStop s
  | .closingFrame => Sys2Proof.Machine.execClosingFrame s
  | .closingSync => Sys2Proof.Machine.execClosingSync s
  | .enterService => Sys2Proof.Machine.execEnterService s
  | .restart => Sys2Proof.Machine.execRestart s
  | .readStatus => Sys2Proof.Machine.execReadStatus s
  | .readLever l => Sys2Proof.Machine.execReadLever l s
  | .readTrack circuit => Sys2Proof.Machine.execReadTrack circuit s
  | .readRoute l => Sys2Proof.Machine.execReadRoute l s
  | .readHold number => Sys2Proof.Machine.execReadHold number s
  | .listHolds selector start => Sys2Proof.Machine.execListHolds selector start s
  | .readLine x => Sys2Proof.Machine.execReadLine x s
  | .readCode x => Sys2Proof.Machine.execReadCode x s
  | .readTrain r => Sys2Proof.Machine.execReadTrain r s
  | .listTrains => Sys2Proof.Machine.execListTrains s
  | .clearMark circuit => Sys2Proof.Machine.execClearMark circuit s
  | .placeBar l position reason => Sys2Proof.Machine.execPlaceBar l position reason s
  | .removeBar number => Sys2Proof.Machine.execRemoveBar number s
  | .timedRelease l => Sys2Proof.Machine.execTimedRelease l s
  | .createTrain trainClass description => Sys2Proof.Machine.execCreateTrain trainClass description s
  | .setDestination r destination => Sys2Proof.Machine.execSetDestination r destination s
  | .retireTrain r => Sys2Proof.Machine.execRetireTrain r s
  | .offer r x => Sys2Proof.Machine.execOffer r x s
  | .accept r description => Sys2Proof.Machine.execAccept r description s
  | .acknowledge x => Sys2Proof.Machine.execAcknowledge x s
  | .sendCode x entry => Sys2Proof.Machine.execSendCode x entry s
  | .tailSeen r => Sys2Proof.Machine.execTailSeen r s
  | .outOfSection r => Sys2Proof.Machine.execOutOfSection r s
  | .cancelOffer r => Sys2Proof.Machine.execCancelOffer r s
  | .restoreLine x => Sys2Proof.Machine.execRestoreLine x s
  | .releaseCode x => Sys2Proof.Machine.execReleaseCode x s
  | .nextAttention => Sys2Proof.Machine.execNextAttention s
  | .clearAttention source => Sys2Proof.Machine.execClearAttention source s
  | .setClock value => Sys2Proof.Machine.execSetClock value s

end Sys2Proof.Machine
end

