-- ==== Sys2Proof/Safety.lean ====
section
/-! DEFINITION. What counts as a sound state: the laws of the device as the chapters state them, and
the words claims are stated in. -/

namespace Sys2Proof.Machine

/-! ### Words of claims -/

/-- The port can take a request: none is EXECUTING (R177). -/
def State.portFree (s : State) : Prop := s.cp.state ≠ .executing

/-- R188: a reply frame from its status byte, the request number answered and its data. -/
def replyBytes (status request : Byte) (data : List Byte) : List Byte :=
  status :: BitVec.ofNat 8 (data.length + 1) :: request :: data

/-- The state with a reply waiting and nothing else changed but the count of draws (R177, R188). -/
def State.holding (s : State) (reply : List Byte) : State :=
  { s with
    cp := { s.cp with state := .replyReady, reply := reply }
    draws := s.draws + 1 }

/-- R168: the cause `d` has been latched in the source `src` between two states, and nothing else has
happened to the attention records. -/
structure Latched (src : Source) (d : Detail) (s t : State) : Prop where
  pending : t.au[src.id].pending = true
  detail : t.au[src.id].detail = some d
  multiple : t.au[src.id].multiple = s.au[src.id].pending
  settings : t.au[src.id].enabled = s.au[src.id].enabled ∧
    t.au[src.id].priority = s.au[src.id].priority
  others : ∀ i : SourceId, i ≠ src.id → t.au[i] = s.au[i]

/-- A send of `groups` has been taken on line `x` between two states (R115 to R118, R121, R122): the
sender's record, the blanking, what the send clears and discards, and COLLIDED with its latch. -/
structure SendTaken (x : Line) (groups : List Nat) (entry : Option CodeId)
    (meaning : Option Meaning) (s t : State) : Prop where
  started : (t.bu.get x).sender = some ⟨s.tb.tickCount + 1, groups, entry, meaning,
    sendLength s.cfg.timing groups⟩
  blanked : (t.bu.get x).blankUntil =
    some (s.tb.tickCount + 1 + BitVec.ofNat 32 (sendLength s.cfg.timing groups + 10))
  discarded : (t.bu.get x).code = none ∧ (t.bu.get x).pulse = none
  levelLow : (t.bu.get x).level = false ∧ (t.bu.get x).candidate = none
  expectationCleared : (t.bu.get x).expected = none ∧ (t.bu.get x).unacknowledged = false
  collision : (t.bu.get x).collided = ((s.bu.get x).code.isSome || (s.bu.get x).pulse.isSome)
  buffersKept : (t.bu.get x).buffer0 = (s.bu.get x).buffer0 ∧
    (t.bu.get x).buffer1 = (s.bu.get x).buffer1 ∧ (t.bu.get x).turn = (s.bu.get x).turn ∧
    (t.bu.get x).overrun = (s.bu.get x).overrun ∧
    (t.bu.get x).lastRecognised = (s.bu.get x).lastRecognised ∧
    (t.bu.get x).pendingEntering = (s.bu.get x).pendingEntering
  otherLines : ∀ y, y ≠ x → t.bu.get y = s.bu.get y
  latched : (t.bu.get x).collided = true → Latched (.line x) (.lineCause .collided) s t
  quietly : (t.bu.get x).collided = false → t.au = s.au

/-- R108: an entry's pattern has as many groups as the code and the same count in every CARE group. -/
def entryHears (e : CodeEntry) (groups : List Nat) : Prop :=
  e.pattern.length = groups.length ∧
    ∀ (k : Nat) (p : GroupSpec) (n : Nat), e.pattern[k]? = some p → groups[k]? = some n →
      p.care = true → p.count = n

/-- R116: entry `c` is the lowest-numbered loaded, sendable entry of a meaning, and for OFFER of the
class. -/
def lowestSendable (s : State) (m : Meaning) (cls : Option Nat) (c : CodeId) (e : CodeEntry) : Prop :=
  s.cfg.codes[c] = some e ∧ e.sendable = true ∧ e.meaning = m ∧ (m = .offer → e.trainClass = cls) ∧
    ∀ (j : CodeId) (f : CodeEntry), j.val < c.val → s.cfg.codes[j] = some f →
      ¬(f.sendable = true ∧ f.meaning = m ∧ (m = .offer → f.trainClass = cls))

/-- No loaded, sendable entry of a meaning, and for OFFER of the class. -/
def noneSendable (s : State) (m : Meaning) (cls : Option Nat) : Prop :=
  ∀ (j : CodeId) (f : CodeEntry), s.cfg.codes[j] = some f →
    ¬(f.sendable = true ∧ f.meaning = m ∧ (m = .offer → f.trainClass = cls))

/-! ### Encodings of R187, from the object to the number -/

/-- R187: a slot input function as two bytes. -/
def rawInput : InputFunction → Nat × Nat
  | .none => (0, 0)
  | .leverN l => (1, l.val + 1)
  | .leverR l => (2, l.val + 1)
  | .catch_ l => (3, l.val + 1)
  | .track c => (4, c.val + 1)

/-- R187: a slot output function as two bytes. -/
def rawOutput : OutputFunction → Nat × Nat
  | .none => (0, 0)
  | .magnet l => (1, l.val + 1)
  | .trackLamp c => (2, c.val + 1)

/-- R187: a slot entry as an argument. -/
def rawSlot (e : SlotEntry) : RawSlot :=
  ⟨(rawInput e.input).1, (rawInput e.input).2, (rawOutput e.output).1, (rawOutput e.output).2⟩

/-- R187: a condition as an argument. -/
def rawCondition : Condition → RawCondition
  | .leverAt l .normal => ⟨0, l.val + 1⟩
  | .leverAt l .reverse => ⟨1, l.val + 1⟩
  | .trackClear c => ⟨2, c.val + 1⟩

/-- R187, R189: a points entry as an argument. -/
def rawPoints (e : PointsEntry) : RawPoints :=
  ⟨e.lever.val + 1, (match e.position with | .normal => 0 | .reverse => 1), e.circuit.val + 1⟩

/-- R187, R189: a clearing-hold entry as an argument. -/
def rawClearing (e : LeverId × EndPos) : RawClearing :=
  ⟨e.1.val + 1, (match e.2 with | .normal => 0 | .reverse => 1)⟩

/-- R187: a lever kind as an argument. -/
def rawKind : LeverKind → Nat
  | .signal => 0
  | .points => 1
  | .other => 2

/-- R187: a code meaning as an argument. -/
def rawMeaning : Meaning → Nat
  | .callAttention => 0
  | .offer => 1
  | .entering => 2
  | .outOfSection => 3
  | .cancel => 4
  | .obstructionDanger => 5
  | .obstructionRemoved => 6
  | .testing => 7
  | .information => 8

/-- A condition list that a load refuses: too long, an element of no condition, or one that names the
lever `self` (R37, R124). -/
def badConditions (self : Nat) (cs : List RawCondition) : Prop :=
  12 < cs.length ∨ (∃ c ∈ cs, ∀ v, rawCondition v ≠ c) ∨
    ∃ c ∈ cs, (c.form = 0 ∨ c.form = 1) ∧ c.number = self

/-! ### The laws of the device -/

/-- R64: the entries a kind of hold may occupy. -/
def holdAllowed (h : HoldId) : HoldKind → Prop
  | .route _ _ => h.val < 64
  | .clearing _ => h.val < 64
  | .block x => h = blockEntry x
  | .bar _ => h.val < 64 ∨ 67 ≤ h.val

/-- R64: the law of the device for the hold table. -/
def HoldAreas (s : State) : Prop := ∀ (h : HoldId) (hold : Hold), s.ht[h] = some hold → holdAllowed h hold.kind

/-- R136: the law of the device for the block hold, on the block condition of R135: in SERVICE a line's
block hold is absent exactly when its block condition holds, and outside SERVICE no hold exists. -/
structure BlockHoldLaw (s : State) : Prop where
  areas : HoldAreas s
  starters : s.device = .service → ∀ x, (s.cfg.lines.get x).starter ≠ none
  inService : s.device = .service → ∀ x,
    s.ht[blockEntry x] = none ↔
      (s.blc.get x).outState = .clear ∧ (s.blc.get x).count < 255 ∧
        (s.blc.get x).obstruction = false ∧ (s.blc.get x).standing = .accepted
  outside : s.device = .config → ∀ h : HoldId, s.ht[h] = none

/-- The active inbound half of record `r` stands on line `x` (R142). -/
def inboundOn (s : State) (r : TrainId) (x : Line) : Prop :=
  ∃ t, s.trt.records[r] = some t ∧ t.arrivalLine = some x ∧
    (t.inbound = .offered ∨ t.inbound = .accepted ∨ t.inbound = .inSection ∨ t.inbound = .arrived)

/-- The active outbound half of record `r` stands on line `x` (R142). -/
def outboundOn (s : State) (r : TrainId) (x : Line) : Prop :=
  ∃ t, s.trt.records[r] = some t ∧ t.destination = .line x ∧
    (t.outbound = .offered ∨ t.outbound = .accepted ∨ t.outbound = .inSection)

/-- R144: the law of the device for halves. -/
structure HalvesLaw (s : State) : Prop where
  inbound : ∀ x q r, inboundOn s q x → inboundOn s r x → q = r
  outbound : ∀ x q r, outboundOn s q x → outboundOn s r x → q = r

/-- A record's inbound half stands on line `x` in the state `st`. -/
def inboundIs (s : State) (x : Line) (st : Inbound) : Prop :=
  ∃ (r : TrainId) (t : Train), s.trt.records[r] = some t ∧ t.arrivalLine = some x ∧ t.inbound = st

/-- A record's outbound half stands on line `x` in the state `st`. -/
def outboundIs (s : State) (x : Line) (st : Outbound) : Prop :=
  ∃ (r : TrainId) (t : Train), s.trt.records[r] = some t ∧ t.destination = .line x ∧ t.outbound = st

/-- R126: the law of the device for the IN instrument, with the law for halves it rests on. -/
structure InstrumentLaw (s : State) : Prop where
  halves : HalvesLaw s
  clear : ∀ x, (s.blc.get x).inInstrument = .clear ↔ inboundIs s x .accepted
  onLine : ∀ x, (s.blc.get x).inInstrument = .onLine ↔
    (inboundIs s x .inSection ∨ inboundIs s x .arrived)

/-- R135, R144: the outbound standing is a copy of the state of the one outbound half on the line. -/
structure StandingLaw (s : State) : Prop where
  halves : HalvesLaw s
  offered : ∀ x, (s.blc.get x).standing = .offered ↔ outboundIs s x .offered
  accepted : ∀ x, (s.blc.get x).standing = .accepted ↔ outboundIs s x .accepted
  inSection : ∀ x, (s.blc.get x).standing = .inSection ↔ outboundIs s x .inSection

/-- R53, R58: the law of the device for magnets: a magnet bit is 1 only with the scan RUNNING and the
lever GRANTED or in STROKE; in CONFIG, and for a lever that is not configured, the release state is
NOT_GRANTED. -/
structure MagnetLaw (s : State) : Prop where
  bit : ∀ l : LeverId, s.sbc.magnets[l] = true → s.sbc.scan = .running ∧ s.llu[l].release ≠ .notGranted
  inConfig : s.device = .config → ∀ l : LeverId, s.llu[l].release = .notGranted
  unconfigured : ∀ l : LeverId, s.cfg.levers[l].configured = false → s.llu[l].release = .notGranted

/-- R20, R23, R30: a circuit is in a state other than UNKNOWN only while the scan is RUNNING and the
circuit is configured; a pickup timer runs only in PICKUP_TIMING. -/
structure ClearanceLaw (s : State) : Prop where
  known : ∀ t : TrackId, s.tcm[t].state ≠ .unknown → s.sbc.scan = .running ∧ s.cfg.tracks[t].configured = true
  timing : ∀ t : TrackId, s.tcm[t].timer ≠ none → s.tcm[t].state = .pickupTiming

/-- R83: the law of the device for route holds, as far as an IDLE route: it owns no hold. -/
def IdleRouteLaw (s : State) : Prop :=
  ∀ (h : HoldId) (hold : Hold) (l : LeverId) (c : TrackId), s.ht[h] = some hold → hold.kind = .route l c → s.ru[l].state ≠ .idle

/-- R112: the buffer named by the write turn is unreleased only when both are. -/
def BufferLaw (s : State) : Prop :=
  ∀ x, (s.bu.get x).turnBuffer.isSome = true →
    (s.bu.get x).buffer0.isSome = true ∧ (s.bu.get x).buffer1.isSome = true

/-- R130: each line's fault count lies in 0 to 255. -/
def CountLaw (s : State) : Prop := ∀ x, (s.blc.get x).count ≤ 255

/-- R143: the line reserves are used only by trains whose inbound half was created by an offer
received on their line. -/
def ReserveLaw (s : State) : Prop :=
  ∀ x t, s.trt.records[reserveRecord x] = some t → t.arrivalLine = some x

end Sys2Proof.Machine
end

