-- ==== Sys2Proof/Certificates/Slice0/Obligations.lean ====
section
/-! DEFINITION. The statements for the provers. `R<n>` names a rule of spec/. A request is taken while
the port has none EXECUTING (`State.portFree`); its reply is written with `State.holding`. -/

open Sys2Proof Sys2Proof.Machine

/-! ### The queue, reset and time -/

/-- The step runs the command at the front of the queue on the state with the rest of the queue, and
idles on an empty queue (the model's own queue: log 1). -/
def Obligations.StepTakesTheFrontCommand : Prop :=
  (∀ (s : State) (c : Instr) (rest : List Instr), s.pending = c :: rest →
    step s = exec c { s with pending := rest }) ∧
  (∀ s : State, s.pending = [] → step s = .next s)

/-- R185 and the full-reset columns of R17, R36, R58, R77, R100, R123, R140, R163, R175: what a full
reset leaves, block by block. The queue, the draws and the board latches are the model's choice (logs 1,
7, 11), and so is that the port is not selected (log 6). -/
def Obligations.FullResetEmptiesEveryBlock : Prop :=
  ∀ s : State, ∃ t, exec .fullReset s = .next t ∧ t.pending = s.pending ∧ t.device = .config ∧
    t.cp = ⟨.idle, none, [], [], []⟩ ∧
    -- the Scan Bus Controller and the boards
    (t.sbc.scan = .stopped ∧ t.sbc.frame = none ∧ t.sbc.frameCounter = 0 ∧ t.sbc.goodRun = 0 ∧
      t.sbc.badRun = 0 ∧ t.sbc.marker = false ∧ t.sbc.stop = .none ∧ t.sbc.nextSync = none ∧
      t.sbc.firstDue = false ∧ t.sbc.lengthInForce = 8 ∧ t.sbc.syncPulse = false ∧
      t.boards.latched = s.boards.latched) ∧
    -- the tables that are no lever's, route's or circuit's
    (t.cfg.frameLength = 8 ∧ t.cfg.effectivePeriod = 20 ∧
      t.cfg.timing = ⟨20, 4, 80, 100, 300, 24, 40, 160, 1800⟩ ∧
      (∀ k : SlotId, t.cfg.slots[k] = ⟨.none, .none⟩) ∧ ∀ c : CodeId, t.cfg.codes[c] = none) ∧
    t.tb.tickCount = 0 ∧ t.tb.tickPhase = 0 ∧ t.tb.clock = 0 ∧ t.attn = false ∧
    (∀ c : TrackId, t.tcm[c] = ⟨.unknown, none, false, false, 0⟩ ∧ t.sbc.lamps[c] = false ∧
      t.sbc.input.tracks[c] = false ∧ t.cfg.tracks[c] = ⟨false, 20, []⟩) ∧
    (∀ l : LeverId,
      t.llu[l] = ⟨.between, false, .notGranted, .free, false, none, false, none, none, none⟩ ∧
      t.sbc.magnets[l] = false ∧ t.sbc.input.leverN[l] = false ∧ t.sbc.input.leverR[l] = false ∧
      t.sbc.input.catches[l] = false ∧ t.ru[l] = ⟨.idle, 1, none, [], false, none, 0⟩ ∧
      t.cfg.levers[l] = ⟨false, .other, 300, [], []⟩ ∧ t.cfg.routes[l] = ⟨false, [], [], [], 0⟩) ∧
    (∀ h : HoldId, t.ht[h] = none) ∧ (∀ r : TrainId, t.trt.records[r] = none) ∧
    (∀ x, t.cfg.lines.get x = ⟨false, none, none, none, none, [], [], 1200⟩ ∧
      t.bu.get x = ⟨false, none, none, none, none, none, false, none, none, false, none, none,
        false, false, false⟩ ∧
      t.blc.get x = ⟨.blocked, .none, none, 0, none, false, .none⟩ ∧ t.trt.owed.get x = false) ∧
    (∀ i : SourceId, t.au[i] = ⟨false, 0, false, none, false⟩ ∧ t.sourcePending i = false)

/-- The laws of the device hold right after a full reset at power-up. -/
def Obligations.LawsHoldAtReset : Prop :=
  BlockHoldLaw State.reset ∧ InstrumentLaw State.reset ∧ StandingLaw State.reset ∧
    MagnetLaw State.reset ∧ ClearanceLaw State.reset ∧ IdleRouteLaw State.reset ∧
    BufferLaw State.reset ∧ CountLaw State.reset ∧ ReserveLaw State.reset

/-- R164: a tick raises the tick count by 1 modulo 2^32 and the phase through 0 to 19; a tick at which
the phase returns to 0 is a tenth boundary (which then waits for TENTH_BOUNDARY: log 3). Nothing but
the sampling of the three lines goes with it. -/
def Obligations.TickCountsTimeAndSamplesTheLines : Prop :=
  ∀ (s : State) (a b c : LineInputs), s.tb.tickPhase ≤ 19 →
    ∃ t, exec (.tick a b c) s = .next t ∧
      t.tb.tickCount = s.tb.tickCount + 1 ∧ t.tb.tickPhase = (s.tb.tickPhase + 1) % 20 ∧
      t.tb.boundariesDue = s.tb.boundariesDue + (if s.tb.tickPhase = 19 then 1 else 0) ∧
      t.tb.clock = s.tb.clock ∧
      { t with tb := s.tb, bu := s.bu, blc := s.blc } = s ∧
      ∀ x,
        (t.bu.get x = { s.bu.get x with
          level := (t.bu.get x).level, candidate := (t.bu.get x).candidate,
          pulse := (t.bu.get x).pulse, code := (t.bu.get x).code }) ∧
        (t.blc.get x = { s.blc.get x with
          candidate := (t.blc.get x).candidate, quiet := (t.blc.get x).quiet })

/-- R102, R104, R105, R117, R133: what a tick's sample of BELL_IN does on a line, by the recognised level,
the candidate and the blanking; the code an accepted beat leaves in assembly is the one `placeBeat` gives
(BeatsAreGroupedByTheirGap says which). -/
def Obligations.TickSamplesTheBellWire : Prop :=
  ∀ (s : State) (a b c : LineInputs) (x : Line), ∃ t, exec (.tick a b c) s = .next t ∧
    let old := s.bu.get x
    let new := t.bu.get x
    let now := s.tb.tickCount + 1
    let wire := ((PerLine.mk a b c).get x).bellIn
    (old.blankUntil ≠ none → new = old ∧ (t.blc.get x).quiet = (s.blc.get x).quiet) ∧
    (old.blankUntil = none → wire = old.level →
      new = { old with candidate := none } ∧ (t.blc.get x).quiet = (s.blc.get x).quiet) ∧
    (old.blankUntil = none → wire ≠ old.level → old.candidate = none →
      new = { old with candidate := some now } ∧ (t.blc.get x).quiet = (s.blc.get x).quiet) ∧
    (∀ edge, old.blankUntil = none → wire = true → old.level = false → old.candidate = some edge →
      new = { old with level := true, candidate := none, pulse := some edge } ∧
      (t.blc.get x).quiet = (s.blc.get x).quiet.map fun _ => edge + 2000) ∧
    (∀ edge rise, old.blankUntil = none → wire = false → old.level = true →
      old.candidate = some edge → old.pulse = some rise →
      (t.blc.get x).quiet = (s.blc.get x).quiet ∧
      ((edge - rise).toNat < s.cfg.timing.minBeat →
        new = { old with level := false, candidate := none, pulse := none }) ∧
      (s.cfg.timing.minBeat ≤ (edge - rise).toNat → ∃ code,
        new = { old with level := false, candidate := none, pulse := none, code := some code } ∧
        code = placeBeat s.cfg.timing rise edge
          (decide (s.cfg.timing.maxBeat < (edge - rise).toNat)) old.code ∧
        code.lastFall = edge ∧ code.endTick = edge + BitVec.ofNat 32 s.cfg.timing.endGap ∧
        code.held = ((old.code.map fun k => k.held).getD false ||
          decide (s.cfg.timing.maxBeat < (edge - rise).toNat))))

/-- R105: where an accepted beat is placed, and the two limits that mark a code OVERFLOW. A code that
has met a seventh group counts no later beat, but its gap reference and its end tick still move. -/
def Obligations.BeatsAreGroupedByTheirGap : Prop :=
  ∀ (t : Timing) (rise fall : Tick) (held : Bool),
    ((placeBeat t rise fall held none).groups = [1] ∧
      (placeBeat t rise fall held none).overflow = false ∧
      (placeBeat t rise fall held none).beyond = false) ∧
    (∀ code, (placeBeat t rise fall held code).lastFall = fall ∧
      (placeBeat t rise fall held code).endTick = fall + BitVec.ofNat 32 t.endGap ∧
      (placeBeat t rise fall held code).held = ((code.map fun c => c.held).getD false || held)) ∧
    ∀ (c : Assembly),
      let new := placeBeat t rise fall held (some c)
      (c.beyond = false →
        (∀ before n, c.groups = before ++ [n] → (rise - c.lastFall).toNat < t.groupGap →
          new.beyond = false ∧
          (n < 9 → new.groups = before ++ [n + 1] ∧ new.overflow = c.overflow) ∧
          (n = 9 → new.groups = before ++ [9] ∧ new.overflow = true)) ∧
        (t.groupGap ≤ (rise - c.lastFall).toNat →
          (c.groups.length < 6 →
            new.groups = c.groups ++ [1] ∧ new.overflow = c.overflow ∧ new.beyond = false) ∧
          (c.groups.length = 6 →
            new.groups = c.groups ∧ new.overflow = true ∧ new.beyond = true))) ∧
      (c.beyond = true →
        new.groups = c.groups ∧ new.overflow = c.overflow ∧ new.beyond = true)

/-- R127: what a tick's sample of INSTR_IN does to the settled reading and the candidate; a run of 40
is due to settle and waits for INSTRUMENT_SETTLING (log 2). -/
def Obligations.TickSamplesTheInstrumentWire : Prop :=
  ∀ (s : State) (a b c : LineInputs) (x : Line), ∃ t, exec (.tick a b c) s = .next t ∧
    let old := s.blc.get x
    let new := t.blc.get x
    let inp := (PerLine.mk a b c).get x
    let raw : RawReading :=
      if inp.instrP then (if inp.instrN then .both else .positive)
      else (if inp.instrN then .negative else .none)
    new.settled = old.settled ∧
    (raw = old.settled → new.candidate = none) ∧
    (∀ n, raw ≠ old.settled → old.candidate = some (raw, n) → n < 40 →
      new.candidate = some (raw, n + 1)) ∧
    (raw ≠ old.settled → (∀ n, old.candidate ≠ some (raw, n)) → new.candidate = some (raw, 1))

/-- R165, R166: at a tenth boundary the clock rises by 1 modulo 2^24 and every timer counted in tenths
counts one boundary; nothing else changes. -/
def Obligations.BoundaryRaisesTheClockAndCountsTimers : Prop :=
  ∀ s : State, 0 < s.tb.boundariesDue → ∃ t, exec .tenthBoundary s = .next t ∧
    t.tb.clock = s.tb.clock + 1 ∧ t.tb.tickCount = s.tb.tickCount ∧
    t.tb.tickPhase = s.tb.tickPhase ∧ t.tb.boundariesDue + 1 = s.tb.boundariesDue ∧
    (∀ c : TrackId, t.tcm[c] = { s.tcm[c] with timer := s.tcm[c].timer.map (· - 1) }) ∧
    (∀ l : LeverId, t.llu[l] = { s.llu[l] with strokeTimer := s.llu[l].strokeTimer.map (· - 1) } ∧
      t.ru[l] = { s.ru[l] with timer := s.ru[l].timer.map fun k => ⟨k.kind, k.remaining - 1⟩ }) ∧
    (∀ x, t.bu.get x = { s.bu.get x with
      expected := (s.bu.get x).expected.map fun e => ⟨e.groups, e.deadline - 1⟩ }) ∧
    (∀ r : TrainId, t.trt.records[r] = s.trt.records[r].map fun v =>
      { v with inLapse := v.inLapse.map (· - 1), outLapse := v.outLapse.map (· - 1) }) ∧
    t.trt.owed = s.trt.owed ∧
    { t with tb := s.tb, tcm := s.tcm, llu := s.llu, ru := s.ru, bu := s.bu, trt := s.trt } = s

/-- R167: SET_CLOCK gives the clock its value and answers the value overwritten, or refuses a value
above 16,777,215; the tick count and the phase do not change, and nothing else does. -/
def Obligations.SetClockOverwritesTheClockOnly : Prop :=
  ∀ (s : State) (v : Nat), s.portFree →
    (v ≤ 16777215 → exec (.setClock v) s = .next
      (State.holding { s with tb := { s.tb with clock := BitVec.ofNat 24 v } }
        (replyBytes 0 66 (bytesThree s.tb.clock.toNat)))) ∧
    (16777215 < v → exec (.setClock v) s = .next (s.holding (replyBytes 4 66 [1])))

/-! ### The scan bus -/

/-- R1, R5, R7, R8, R9: a due frame opens: the counter, the marker, the copy by scan state, the boards,
and SFS, SCK_S and SDO slot by slot. -/
def Obligations.FrameOpensWithItsCopyAndMarker : Prop :=
  ∀ (s : State) (due : Tick), s.sbc.scan ≠ .stopped → s.sbc.frame = none →
    s.sbc.nextSync = some due → reached s.tb.tickCount due = true →
    8 ≤ s.cfg.frameLength → s.cfg.frameLength ≤ 192 →
    ∃ t copy, exec .frameOpen s = .next t ∧
      t.sbc.frameCounter = s.sbc.frameCounter + 1 ∧ t.sbc.marker = !s.sbc.marker ∧
      t.sbc.expected = s.sbc.marker ∧
      t.sbc.nextSync = some (due + BitVec.ofNat 32 (s.cfg.effectivePeriod / 5)) ∧
      t.sbc.firstDue = false ∧ t.sbc.lengthInForce = s.cfg.frameLength ∧
      t.sbc.syncPulse = false ∧ (∀ k, t.sfsIn k = decide (k = 0)) ∧ t.sckRuns = true ∧
      (∀ k, t.sdoIn k = copy.getD k false) ∧
      (t.sbc.frame = some ⟨s.cfg.frameLength, s.cfg.slots,
        s.sbc.firstDue || decide (s.cfg.frameLength ≠ s.sbc.lengthInForce), copy⟩) ∧
      copy.length = s.cfg.frameLength ∧ copy[s.cfg.frameLength - 1]? = some (!s.sbc.marker) ∧
      (∀ k : SlotId, k.val + 1 < s.cfg.frameLength → copy[k.val]? = some
        (if s.sbc.scan = .running then
          match s.cfg.slots[k].output with
          | .none => false
          | .magnet l => s.sbc.magnets[l]
          | .trackLamp c => s.sbc.lamps[c]
        else false)) ∧
      t.boards.latched = s.boards.shifted ∧ t.boards.shifted = some copy ∧
      { t with boards := s.boards, sbc := { t.sbc with
          frameCounter := s.sbc.frameCounter, marker := s.sbc.marker, expected := s.sbc.expected
          nextSync := s.sbc.nextSync, firstDue := s.sbc.firstDue, frame := s.sbc.frame
          lengthInForce := s.sbc.lengthInForce, syncPulse := s.sbc.syncPulse } } = s

/-- R9 to R11, R14: a frame that delivers no arrival: an unjudged frame changes neither count nor image, a
bad frame below the third in RUNNING changes only the counts, a good frame in STARTING or LOST below
the eighth fills the image and changes only the counts. An input function takes the bit of the
lowest-numbered slot below the marker slot that carries it, and 0 when no such slot does. -/
def Obligations.FramesWithoutArrivalChangeOnlyTheirCounts : Prop :=
  (∀ (s : State) (f : Frame) (sdi : BitVec 192), s.sbc.frame = some f →
     (f.unjudged = true → exec (.frameJudge sdi) s = .next
       { s with sbc := { s.sbc with frame := none } }) ∧
     (f.unjudged = false → sdi.getLsbD (f.length - 1) ≠ s.sbc.expected →
       (s.sbc.scan = .running → s.sbc.badRun ≠ 2) → exec (.frameJudge sdi) s = .next
         { s with sbc := { s.sbc with
           frame := none, badRun := min 255 (s.sbc.badRun + 1), goodRun := 0 } }) ∧
     (f.unjudged = false → sdi.getLsbD (f.length - 1) = s.sbc.expected →
       s.sbc.scan = .starting ∨ s.sbc.scan = .lost → s.sbc.goodRun ≠ 7 →
       exec (.frameJudge sdi) s = .next
         { s with sbc := { s.sbc with
           frame := none, goodRun := min 255 (s.sbc.goodRun + 1), badRun := 0
           input := f.image sdi } })) ∧
  (∀ (f : Frame) (sdi : BitVec 192) (fn : InputFunction),
     (∀ k : SlotId, k.val + 1 < f.length → f.slots[k].input = fn →
       (∀ j : SlotId, j.val < k.val → f.slots[j].input ≠ fn) →
       f.inputBit sdi fn = sdi.getLsbD k.val) ∧
     ((∀ k : SlotId, k.val + 1 < f.length → f.slots[k].input ≠ fn) → f.inputBit sdi fn = false))

/-- R12, R30, R56, R85: the third bad frame in RUNNING takes the scan to LOST: every magnet bit 0, every
configured circuit UNKNOWN with its timer abandoned, its lamp bit 1 and its mark and fault flag kept,
every configured lever GRANTED or in STROKE unseen with its timer abandoned, the release states and the
recorded positions kept, SCAN pending. In SERVICE a SIGNAL lever GRANTED from NORMAL hands its
left-NORMAL notice: its route goes from GRANTED to SET, its holds kept. No other route changes. -/
def Obligations.ThirdBadFrameLosesTheScan : Prop :=
  ∀ (s : State) (f : Frame) (sdi : BitVec 192), s.sbc.frame = some f → f.unjudged = false →
    sdi.getLsbD (f.length - 1) ≠ s.sbc.expected → s.sbc.scan = .running → s.sbc.badRun = 2 →
    ∃ t, exec (.frameJudge sdi) s = .next t ∧ t.sbc.scan = .lost ∧ t.sbc.frame = none ∧
      t.sbc.input = s.sbc.input ∧ t.sbc.badRun = 3 ∧ t.sbc.goodRun = 0 ∧
      t.sourcePending (Source.id .scan) = true ∧
      (∀ l : LeverId, t.sbc.magnets[l] = false ∧ t.llu[l].position = s.llu[l].position ∧
        t.llu[l].catchGripped = s.llu[l].catchGripped ∧ t.llu[l].release = s.llu[l].release ∧
        (s.cfg.levers[l].configured = true → s.llu[l].release ≠ .notGranted →
          t.llu[l].unseen = true ∧ t.llu[l].strokeTimer = none) ∧
        (s.llu[l].release = .notGranted → t.llu[l].unseen = s.llu[l].unseen) ∧
        (s.cfg.levers[l].configured = true → s.llu[l].grip = .seeking →
          t.llu[l].lastRefusal = some ⟨.scan, s.tb.clock, false⟩) ∧
        (let noticed := s.device = .service ∧ s.cfg.levers[l].configured = true ∧
          s.cfg.levers[l].kind = .signal ∧ s.llu[l].release = .granted .normal ∧
          s.ru[l].state = .granted
        (noticed → t.ru[l] = { s.ru[l] with state := .set, changed := s.tb.clock }) ∧
        (¬noticed → t.ru[l] = s.ru[l]))) ∧
      (∀ c : TrackId, (t.tcm[c].mark = s.tcm[c].mark ∧ t.tcm[c].fault = s.tcm[c].fault) ∧
        (s.cfg.tracks[c].configured = true → t.tcm[c].state = .unknown ∧ t.tcm[c].timer = none ∧
          t.sbc.lamps[c] = true) ∧
        (s.cfg.tracks[c].configured = false → t.tcm[c] = s.tcm[c] ∧
          t.sbc.lamps[c] = s.sbc.lamps[c])) ∧
      t.ht = s.ht ∧ t.trt = s.trt ∧ t.bu = s.bu ∧ t.blc = s.blc ∧ t.cfg = s.cfg ∧ t.tb = s.tb ∧
      t.device = s.device ∧ t.cp = s.cp

/-- R9 to R11, R13, R14, R22, R27 to R29, R39, R41, R52, R53: a good frame in RUNNING, and the eighth in a
row in STARTING or LOST, leaves the scan RUNNING and delivers an arrival: each configured circuit goes
where the table of R22 sends it, the neighbour check sets the fault flag of each spontaneous occupation
and latches TRACK_FAULT, the highest-numbered of them left as its detail, each configured lever's decoded position and catch become its recorded ones,
the lamp and magnet bits are written from the states that result, and no lever is left GRANTED under a
hold that binds it. A RESTORED arrival (R57, R98) clears every unseen flag, leaves no lever in STROKE,
judges the departures of the loss and faults every RELEASING route; a FIRST arrival judges no
departure. The last clauses say in which order the blocks take the arrival. -/
def Obligations.GoodFrameDeliversTheArrival : Prop :=
  ∀ (s : State) (f : Frame) (sdi : BitVec 192), s.sbc.frame = some f → f.unjudged = false →
    sdi.getLsbD (f.length - 1) = s.sbc.expected →
    s.sbc.scan = .running ∨ ((s.sbc.scan = .starting ∨ s.sbc.scan = .lost) ∧ s.sbc.goodRun = 7) →
    let decoded : LeverId → Position := fun l =>
      match f.inputBit sdi (.leverN l), f.inputBit sdi (.leverR l) with
        | true, false => .normal
        | false, true => .reverse
        | false, false => .between
        | true, true => .contradictory
    let mark : Continuity := match s.sbc.scan with
      | .starting => .first
      | .lost => .restored
      | _ => .continuous
    ∃ t, exec (.frameJudge sdi) s = .next t ∧
      let dropped : TrackId → Prop := fun c => s.tcm[c].state = .clear ∧ t.tcm[c].state = .occupied
      let spontaneous : TrackId → Prop := fun c => dropped c ∧ s.cfg.tracks[c].neighbours ≠ [] ∧
        ∀ n ∈ s.cfg.tracks[c].neighbours, t.tcm[n].state = .clear ∨ t.tcm[n].state = .unknown
      t.sbc.scan = .running ∧ t.sbc.frame = none ∧ t.sbc.goodRun = min 255 (s.sbc.goodRun + 1) ∧ t.sbc.badRun = 0 ∧
      t.sbc.input = f.image sdi ∧ t.sourcePending (Source.id .scan) = false ∧
      (∀ c : TrackId, s.cfg.tracks[c].configured = true →
        (t.tcm[c].state = match s.tcm[c].state, f.inputBit sdi (.track c) with
          | .clear, true => .clear
          | _, true => .pickupTiming
          | _, false => .occupied) ∧
        (t.tcm[c].timer = match s.tcm[c].state, f.inputBit sdi (.track c) with
          | .unknown, true => some s.cfg.tracks[c].delay
          | .occupied, true => some s.cfg.tracks[c].delay
          | .pickupTiming, false => none
          | _, _ => s.tcm[c].timer) ∧
        t.sbc.lamps[c] = decide (t.tcm[c].state ≠ .clear)) ∧
      (∀ c : TrackId, s.cfg.tracks[c].configured = false →
        t.tcm[c].state = s.tcm[c].state ∧ t.sbc.lamps[c] = s.sbc.lamps[c]) ∧
      (∀ c : TrackId, t.tcm[c].fault = true ↔ s.tcm[c].fault = true ∨ spontaneous c) ∧
      (∀ l : LeverId, s.cfg.levers[l].configured = true →
        t.llu[l].position = decoded l ∧ t.llu[l].catchGripped = f.inputBit sdi (.catch_ l) ∧
        t.sbc.magnets[l] = decide (t.llu[l].release ≠ .notGranted)) ∧
      (∀ (l : LeverId) (p : EndPos) (h : HoldId) (hold : Hold), t.llu[l].release = .granted p →
        t.ht[h] = some hold → ¬(hold.lever = l ∧ hold.position = p)) ∧
      -- a RESTORED arrival
      (s.sbc.scan = .lost → ∀ l : LeverId, s.cfg.levers[l].configured = true →
        t.llu[l].unseen = false ∧ (∀ p, t.llu[l].release ≠ .stroke p) ∧
        (s.llu[l].unseen = true → t.llu[l].lastFault = s.llu[l].lastFault) ∧
        (∀ p : EndPos, s.device = .service → s.llu[l].unseen = false →
          s.llu[l].position = p.toPosition → decoded l ≠ p.toPosition →
          decoded l ≠ .contradictory → t.llu[l].release = .notGranted ∧
            t.llu[l].lastFault = some (.unreleased, s.tb.clock) ∧
            t.au[Source.id .leverFault].pending = true) ∧
        (s.device = .service → s.ru[l].state = .releasing → s.llu[l].position = .normal →
          decoded l = .normal → t.au[Source.id .route].pending = true ∧
            t.ru[l] = { s.ru[l] with
              state := .sequenceFault, cause := some .scanLoss, changed := s.tb.clock })) ∧
      -- a FIRST arrival
      (s.sbc.scan = .starting → ∀ l : LeverId, s.llu[l].release = .notGranted →
        decoded l ≠ .contradictory → t.llu[l].lastFault = s.llu[l].lastFault) ∧
      -- the track part: the circuits, then in SERVICE the occupation events in ascending order; the
      -- lever part: the steps of R57, the evaluations, the closing check, the magnets, the passes
      (∃ w v : State, w.sbc = { t.sbc with magnets := s.sbc.magnets } ∧
        (∀ c : TrackId, w.tcm[c].state = t.tcm[c].state ∧ w.tcm[c].fault = t.tcm[c].fault ∧
          w.tcm[c].mark = (s.tcm[c].mark ||
            decide (s.tcm[c].state = .clear ∧ t.tcm[c].state = .occupied))) ∧
        -- the neighbour check
        (∀ i : SourceId, i ≠ Source.id .trackFault → w.au[i] = s.au[i]) ∧
        ((∀ c, ¬spontaneous c) → w.au = s.au) ∧
        (∀ c, spontaneous c → (∀ d : TrackId, c.val < d.val → ¬spontaneous d) → ∃ multiple,
          w.au[Source.id .trackFault] = { s.au[Source.id .trackFault] with
            pending := true, detail := some (.circuit c), multiple := multiple } ∧
          (multiple = true ↔ s.au[Source.id .trackFault].pending = true ∨
            ∃ d, d ≠ c ∧ spontaneous d)) ∧
        { w with tcm := s.tcm, sbc := s.sbc, au := s.au } = s ∧
        (s.device = .config → v = w) ∧
        (s.device = .service → v = forEach 32 (fun c u =>
          if s.tcm[c].state = .clear ∧ t.tcm[c].state = .occupied then
            trainOccupation c (routeOccupation c u) else u) w) ∧
        t = notice releasePasses (writeMagnets (forEach 40 closingCheck
          (forEach 40 (evaluateLever mark) (if mark = .restored then restoredSteps v else v))))) ∧
      t.cfg = s.cfg ∧ t.device = s.device ∧ t.tb = s.tb ∧ t.cp = s.cp ∧ t.boards = s.boards ∧
      t.pending = s.pending

/-- R15: SCAN_START in CONFIG with the scan STOPPED sets the counts to 0, the state to STARTING and the
first frame to the next tick, and leaves the marker; in any other case it is refused with STATE. -/
def Obligations.ScanStartArrangesTheFirstFrame : Prop :=
  ∀ s : State, s.portFree →
    (s.device = .config → s.sbc.scan = .stopped → exec .scanStart s = .next
      (State.holding { s with sbc := { s.sbc with
        scan := .starting, frameCounter := 0, goodRun := 0, badRun := 0, firstDue := true
        nextSync := some (s.tb.tickCount + 1) } } (replyBytes 0 16 []))) ∧
    (s.device = .service ∨ s.sbc.scan ≠ .stopped →
      exec .scanStart s = .next (s.holding (replyBytes 5 16 [])))

/-- R16: SCAN_STOP: refused in SERVICE; DONE at once in STOPPED; otherwise the scan is STOPPED at once,
a frame in progress is unjudged, the port stays EXECUTING, and a withdrawal from RUNNING or LOST makes
every configured circuit UNKNOWN. -/
def Obligations.ScanStopWithdrawsTheScan : Prop :=
  ∀ s : State, s.portFree →
    (s.device = .service → exec .scanStop s = .next (s.holding (replyBytes 5 17 []))) ∧
    (s.device = .config → s.sbc.scan = .stopped →
      exec .scanStop s = .next (s.holding (replyBytes 0 17 []))) ∧
    (s.device = .config → s.sbc.scan = .starting → exec .scanStop s = .next
      { s with
        cp := { s.cp with state := .executing }
        sbc := { s.sbc with
          scan := .stopped, stop := .closingFrame
          frame := s.sbc.frame.map fun f => { f with unjudged := true } } }) ∧
    (s.device = .config → s.sbc.scan = .running ∨ s.sbc.scan = .lost →
      ∃ t, exec .scanStop s = .next t ∧ t.cp = { s.cp with state := .executing } ∧
        t.sbc.scan = .stopped ∧ t.sbc.stop = .closingFrame ∧
        t.sbc.nextSync = s.sbc.nextSync ∧ t.sbc.magnets = s.sbc.magnets ∧
        t.sbc.frame = (s.sbc.frame.map fun f => { f with unjudged := true }) ∧
        t.sourcePending (Source.id .scan) = false ∧
        (∀ c : TrackId, s.cfg.tracks[c].configured = true → t.tcm[c].state = .unknown ∧
          t.tcm[c].timer = none ∧ t.tcm[c].mark = s.tcm[c].mark ∧ t.sbc.lamps[c] = true) ∧
        (∀ l : LeverId, t.llu[l].position = s.llu[l].position ∧
          t.llu[l].release = s.llu[l].release) ∧
        t.ht = s.ht ∧ t.ru = s.ru ∧ t.trt = s.trt ∧ t.au = s.au ∧ t.cfg = s.cfg ∧ t.tb = s.tb)

/-- R16 steps 5 to 7: the closing frame shifts 0 in every slot, is unjudged, counts and toggles the
marker; the closing sync drives SFS high for one slot time with SCK_S low, latches the zeros, idles the
bus, does not count, and forms the reply. -/
def Obligations.ClosingFrameAndSyncClearTheBoards : Prop :=
  ∀ (s : State) (due : Tick), s.sbc.frame = none → s.sbc.nextSync = some due →
    reached s.tb.tickCount due = true →
    (s.sbc.stop = .closingFrame → exec .closingFrame s = .next
      { s with
        boards := ⟨some (List.replicate s.cfg.frameLength false), s.boards.shifted⟩
        sbc := { s.sbc with
          frameCounter := s.sbc.frameCounter + 1
          expected := s.sbc.marker
          marker := !s.sbc.marker
          frame := some ⟨s.cfg.frameLength, s.cfg.slots, true,
            List.replicate s.cfg.frameLength false⟩
          lengthInForce := s.cfg.frameLength
          firstDue := false
          nextSync := some (due + BitVec.ofNat 32 (s.cfg.effectivePeriod / 5))
          stop := .closingSync
          syncPulse := false } }) ∧
    (s.sbc.stop = .closingSync → ∃ t, exec .closingSync s = .next t ∧
      t = State.holding { s with
        boards := ⟨s.boards.shifted, s.boards.shifted⟩
        sbc := { s.sbc with stop := .none, nextSync := none, syncPulse := true } }
        (replyBytes 0 17 []) ∧
      (∀ k, t.sfsIn k = decide (k = 0)) ∧ t.sckRuns = false ∧ ∀ k, t.sdoIn k = false)

/-! ### Track circuits and levers -/

/-- R23, R33: at the pickup expiry every circuit that is due moves to CLEAR with its lamp bit 0 and its
stamp; every other circuit keeps its state and its timer; in CONFIG no event is handed over and nothing
else changes. In SERVICE each clearance, in ascending order, runs the release passes and is then judged
by the Train Record Table. R91 to R94: a pass releases section k while circuit k is marked and CLEAR,
frees the route when k has passed the last circuit, and otherwise makes the sequence check. R89: an
occupation of the first circuit of an APPROACH_LOCKED route starts its release. -/
def Obligations.PickupExpiryClearsEveryDueCircuit : Prop :=
  (∀ s : State, ∃ t, exec .pickupExpiry s = .next t ∧
    (∀ c : TrackId, s.tcm[c].timer = some 0 → s.tcm[c].state = .pickupTiming →
      t.tcm[c].state = .clear ∧ t.tcm[c].timer = none ∧ t.tcm[c].changed = s.tb.clock ∧
      t.sbc.lamps[c] = false) ∧
    (∀ c : TrackId, ¬(s.tcm[c].timer = some 0 ∧ s.tcm[c].state = .pickupTiming) →
      t.tcm[c].state = s.tcm[c].state ∧ t.tcm[c].timer = s.tcm[c].timer ∧
      t.tcm[c].fault = s.tcm[c].fault ∧ t.sbc.lamps[c] = s.sbc.lamps[c]) ∧
    { t.sbc with lamps := s.sbc.lamps } = s.sbc ∧
    (s.device = .config → { t with tcm := s.tcm, sbc := s.sbc } = s) ∧
    (s.device = .service → ∃ u : State, u.sbc = t.sbc ∧
      (∀ c : TrackId, u.tcm[c] = { t.tcm[c] with mark := s.tcm[c].mark }) ∧
      { u with tcm := s.tcm, sbc := s.sbc } = s ∧
      t = forEach 32 (fun c v =>
        if s.tcm[c].timer = some 0 ∧ s.tcm[c].state = .pickupTiming then
          trainClearance c (releasePasses v) else v) u) ∧
    t.llu = s.llu ∧ t.bu = s.bu ∧ t.cfg = s.cfg ∧ t.tb = s.tb ∧ t.device = s.device ∧
    t.cp = s.cp ∧ t.boards = s.boards ∧ t.pending = s.pending ∧ t.blc = s.blc) ∧
  (∀ s : State, releasePasses s = forEach 40 releasePass s) ∧
  (∀ (s : State) (l : LeverId),
    let route := s.cfg.routes[l]
    (s.ru[l].state ≠ .releasing → releasePass l s = s) ∧
    -- R93: k has passed the last route circuit
    (s.ru[l].state = .releasing → (∀ n, s.ru[l].k = n + 1 → route.circuits[n]? = none) →
      (releasePass l s).ru[l] = ⟨.idle, 1, none, route.points.map fun _ => ⟨true, none⟩, false, none,
        s.tb.clock⟩ ∧
      (∀ k : LeverId, k ≠ l → (releasePass l s).ru[k] = s.ru[k]) ∧
      (∀ h : HoldId, (releasePass l s).ht[h] = match s.ht[h] with
        | some hold => (match hold.kind with
          | .route o _ => if o = l then none else some hold
          | _ => some hold)
        | none => none) ∧
      { releasePass l s with ru := s.ru, ht := s.ht } = s) ∧
    ∀ (n : Nat) (c : TrackId), s.ru[l].state = .releasing → s.ru[l].k = n + 1 →
      route.circuits[n]? = some c →
      -- R92: section k is released and the pass goes on
      (s.tcm[c].mark = true → s.tcm[c].state = .clear → ∃ u : State,
        releasePass l s = releasePass l u ∧
        (∀ h : HoldId, u.ht[h] = match s.ht[h] with
          | some hold => if hold.kind = .route l c then none else some hold
          | none => none) ∧
        u.ru[l] = { s.ru[l] with k := n + 2, entries := u.ru[l].entries } ∧
        (∀ i : Nat, u.ru[l].entries[i]? = s.ru[l].entries[i]?.map fun e =>
          if (route.points[i]?.map fun p => p.circuit) = some c then ⟨true, none⟩ else e) ∧
        (∀ k : LeverId, k ≠ l → u.ru[k] = s.ru[k]) ∧
        (∀ d : TrackId, u.tcm[d] = { s.tcm[d] with mark := s.tcm[d].mark && decide (d ≠ c) }) ∧
        { u with ht := s.ht, ru := s.ru, tcm := s.tcm } = s) ∧
      -- R94: the sequence check
      (¬(s.tcm[c].mark = true ∧ s.tcm[c].state = .clear) →
        let broken := s.tcm[c].mark = false ∧ ∃ (j : Nat) (d : TrackId), n < j ∧
          route.circuits[j]? = some d ∧ s.tcm[d].mark = true ∧ s.tcm[d].state = .clear
        (¬broken → releasePass l s = s) ∧
        (broken → (releasePass l s).ru[l] = { s.ru[l] with
            state := .sequenceFault, cause := some .sequence, changed := s.tb.clock } ∧
          (∀ k : LeverId, k ≠ l → (releasePass l s).ru[k] = s.ru[k]) ∧
          Latched .route (.lever l) s (releasePass l s) ∧
          { releasePass l s with ru := s.ru, au := s.au } = s))) ∧
  -- R89
  (∀ (s : State) (c : TrackId),
    let concerned := fun l : LeverId => s.ru[l].state = .approachLocked ∧
      s.cfg.routes[l].circuits[0]? = some c
    ((∀ l, ¬concerned l) → routeOccupation c s = s) ∧
    (∀ l, concerned l → (∀ k, k ≠ l → ¬concerned k) →
      routeOccupation c s = releasePass l { s with
        ru := s.ru.set l.val { s.ru[l] with
          state := .releasing, timer := none, k := 1, changed := s.tb.clock } }))

/-- R35: CLEAR_MARK clears the mark and the fault flag of a configured circuit and nothing else, and
reports both as they were; it is refused for a circuit outside 1 to 32 and for one not configured. -/
def Obligations.ClearMarkClearsMarkAndFlag : Prop :=
  ∀ (s : State), s.portFree →
    (∀ c : TrackId, s.cfg.tracks[c].configured = true →
      ∃ t, exec (.clearMark (c.val + 1)) s = .next t ∧
        t.tcm[c] = { s.tcm[c] with mark := false, fault := false } ∧
        (∀ d : TrackId, d ≠ c → t.tcm[d] = s.tcm[d]) ∧
        { t with tcm := s.tcm } = s.holding (replyBytes 0 48
          [BitVec.ofNat 8 (s.tcm[c].mark.toNat + 2 * s.tcm[c].fault.toNat)])) ∧
    (∀ c : TrackId, s.cfg.tracks[c].configured = false →
      exec (.clearMark (c.val + 1)) s = .next (s.holding (replyBytes 8 48 []))) ∧
    (∀ n, n = 0 ∨ 32 < n → exec (.clearMark n) s = .next (s.holding (replyBytes 4 48 [1])))

/-- R49: a stroke timeout latches LEVER_FAULT with the lever, records STROKE_TIMEOUT with the clock, and
leaves the lever in STROKE with its magnet bit; the timer is not started again. R42, R46 to R48, R50,
R51: what a CONTINUOUS arrival makes of one lever: a lever that leaves its origin enters STROKE and its
route goes from GRANTED to SET, one that reaches an end has arrived, a departure without a grant and a
contact fault latch LEVER_FAULT, and a grant that stands is tested again. That a lever whose stroke ends
seeks no grant in that evaluation, also with its grip SEEKING, is the model's reading (log 15). R47, R52:
a grant is withdrawn for a hold, at the lever's evaluation or at the closing check, exactly when a live
hold then binds the lever at its origin, and for the lowest-numbered one. -/
def Obligations.StrokeTimeoutLatchesLeverFault : Prop :=
  (∀ (s : State) (l : LeverId) (p : EndPos), s.llu[l].strokeTimer = some 0 →
    s.llu[l].release = .stroke p →
    ∃ t, exec (.strokeTimeout l) s = .next t ∧
      t.llu[l] = { s.llu[l] with
        strokeTimer := none, lastFault := some (.strokeTimeout, s.tb.clock) } ∧
      (∀ k : LeverId, k ≠ l → t.llu[k] = s.llu[k]) ∧
      t.au[Source.id .leverFault].pending = true ∧
      t.au[Source.id .leverFault].detail = some (.lever l) ∧
      t.au[Source.id .leverFault].multiple = s.au[Source.id .leverFault].pending ∧
      (∀ i : SourceId, i ≠ Source.id .leverFault → t.au[i] = s.au[i]) ∧
      { t with llu := s.llu, au := s.au } = s) ∧
  (∀ (s : State) (f : Frame) (sdi : BitVec 192) (l : LeverId), s.sbc.frame = some f →
    f.unjudged = false → sdi.getLsbD (f.length - 1) = s.sbc.expected → s.sbc.scan = .running →
    s.cfg.levers[l].configured = true →
    ∃ t, exec (.frameJudge sdi) s = .next t ∧
      let old := s.llu[l]
      let found : Position := match f.inputBit sdi (.leverN l), f.inputBit sdi (.leverR l) with
        | true, false => .normal
        | false, true => .reverse
        | false, false => .between
        | true, true => .contradictory
      let gripped := f.inputBit sdi (.catch_ l)
      let seen : Lever := { old with
        position := found
        catchGripped := gripped
        grip := if gripped then (if old.catchGripped then old.grip else .seeking) else .free
        reported := gripped && old.reported }
      let toSet := s.device = .service → s.cfg.levers[l].kind = .signal →
        s.ru[l].state = .granted →
        t.ru[l] = { s.ru[l] with state := .set, changed := s.tb.clock }
      let faulted := t.au[Source.id .leverFault].pending = true
      -- GRANTED and out of the origin
      (∀ p, old.release = .granted p → found = .between → (p = .normal → toSet) ∧
        t.llu[l] = { seen with
          release := .stroke p, strokeTimer := some s.cfg.levers[l].strokeTimeout }) ∧
      (∀ p e, old.release = .granted p → found = e.toPosition → e ≠ p → (p = .normal → toSet) ∧
        t.llu[l] = { seen with
          release := .notGranted, strokeTimer := none, lastStroke := some (true, s.tb.clock) }) ∧
      -- in STROKE
      (∀ p, old.release = .stroke p → found = .between → t.llu[l] = seen) ∧
      (∀ p e, old.release = .stroke p → found = e.toPosition → t.llu[l] = { seen with
        release := .notGranted, strokeTimer := none
        lastStroke := some (decide (e ≠ p), s.tb.clock) }) ∧
      -- a departure without a grant
      (∀ p : EndPos, s.device = .service → old.release = .notGranted → old.position = p.toPosition →
        found ≠ p.toPosition → found ≠ .contradictory → faulted ∧ t.llu[l] = { seen with
          grip := if gripped then .spent else .free
          lastFault := some (.unreleased, s.tb.clock) }) ∧
      -- a contact fault
      (found = .contradictory → old.position ≠ .contradictory → faulted ∧
        (old.release = .granted .normal → toSet) ∧ t.llu[l] = { seen with
          release := .notGranted
          strokeTimer := match old.release with | .stroke _ => none | _ => old.strokeTimer
          lastFault := some (.contradictory, s.tb.clock) }) ∧
      (found = .contradictory → old.position = .contradictory → old.release = .notGranted →
        t.llu[l] = seen) ∧
      -- GRANTED and not yet moved
      (∀ p, old.release = .granted p → found = p.toPosition →
        (gripped = false → t.llu[l] = { seen with release := .notGranted }) ∧
        (∀ before c after, gripped = true →
          s.cfg.levers[l].leave p = before ++ c :: after →
          (∀ k ∈ before, t.condition t.decoded k = true) → t.condition t.decoded c = false →
          t.llu[l] = { seen with
            release := .notGranted, grip := .seeking, reported := true
            lastRefusal := some ⟨.condition (before.length + 1), s.tb.clock, false⟩ }) ∧
        (gripped = true → (∀ k ∈ s.cfg.levers[l].leave p, t.condition t.decoded k = true) →
          (t.llu[l] = seen ∧ ∀ (h : HoldId) (hold : Hold), t.ht[h] = some hold →
            ¬(hold.lever = l ∧ hold.position = p)) ∨
          ∃ h, t.llu[l] = { seen with
            release := .notGranted, grip := .seeking, reported := true
            lastRefusal := some ⟨.held h, s.tb.clock, false⟩ }))) ∧
  -- R47 step 3, R52: the hold that withdraws a grant
  (∀ (s : State) (l : LeverId) (p : EndPos), s.llu[l].release = .granted p →
    let binds := fun hold : Hold => hold.lever = l ∧ hold.position = p
    let none_ := ∀ (h : HoldId) (hold : Hold), s.ht[h] = some hold → ¬binds hold
    let lowest_ := fun h : HoldId => (∃ hold, s.ht[h] = some hold ∧ binds hold) ∧
      ∀ (j : HoldId) (hold : Hold), j.val < h.val → s.ht[j] = some hold → ¬binds hold
    let seen : Lever := { s.llu[l] with
      position := p.toPosition, catchGripped := true
      grip := if s.llu[l].catchGripped then s.llu[l].grip else .seeking }
    let withdrawn := fun (r : Lever) (h : HoldId) => { r with
      release := .notGranted, grip := .seeking, reported := true
      lastRefusal := some ⟨.held h, s.tb.clock, false⟩ }
    (s.cfg.levers[l].configured = true → s.decoded l = p.toPosition →
      s.sbc.input.catches[l] = true →
      (∀ k ∈ s.cfg.levers[l].leave p, s.condition s.decoded k = true) →
      (none_ → (evaluateLever .continuous l s).llu[l] = seen) ∧
      ∀ h, lowest_ h → (evaluateLever .continuous l s).llu[l] = withdrawn seen h) ∧
    (none_ → closingCheck l s = s) ∧
    ∀ h, lowest_ h → (closingCheck l s).llu[l] = withdrawn s.llu[l] h)

/-- R43, R45: the tests of a lever that seeks a grant to leave `p`, in their order: NOT_SERVICE, SCAN,
CONDITION with the place of the first one that fails, HELD with the lowest-numbered live hold that binds
it at `p`. The refusal is recorded with the clock, and CONDITION and HELD set the reported flag and latch
RELEASE_REFUSED where it was clear. A lever that asks no route (a POINTS or OTHER lever, or a SIGNAL lever
leaving REVERSE) is granted exactly when all four pass. R44, R82: a SIGNAL lever leaving NORMAL then asks its route: refused in
the order of the tests, or granted with one ROUTE hold for each points entry in the lowest free shared
entries, the marks of the route circuits cleared and the route GRANTED. A gripped lever that stands at
an end seeks its grant in the evaluation of an arrival. -/
def Obligations.GrantNeedsServiceScanConditionsAndNoHold : Prop :=
  (∀ (s : State) (l : LeverId) (p : EndPos), s.llu[l].release = .notGranted →
    (s.cfg.levers[l].kind = .signal → p = .reverse) →
    let free := s.device = .service ∧ s.sbc.scan = .running ∧
      (∀ c ∈ s.cfg.levers[l].leave p, s.condition s.decoded c = true) ∧
      (∀ (h : HoldId) (hold : Hold), s.ht[h] = some hold →
        ¬(hold.lever = l ∧ hold.position = p))
    (free → (seekGrant l p s).llu[l].release = .granted p ∧
      (seekGrant l p s).llu[l].grip = .spent ∧ (seekGrant l p s).au = s.au) ∧
    (¬free → (seekGrant l p s).llu[l].release = .notGranted ∧
      (seekGrant l p s).llu[l].grip = s.llu[l].grip ∧
      ∃ reason, (seekGrant l p s).llu[l].lastRefusal = some ⟨reason, s.tb.clock, false⟩) ∧
    (∀ k : LeverId, k ≠ l → (seekGrant l p s).llu[k] = s.llu[k]) ∧
    (seekGrant l p s).ht = s.ht ∧ (seekGrant l p s).ru = s.ru ∧ (seekGrant l p s).tcm = s.tcm) ∧
  -- tests 1 to 4, of any lever
  (∀ (s : State) (l : LeverId) (p : EndPos),
    let t := seekGrant l p s
    let binds := fun hold : Hold => hold.lever = l ∧ hold.position = p
    let met := fun c : Condition => s.condition s.decoded c = true
    let refused := fun (reason : RefusalReason) (reports : Bool) =>
      t.llu[l] = { s.llu[l] with
        lastRefusal := some ⟨reason, s.tb.clock, false⟩
        reported := s.llu[l].reported || reports } ∧
      (∀ k : LeverId, k ≠ l → t.llu[k] = s.llu[k]) ∧
      (reports = true → s.llu[l].reported = false → Latched .releaseRefused (.lever l) s t) ∧
      (reports = false ∨ s.llu[l].reported = true → t.au = s.au) ∧
      { t with llu := s.llu, au := s.au } = s
    (s.device = .config → refused .notService false) ∧
    (s.device = .service → s.sbc.scan ≠ .running → refused .scan false) ∧
    (s.device = .service → s.sbc.scan = .running →
      (∀ before c after, s.cfg.levers[l].leave p = before ++ c :: after → (∀ k ∈ before, met k) →
        ¬met c → refused (.condition (before.length + 1)) true) ∧
      ((∀ c ∈ s.cfg.levers[l].leave p, met c) → ∀ (h : HoldId) (hold : Hold),
        s.ht[h] = some hold → binds hold →
        (∀ (j : HoldId) (other : Hold), j.val < h.val → s.ht[j] = some other → ¬binds other) →
        refused (.held h) true))) ∧
  (∀ (s : State) (l : LeverId), s.llu[l].release = .notGranted →
    s.cfg.levers[l].configured = true → s.cfg.levers[l].kind = .signal →
    s.device = .service → s.sbc.scan = .running →
    (∀ c ∈ s.cfg.levers[l].leaveNormal, s.condition s.decoded c = true) →
    (∀ (h : HoldId) (hold : Hold), s.ht[h] = some hold →
      ¬(hold.lever = l ∧ hold.position = .normal)) →
    let t := seekGrant l .normal s
    let route := s.cfg.routes[l]
    let inPlace := fun e : PointsEntry => s.stands s.decoded e.lever e.position = true
    let refused := fun reason : RefusalReason =>
      t.llu[l] = { s.llu[l] with
        lastRefusal := some ⟨reason, s.tb.clock, false⟩, reported := true } ∧
      (∀ k : LeverId, k ≠ l → t.llu[k] = s.llu[k]) ∧ { t with llu := s.llu, au := s.au } = s
    let reports := fun u : State => (s.llu[l].reported = false →
        Latched .releaseRefused (.lever l) u t) ∧ (s.llu[l].reported = true → t.au = u.au)
    (s.ru[l].state ≠ .idle → refused .routeBusy ∧ reports s) ∧
    (∀ before e after, s.ru[l].state = .idle → route.points = before ++ e :: after →
      (∀ k ∈ before, inPlace k) → ¬inPlace e →
      refused (.condition (13 + before.length)) ∧ reports s) ∧
    (s.ru[l].state = .idle → (∀ e ∈ route.points, inPlace e) →
      (freeShared s.ht).length < route.points.length →
      refused .pool ∧ ∃ u, Latched .pool (.lever l) s u ∧ reports u) ∧
    (s.ru[l].state = .idle → (∀ e ∈ route.points, inPlace e) →
      route.points.length ≤ (freeShared s.ht).length →
      ∃ numbers, numbers = (freeShared s.ht).take route.points.length ∧
        (∀ (i : Nat) (h : HoldId) (e : PointsEntry), numbers[i]? = some h →
          route.points[i]? = some e →
          t.ht[h] = some ⟨.route l e.circuit, e.lever, e.position, s.tb.clock⟩) ∧
        (∀ h : HoldId, h ∉ numbers → t.ht[h] = s.ht[h]) ∧
        t.ru[l] = { s.ru[l] with
          state := .granted, k := 1, entries := numbers.map fun h => ⟨false, some h⟩
          escape := false, cause := none, changed := s.tb.clock } ∧
        (∀ k : LeverId, k ≠ l → t.ru[k] = s.ru[k]) ∧
        (∀ c : TrackId, t.tcm[c] = { s.tcm[c] with
          mark := s.tcm[c].mark && decide (c ∉ route.circuits) }) ∧
        t.llu[l] = { s.llu[l] with
          release := .granted .normal, grip := .spent
          lastRefusal := s.llu[l].lastRefusal.map fun r => ⟨r.reason, r.stamp, true⟩ } ∧
        (∀ k : LeverId, k ≠ l → t.llu[k] = s.llu[k]) ∧
        { t with ht := s.ht, ru := s.ru, tcm := s.tcm, llu := s.llu } = s)) ∧
  (∀ (s : State) (l : LeverId) (p : EndPos), s.cfg.levers[l].configured = true →
    s.llu[l].release = .notGranted → s.llu[l].position = p.toPosition →
    s.decoded l = p.toPosition → s.sbc.input.catches[l] = true →
    s.llu[l].catchGripped = false ∨ s.llu[l].grip = .seeking →
    evaluateLever .continuous l s =
      (seekGrant l p (s.updLever l fun r => { r with grip := .seeking })).updLever l fun r =>
        { r with position := p.toPosition, catchGripped := true })

/-! ### Routes -/

/-- R88, R97: the approach expiry and the emergency expiry retire every hold the route owns and no
other, and make the route IDLE; the emergency expiry also clears the marks of the route circuits and
latches ROUTE with the lever. R84 to R87: what the notices of a SIGNAL lever do to its route: a
withdrawn grant frees it, a departure under a grant makes it SET, an escape makes it SET with its flag
and takes its holds from IDLE where it can, and the return to NORMAL decides by the escape flag, the
mark of the first circuit and the approach circuits. R46 to R48, R50, R51, R54: which notice the
evaluation of a lever hands. Where the rules hand no such notice the effect is the model's choice (log
18): that a withdrawn or a left-NORMAL notice changes nothing in a route that is not GRANTED, and that an
escape takes a GRANTED or a SET route as it takes the other states that are not IDLE. That a lever whose
stroke ends at NORMAL hands its returned notice and seeks no grant in that evaluation is its reading (log
15). -/
def Obligations.RouteExpiriesFreeTheWholeRoute : Prop :=
  (∀ (s : State) (l : LeverId),
    (s.ru[l].timer = some ⟨.approach, 0⟩ → s.ru[l].state = .approachLocked →
      ∃ t, exec (.approachExpiry l) s = .next t ∧ t.ru[l].state = .idle ∧ t.ru[l].timer = none ∧
        t.ru[l].k = 1 ∧ t.ru[l].cause = none ∧ t.ru[l].changed = s.tb.clock ∧
        (∀ k : LeverId, k ≠ l → t.ru[k] = s.ru[k]) ∧
        (∀ h : HoldId, t.ht[h] = match s.ht[h] with
          | some hold => (match hold.kind with
            | .route o _ => if o = l then none else some hold
            | _ => some hold)
          | none => none) ∧
        { t with ru := s.ru, ht := s.ht } = s) ∧
    (s.ru[l].timer = some ⟨.emergency, 0⟩ → s.ru[l].state = .timedRelease →
      ∃ t, exec (.emergencyExpiry l) s = .next t ∧ t.ru[l].state = .idle ∧ t.ru[l].timer = none ∧
        t.ru[l].k = 1 ∧ t.ru[l].cause = none ∧ t.ru[l].changed = s.tb.clock ∧
        (∀ k : LeverId, k ≠ l → t.ru[k] = s.ru[k]) ∧
        (∀ h : HoldId, t.ht[h] = match s.ht[h] with
          | some hold => (match hold.kind with
            | .route o _ => if o = l then none else some hold
            | _ => some hold)
          | none => none) ∧
        (∀ c : TrackId, t.tcm[c] = { s.tcm[c] with
          mark := if c ∈ s.cfg.routes[l].circuits then false else s.tcm[c].mark }) ∧
        t.au[Source.id .route].pending = true ∧
        t.au[Source.id .route].detail = some (.lever l) ∧
        (∀ i : SourceId, i ≠ Source.id .route → t.au[i] = s.au[i]) ∧
        { t with ru := s.ru, ht := s.ht, tcm := s.tcm, au := s.au } = s)) ∧
  (∀ (s : State) (l : LeverId),
    let route := s.cfg.routes[l]
    let freed := fun t : State =>
      t.ru[l] = ⟨.idle, 1, none, route.points.map fun _ => ⟨true, none⟩, false, none,
        s.tb.clock⟩ ∧
      (∀ k : LeverId, k ≠ l → t.ru[k] = s.ru[k]) ∧
      (∀ h : HoldId, t.ht[h] = match s.ht[h] with
        | some hold => (match hold.kind with
          | .route o _ => if o = l then none else some hold
          | _ => some hold)
        | none => none) ∧
      { t with ru := s.ru, ht := s.ht } = s
    let becomes := fun r : Route => { s with ru := s.ru.set l.val { r with changed := s.tb.clock } }
    -- R84, R85
    (s.ru[l].state = .granted → freed (routeWithdrawn l s) ∧
      leftNormalGranted l s = becomes { s.ru[l] with state := .set }) ∧
    (s.ru[l].state ≠ .granted → routeWithdrawn l s = s ∧ leftNormalGranted l s = s) ∧
    -- R87
    (s.ru[l].state ≠ .set → routeReturned l s = s) ∧
    (s.ru[l].state = .set →
      (s.ru[l].escape = true → Latched .route (.lever l) s (routeReturned l s) ∧
        { routeReturned l s with au := s.au } =
          becomes { s.ru[l] with state := .sequenceFault, cause := some .unreleased }) ∧
      (∀ c, s.ru[l].escape = false → route.circuits[0]? = some c → s.tcm[c].mark = true →
        routeReturned l s = releasePass l
          (becomes { s.ru[l] with state := .releasing, timer := none, k := 1 })) ∧
      (s.ru[l].escape = false → (∀ c, route.circuits[0]? = some c → s.tcm[c].mark = false) →
        let locked := 0 < route.approachTime ∧ ∃ c ∈ route.approach, s.tcm[c].state ≠ .clear
        (locked → routeReturned l s = becomes { s.ru[l] with
          state := .approachLocked, timer := some ⟨.approach, route.approachTime⟩ }) ∧
        (¬locked → freed (routeReturned l s)))) ∧
    -- R86
    (let t := routeEscape l s
    let inPlace := ∀ e ∈ route.points, s.stands s.decoded e.lever e.position = true
    let room := route.points.length ≤ (freeShared s.ht).length
    t.au[Source.id .route].pending = true ∧ t.au[Source.id .route].detail = some (.lever l) ∧
    (∀ k : LeverId, k ≠ l → t.ru[k] = s.ru[k]) ∧
    (s.ru[l].state ≠ .idle → Latched .route (.lever l) s t ∧ { t with au := s.au } =
      becomes { s.ru[l] with state := .set, timer := none, escape := true }) ∧
    (s.ru[l].state = .idle → s.device = .service →
      (∀ c : TrackId, t.tcm[c] = { s.tcm[c] with
        mark := s.tcm[c].mark && decide (c ∉ route.circuits) }) ∧
      { t with ht := s.ht, ru := s.ru, tcm := s.tcm, au := s.au } = s ∧
      (∃ entries, t.ru[l] = { s.ru[l] with
          state := .set, k := 1, entries := entries, escape := true, changed := s.tb.clock } ∧
        (inPlace ∧ room → (entries.map fun e => e.released) = route.points.map (fun _ => false) ∧
          (entries.map fun e => e.hold) =
            ((freeShared s.ht).take route.points.length).map some ∧
          (∀ (i : Nat) (h : HoldId) (e : PointsEntry),
            ((freeShared s.ht).take route.points.length)[i]? = some h →
            route.points[i]? = some e →
            t.ht[h] = some ⟨.route l e.circuit, e.lever, e.position, s.tb.clock⟩) ∧
          (∀ h : HoldId, h ∉ (freeShared s.ht).take route.points.length → t.ht[h] = s.ht[h]) ∧
          Latched .route (.lever l) s t) ∧
        (¬(inPlace ∧ room) → entries = route.points.map (fun _ => ⟨true, none⟩) ∧ t.ht = s.ht) ∧
        (¬inPlace → Latched .route (.lever l) s t) ∧
        (inPlace → ¬room → t.au[Source.id .pool].pending = true ∧
          t.au[Source.id .pool].detail = some (.lever l)))))) ∧
  -- R54: the notices of an evaluation in SERVICE
  (∀ (s : State) (l : LeverId), s.device = .service → s.cfg.levers[l].configured = true →
    s.cfg.levers[l].kind = .signal →
    let t := evaluateLever .continuous l s
    let hands := fun u : State => { t with llu := s.llu } = u
    let faulted := fun u : State => Latched .leverFault (.lever l) s u ∧ { u with au := s.au } = s
    (s.llu[l].release = .granted .normal → s.decoded l = .normal → s.sbc.input.catches[l] = false →
      hands (routeWithdrawn l s)) ∧
    (s.llu[l].release = .granted .normal → s.decoded l = .between ∨ s.decoded l = .reverse →
      hands (leftNormalGranted l s)) ∧
    (∀ p, s.llu[l].release = .stroke p → s.decoded l = .normal → hands (routeReturned l s)) ∧
    (s.llu[l].release = .notGranted → s.llu[l].position = .between ∨
        s.llu[l].position = .contradictory → s.decoded l = .normal →
      s.sbc.input.catches[l] = false → hands (routeReturned l s)) ∧
    (s.llu[l].release = .notGranted → s.llu[l].position = .normal →
      s.decoded l ≠ .normal → ∃ u, faulted u ∧ hands (routeEscape l u)) ∧
    (s.llu[l].release = .notGranted → s.llu[l].position = .reverse → s.decoded l = .normal →
      ∃ u, faulted u ∧ hands (routeReturned l u)) ∧
    (s.llu[l].release = .granted .normal → s.llu[l].position ≠ .contradictory →
      s.decoded l = .contradictory → ∃ u, faulted u ∧ hands (leftNormalGranted l u)))

/-- R96: TIMED_RELEASE: STATE in CONFIG, BAD_ARGUMENT, NO_RECORD for a lever that is not a configured
SIGNAL lever, STATE in a route state it is not taken in, and otherwise the emergency timer is started
and the holds are kept. -/
def Obligations.TimedReleaseStartsTheEmergencyTimer : Prop :=
  ∀ s : State, s.portFree →
    (∀ n, s.device = .config → exec (.timedRelease n) s = .next (s.holding (replyBytes 5 51 []))) ∧
    (∀ n, s.device = .service → n = 0 ∨ 40 < n →
      exec (.timedRelease n) s = .next (s.holding (replyBytes 4 51 [1]))) ∧
    (∀ l : LeverId, s.device = .service →
      ¬(s.cfg.levers[l].configured = true ∧ s.cfg.levers[l].kind = .signal) →
      exec (.timedRelease (l.val + 1)) s = .next (s.holding (replyBytes 8 51 []))) ∧
    (∀ l : LeverId, s.device = .service → s.cfg.levers[l].configured = true →
      s.cfg.levers[l].kind = .signal →
      (s.ru[l].state = .idle ∨ s.ru[l].state = .granted ∨ s.ru[l].state = .set ∨
        s.ru[l].state = .timedRelease →
        exec (.timedRelease (l.val + 1)) s = .next (s.holding (replyBytes 5 51 []))) ∧
      (s.ru[l].state = .approachLocked ∨ s.ru[l].state = .releasing ∨
        s.ru[l].state = .sequenceFault →
        ∃ t, exec (.timedRelease (l.val + 1)) s = .next t ∧
          t.ru[l] = { s.ru[l] with
            state := .timedRelease, changed := s.tb.clock
            timer := some ⟨.emergency, s.cfg.timing.emergency⟩ } ∧
          (∀ k : LeverId, k ≠ l → t.ru[k] = s.ru[k]) ∧
          { t with ru := s.ru } =
            s.holding (replyBytes 0 51 (bytesTwo s.cfg.timing.emergency))))

/-! ### The Hold Table -/

/-- R73, R74: PLACE_BAR in SERVICE: BAD_ARGUMENT (the place is log 10's), NO_RECORD, POOL with source 6
latched for HOST, and otherwise a bar in the lowest free shared entry, or in the lowest free reserve
entry when no shared entry is free. REMOVE_BAR frees one bar and answers its lever, position and reason;
a free entry and a hold of another kind are refused with NO_RECORD. -/
def Obligations.BarsArePlacedAndRemoved : Prop :=
  (∀ (s : State) (reason : Byte), s.portFree →
     (∀ n m, s.device = .config →
       exec (.placeBar n m reason) s = .next (s.holding (replyBytes 5 49 []))) ∧
     (∀ n m, s.device = .service → n = 0 ∨ 40 < n →
       exec (.placeBar n m reason) s = .next (s.holding (replyBytes 4 49 [1]))) ∧
     (∀ (l : LeverId) m, s.device = .service → 1 < m →
       exec (.placeBar (l.val + 1) m reason) s = .next (s.holding (replyBytes 4 49 [2]))) ∧
     (∀ (l : LeverId) (p : EndPos), s.device = .service → s.cfg.levers[l].configured = false →
       exec (.placeBar (l.val + 1) (endPosNo p) reason) s =
         .next (s.holding (replyBytes 8 49 []))) ∧
     (∀ (l : LeverId) (p : EndPos), s.device = .service → s.cfg.levers[l].configured = true →
       ((∀ h : HoldId, h.val < 64 ∨ 67 ≤ h.val → s.ht[h] ≠ none) →
         ∃ t, exec (.placeBar (l.val + 1) (endPosNo p) reason) s = .next t ∧
           t.au[Source.id .pool].pending = true ∧ t.au[Source.id .pool].detail = some .host ∧
           (∀ i : SourceId, i ≠ Source.id .pool → t.au[i] = s.au[i]) ∧
           { t with au := s.au } = s.holding (replyBytes 7 49 [])) ∧
       (∀ h : HoldId, s.ht[h] = none → h.val < 64 ∨ 67 ≤ h.val →
         (∀ j : HoldId, j.val < h.val → j.val < 64 ∨ 67 ≤ j.val → s.ht[j] ≠ none) →
         ∃ t, exec (.placeBar (l.val + 1) (endPosNo p) reason) s = .next t ∧
           t.ht[h] = some ⟨.bar reason, l, p, s.tb.clock⟩ ∧
           (∀ j : HoldId, j ≠ h → t.ht[j] = s.ht[j]) ∧
           { t with ht := s.ht } = s.holding (replyBytes 0 49 [BitVec.ofNat 8 h.val])))) ∧
  (∀ s : State, s.portFree →
     (∀ n, s.device = .config → exec (.removeBar n) s = .next (s.holding (replyBytes 5 50 []))) ∧
     (∀ n, s.device = .service → 72 ≤ n →
       exec (.removeBar n) s = .next (s.holding (replyBytes 4 50 [1]))) ∧
     (∀ h : HoldId, s.device = .service →
       (∀ reason l p c, s.ht[h] ≠ some ⟨.bar reason, l, p, c⟩) →
       exec (.removeBar h.val) s = .next (s.holding (replyBytes 8 50 []))) ∧
     (∀ (h : HoldId) reason l p c, s.device = .service → s.ht[h] = some ⟨.bar reason, l, p, c⟩ →
       ∃ t, exec (.removeBar h.val) s = .next t ∧ t.ht[h] = none ∧
         (∀ j : HoldId, j ≠ h → t.ht[j] = s.ht[j]) ∧
         { t with ht := s.ht } = s.holding (replyBytes 0 50
           [BitVec.ofNat 8 (l.val + 1), BitVec.ofNat 8 (endPosNo p), reason])))

/-- R75, R76, R191: READ_HOLD: the record of a live hold in its layout; a free entry and a number above 71
are refused. LIST_HOLDS: the matching live holds from the start on, in ascending order and at most 16,
and the more flag; a selector or a start out of range is refused (the place is log 10's). -/
def Obligations.HoldsAreReadAndListed : Prop :=
  (∀ s : State, s.portFree →
     (∀ (h : HoldId) (hold : Hold), s.ht[h] = some hold →
       exec (.readHold h.val) s = .next (s.holding (replyBytes 0 36
         (([BitVec.ofNat 8 h.val,
           match hold.kind with | .route _ _ => 0 | .clearing _ => 1 | .block _ => 2 | .bar _ => 3,
           BitVec.ofNat 8 (hold.lever.val + 1),
           match hold.position with | .normal => 0 | .reverse => 1,
           match hold.kind with
             | .route o _ => BitVec.ofNat 8 (o.val + 1)
             | .clearing x => BitVec.ofNat 8 (lineNo x)
             | .block x => BitVec.ofNat 8 (lineNo x)
             | .bar _ => 255,
           match hold.kind with | .route _ c => BitVec.ofNat 8 (c.val + 1) | _ => 0,
           match hold.kind with | .bar reason => reason | _ => 0] : List Byte) ++
         bytesThree hold.created.toNat ++
         ([if h.val < 64 then 0 else if h.val < 67 then 1 else 2,
           if s.llu[hold.lever].position = hold.position.toPosition then 1 else 0,
           match s.llu[hold.lever].release with
             | .notGranted => 0 | .granted _ => 1 | .stroke _ => 2] : List Byte))))) ∧
     (∀ h : HoldId, s.ht[h] = none →
       exec (.readHold h.val) s = .next (s.holding (replyBytes 8 36 []))) ∧
     (∀ n, 72 ≤ n → exec (.readHold n) s = .next (s.holding (replyBytes 4 36 [1])))) ∧
  (∀ (s : State) (start : HoldId), s.portFree →
     (∀ l : LeverId, ∃ found : List HoldId, found.Pairwise (fun i j => i.val < j.val) ∧
       (∀ h : HoldId, h ∈ found ↔ start.val ≤ h.val ∧ ∃ hold, s.ht[h] = some hold ∧
         hold.lever = l) ∧
       exec (.listHolds (l.val + 1) start.val) s = .next (s.holding (replyBytes 0 37
         ((if 16 < found.length then 1 else 0) :: BitVec.ofNat 8 (min 16 found.length) ::
           (found.take 16).map fun h => BitVec.ofNat 8 h.val)))) ∧
     (∃ found : List HoldId, found.Pairwise (fun i j => i.val < j.val) ∧
       (∀ h : HoldId, h ∈ found ↔ start.val ≤ h.val ∧ s.ht[h] ≠ none) ∧
       exec (.listHolds 0 start.val) s = .next (s.holding (replyBytes 0 37
         ((if 16 < found.length then 1 else 0) :: BitVec.ofNat 8 (min 16 found.length) ::
           (found.take 16).map fun h => BitVec.ofNat 8 h.val))))) ∧
  (∀ (s : State) (n m : Nat), s.portFree →
    (40 < n → exec (.listHolds n m) s = .next (s.holding (replyBytes 4 37 [1]))) ∧
    (n ≤ 40 → 72 ≤ m → exec (.listHolds n m) s = .next (s.holding (replyBytes 4 37 [2]))))

/-! ### The readings -/

/-- R186, R198: READ_STATUS: the summary in its layout. The counts of free entries and the set of the
active sources are written as lists without repetition. -/
def Obligations.ReadStatusFollowsItsLayout : Prop :=
  ∀ (s : State) (shared reserve : List HoldId) (trains : List TrainId) (active : List SourceId),
    s.portFree →
    shared.Nodup → (∀ h, h ∈ shared ↔ h.val < 64 ∧ s.ht[h] = none) →
    reserve.Nodup → (∀ h, h ∈ reserve ↔ 67 ≤ h.val ∧ s.ht[h] = none) →
    trains.Nodup → (∀ r, r ∈ trains ↔ r.val < 9 ∧ s.trt.records[r] = none) →
    active.Nodup → (∀ i, i ∈ active ↔ s.au[i].enabled = true ∧ s.sourcePending i = true) →
    exec .readStatus s = .next (s.holding (replyBytes 0 32
      (([match s.device with | .config => 0 | .service => 1,
        match s.sbc.scan with | .stopped => 0 | .starting => 1 | .running => 2 | .lost => 3,
        BitVec.ofNat 8 s.cfg.frameLength, BitVec.ofNat 8 s.cfg.effectivePeriod] : List Byte) ++
      bytesTwo s.sbc.frameCounter.toNat ++
      ([BitVec.ofNat 8 s.sbc.goodRun, BitVec.ofNat 8 s.sbc.badRun,
        BitVec.ofNat 8 shared.length, BitVec.ofNat 8 reserve.length,
        BitVec.ofNat 8 (s.ht[(64 : HoldId)].isSome.toNat + 2 * s.ht[(65 : HoldId)].isSome.toNat +
          4 * s.ht[(66 : HoldId)].isSome.toNat),
        BitVec.ofNat 8 trains.length,
        BitVec.ofNat 8 (s.trt.records[(9 : TrainId)].isSome.toNat +
          2 * s.trt.records[(10 : TrainId)].isSome.toNat +
          4 * s.trt.records[(11 : TrainId)].isSome.toNat)] : List Byte) ++
      ([Line.a, Line.b, Line.c].flatMap fun x =>
        ([if (s.blc.get x).count < 96 then 0 else if (s.blc.get x).count < 255 then 1 else 2,
          BitVec.ofNat 8 (s.blc.get x).count] : List Byte)) ++
      bytesThree s.tb.clock.toNat ++
      ([if active.isEmpty then 0 else 1, BitVec.ofNat 8 active.length] : List Byte))))

/-- R59, R192: READ_LEVER: a configured lever in its layout, any other at its full-reset values. The
stamps of an absent stroke, refusal or fault are three bytes each that no rule gives a value (log 11);
the detail byte of an absent refusal is read as 255 (log 22). -/
def Obligations.ReadLeverFollowsItsLayout : Prop :=
  ∀ s : State, s.portFree →
    (∀ l : LeverId, s.cfg.levers[l].configured = true → ∃ strokeAt refusedAt faultAt : List Byte,
      strokeAt.length = 3 ∧ refusedAt.length = 3 ∧ faultAt.length = 3 ∧
      (∀ full c, s.llu[l].lastStroke = some (full, c) → strokeAt = bytesThree c.toNat) ∧
      (∀ r, s.llu[l].lastRefusal = some r → refusedAt = bytesThree r.stamp.toNat) ∧
      (∀ f c, s.llu[l].lastFault = some (f, c) → faultAt = bytesThree c.toNat) ∧
      exec (.readLever (l.val + 1)) s = .next (s.holding (replyBytes 0 33
        (([BitVec.ofNat 8 (l.val + 1),
          BitVec.ofNat 8 (1 + 2 * s.llu[l].catchGripped.toNat + 4 * s.llu[l].unseen.toNat +
            8 * s.sbc.magnets[l].toNat + 16 * s.sbc.input.leverN[l].toNat +
            32 * s.sbc.input.leverR[l].toNat + 64 * s.sbc.input.catches[l].toNat +
            128 * s.llu[l].reported.toNat),
          match s.cfg.levers[l].kind with | .signal => 0 | .points => 1 | .other => 2,
          match s.llu[l].position with
            | .normal => 0 | .reverse => 1 | .between => 2 | .contradictory => 3,
          match s.llu[l].release with | .notGranted => 0 | .granted _ => 1 | .stroke _ => 2,
          match s.llu[l].release with
            | .notGranted => 255
            | .granted .normal => 0 | .granted .reverse => 1
            | .stroke .normal => 0 | .stroke .reverse => 1,
          match s.llu[l].grip with | .free => 0 | .seeking => 1 | .spent => 2] : List Byte) ++
        bytesTwo (s.llu[l].strokeTimer.getD 0) ++
        ([match s.llu[l].lastStroke with
          | none => 0 | some (true, _) => 1 | some (false, _) => 2] : List Byte) ++ strokeAt ++
        (match s.llu[l].lastRefusal with
          | none => ([0, 255] : List Byte)
          | some r =>
            [(match r.reason with
              | .notService => 1 | .scan => 2 | .condition _ => 3 | .held _ => 4
              | .routeBusy => 5 | .pool => 6) + (if r.superseded then 128 else 0),
            match r.reason with
              | .condition place => BitVec.ofNat 8 place
              | .held h => BitVec.ofNat 8 h.val
              | _ => 255]) ++ refusedAt ++
        ([match s.llu[l].lastFault with
          | none => 0 | some (.strokeTimeout, _) => 1 | some (.contradictory, _) => 2
          | some (.unreleased, _) => 3] : List Byte) ++ faultAt)))) ∧
    (∀ l : LeverId, s.cfg.levers[l].configured = false → ∃ strokeAt refusedAt faultAt : List Byte,
      strokeAt.length = 3 ∧ refusedAt.length = 3 ∧ faultAt.length = 3 ∧
      exec (.readLever (l.val + 1)) s = .next (s.holding (replyBytes 0 33
        (([BitVec.ofNat 8 (l.val + 1), 0, 2, 2, 0, 255, 0, 0, 0, 0] : List Byte) ++ strokeAt ++
          ([0, 255] : List Byte) ++ refusedAt ++ ([0] : List Byte) ++ faultAt)))) ∧
    (∀ n, n = 0 ∨ 40 < n → exec (.readLever n) s = .next (s.holding (replyBytes 4 33 [1])))

/-- R34, R187, R195: READ_TRACK: a configured circuit in its layout, any other UNKNOWN at its reset
values. The input slot is read from the loaded map and length, not from those of a frame in progress
(log 24); a due timer shows as absent (log 23). -/
def Obligations.ReadTrackFollowsItsLayout : Prop :=
  ∀ s : State, s.portFree →
    (∀ (c : TrackId) (slot : Byte), s.cfg.tracks[c].configured = true →
      ((∃ k : SlotId, k.val + 1 < s.cfg.frameLength ∧ s.cfg.slots[k].input = .track c ∧
          (∀ j : SlotId, j.val < k.val → s.cfg.slots[j].input ≠ .track c) ∧
          slot = BitVec.ofNat 8 k.val) ∨
        ((∀ k : SlotId, k.val + 1 < s.cfg.frameLength → s.cfg.slots[k].input ≠ .track c) ∧
          slot = 255)) →
      exec (.readTrack (c.val + 1)) s = .next (s.holding (replyBytes 0 34
        (([BitVec.ofNat 8 (c.val + 1),
          BitVec.ofNat 8 (1 + 2 * s.sbc.input.tracks[c].toNat + 4 * s.tcm[c].mark.toNat +
            8 * s.tcm[c].fault.toNat),
          match s.tcm[c].state with
            | .unknown => 0 | .occupied => 1 | .pickupTiming => 2 | .clear => 3,
          slot, BitVec.ofNat 8 s.cfg.tracks[c].delay,
          BitVec.ofNat 8 (s.tcm[c].timer.getD 0)] : List Byte) ++
        bytesThree s.tcm[c].changed.toNat ++
        BitVec.ofNat 8 s.cfg.tracks[c].neighbours.length ::
          s.cfg.tracks[c].neighbours.map fun n => BitVec.ofNat 8 (n.val + 1))))) ∧
    (∀ c : TrackId, s.cfg.tracks[c].configured = false →
      exec (.readTrack (c.val + 1)) s = .next (s.holding (replyBytes 0 34
        [BitVec.ofNat 8 (c.val + 1), 0, 0, 255, 20, 0, 0, 0, 0, 0]))) ∧
    (∀ n, n = 0 ∨ 32 < n → exec (.readTrack n) s = .next (s.holding (replyBytes 4 34 [1])))

/-- R99, R196: READ_ROUTE: the loaded record of a lever with the running record of a configured SIGNAL
lever, or for any other lever a running record in its CONFIG condition. An entry without a running
field shows its flag clear and its number absent (log 32); a due timer shows as absent (log 23). -/
def Obligations.ReadRouteFollowsItsLayout : Prop :=
  ∀ s : State, s.portFree →
    (∀ (l : LeverId) (r : Route),
      (s.cfg.levers[l].configured = true ∧ s.cfg.levers[l].kind = .signal → r = s.ru[l]) →
      (¬(s.cfg.levers[l].configured = true ∧ s.cfg.levers[l].kind = .signal) →
        r = ⟨.idle, 1, none, [], false, none, 0⟩) →
      exec (.readRoute (l.val + 1)) s = .next (s.holding (replyBytes 0 35
        (([BitVec.ofNat 8 (l.val + 1),
          BitVec.ofNat 8 (s.cfg.routes[l].loaded.toNat + 2 * r.escape.toNat),
          match r.state with
            | .idle => 0 | .granted => 1 | .set => 2 | .approachLocked => 3 | .releasing => 4
            | .sequenceFault => 5 | .timedRelease => 6,
          BitVec.ofNat 8 r.k,
          match r.timer with
            | none => 0
            | some ⟨_, 0⟩ => 0
            | some ⟨.approach, _ + 1⟩ => 1
            | some ⟨.emergency, _ + 1⟩ => 2] : List Byte) ++
        bytesTwo ((r.timer.map fun t => t.remaining).getD 0) ++
        ([match r.cause with
          | some .sequence => 0 | some .scanLoss => 1 | some .unreleased => 2
          | none => 255] : List Byte) ++
        bytesThree r.changed.toNat ++ bytesTwo s.cfg.routes[l].approachTime ++
        (BitVec.ofNat 8 s.cfg.routes[l].points.length ::
          s.cfg.routes[l].points.zipIdx.flatMap fun e =>
            ([BitVec.ofNat 8 (e.1.lever.val + 1),
              match e.1.position with | .normal => 0 | .reverse => 1,
              BitVec.ofNat 8 (e.1.circuit.val + 1),
              if (r.entries[e.2]?.map fun n => n.released) = some true then 1 else 0,
              match r.entries[e.2]?.bind fun n => n.hold with
                | some h => BitVec.ofNat 8 h.val
                | none => 255] : List Byte)) ++
        (BitVec.ofNat 8 s.cfg.routes[l].circuits.length ::
          s.cfg.routes[l].circuits.flatMap fun c =>
            ([BitVec.ofNat 8 (c.val + 1),
              match s.tcm[c].state with
                | .unknown => 0 | .occupied => 1 | .pickupTiming => 2 | .clear => 3,
              BitVec.ofNat 8 s.tcm[c].mark.toNat] : List Byte)) ++
        (BitVec.ofNat 8 s.cfg.routes[l].approach.length ::
          s.cfg.routes[l].approach.flatMap fun c =>
            ([BitVec.ofNat 8 (c.val + 1),
              match s.tcm[c].state with
                | .unknown => 0 | .occupied => 1 | .pickupTiming => 2 | .clear => 3] :
              List Byte)))))) ∧
    (∀ n, n = 0 ∨ 40 < n → exec (.readRoute n) s = .next (s.holding (replyBytes 4 35 [1])))

/-- R138, R193: READ_LINE: the line record in its layout. The stamp of an absent block hold and the
bytes after a pattern's groups are bytes no rule gives a value (log 11); a run due to settle shows 39
and a due wait shows absent (log 23). -/
def Obligations.ReadLineFollowsItsLayout : Prop :=
  ∀ (s : State) (x : Line) (inbound outbound : Byte), s.portFree → HalvesLaw s →
    ((∃ r, inboundOn s r x ∧ inbound = BitVec.ofNat 8 (r.val + 1)) ∨
      ((∀ r, ¬inboundOn s r x) ∧ inbound = 0)) →
    ((∃ r, outboundOn s r x ∧ outbound = BitVec.ofNat 8 (r.val + 1)) ∨
      ((∀ r, ¬outboundOn s r x) ∧ outbound = 0)) →
    ∃ heldAt groups : List Byte, heldAt.length = 3 ∧
      (∀ hold, s.ht[blockEntry x] = some hold → heldAt = bytesThree hold.created.toNat) ∧
      (∃ rest : List Byte,
        groups = (((s.bu.get x).expected.map fun e => e.groups).getD []).map (BitVec.ofNat 8) ++
          rest ∧
        rest.length = 6 - (((s.bu.get x).expected.map fun e => e.groups).getD []).length) ∧
      exec (.readLine (lineNo x)) s = .next (s.holding (replyBytes 0 38
        (([BitVec.ofNat 8 (lineNo x),
          match (s.blc.get x).inInstrument with | .blocked => 0 | .clear => 1 | .onLine => 2,
          match (s.blc.get x).settled with
            | .none => 0 | .positive => 1 | .negative => 2 | .both => 3,
          match (s.blc.get x).settled with
            | .none => 0 | .positive => 1 | .negative => 2 | .both => 0,
          match (s.blc.get x).candidate with
            | none => 255
            | some (r, _) =>
              (match r with | .none => 0 | .positive => 1 | .negative => 2 | .both => 3),
          match (s.blc.get x).candidate with
            | none => 0
            | some (_, n) => BitVec.ofNat 8 (min 39 n),
          BitVec.ofNat 8 (s.blc.get x).count,
          if (s.blc.get x).count < 96 then 0 else if (s.blc.get x).count < 255 then 1 else 2] :
          List Byte) ++
        bytesTwo (match (s.blc.get x).quiet with
          | none => 0
          | some t =>
            if (s.tb.tickCount - t).toNat < 2 ^ 31 then 0 else (t - s.tb.tickCount).toNat) ++
        ([BitVec.ofNat 8 ((s.blc.get x).obstruction.toNat + 2 * (s.trt.owed.get x).toNat +
            4 * (s.bu.get x).sender.isSome.toNat + 8 * (s.bu.get x).pendingEntering.toNat +
            16 * (s.bu.get x).overrun.toNat + 32 * (s.bu.get x).collided.toNat +
            64 * (s.bu.get x).unacknowledged.toNat + 128 * s.ht[blockEntry x].isSome.toNat),
          match (s.blc.get x).standing with
            | .none => 0 | .offered => 1 | .accepted => 2 | .inSection => 3,
          if s.ht[blockEntry x] = none then 255
            else match x with | .a => 64 | .b => 65 | .c => 66] : List Byte) ++ heldAt ++
        ([inbound, outbound,
          BitVec.ofNat 8 ((s.bu.get x).buffer0.isSome.toNat +
            (s.bu.get x).buffer1.isSome.toNat)] : List Byte) ++
        bytesTwo (((s.bu.get x).expected.map fun e => e.deadline).getD 0) ++
        ([BitVec.ofNat 8
          (((s.bu.get x).expected.map fun e => e.groups).getD []).length] : List Byte) ++ groups ++
        ([BitVec.ofNat 8 (s.cfg.lines.get x).configured.toNat,
          match (s.cfg.lines.get x).starter with
            | some l => BitVec.ofNat 8 (l.val + 1) | none => 0,
          match (s.cfg.lines.get x).entryCircuit with
            | some c => BitVec.ofNat 8 (c.val + 1) | none => 0,
          match (s.cfg.lines.get x).home with
            | some l => BitVec.ofNat 8 (l.val + 1) | none => 0,
          match (s.cfg.lines.get x).berth with
            | some c => BitVec.ofNat 8 (c.val + 1) | none => 0] : List Byte) ++
        bytesTwo (s.cfg.lines.get x).lapse ++
        (BitVec.ofNat 8 (s.cfg.lines.get x).conditions.length ::
          (s.cfg.lines.get x).conditions.flatMap fun c => match c with
            | .leverAt l .normal => ([0, BitVec.ofNat 8 (l.val + 1)] : List Byte)
            | .leverAt l .reverse => [1, BitVec.ofNat 8 (l.val + 1)]
            | .trackClear t => [2, BitVec.ofNat 8 (t.val + 1)]) ++
        (BitVec.ofNat 8 (s.cfg.lines.get x).clearing.length ::
          (s.cfg.lines.get x).clearing.flatMap fun e =>
            ([BitVec.ofNat 8 (e.1.val + 1),
              match e.2 with | .normal => 0 | .reverse => 1] : List Byte)))))

/-- R113, R114, R197: READ_CODE shows the older unreleased code in its layout and changes nothing;
RELEASE_CODE frees that buffer, keeps the other, clears OVERRUN and reports both. With no unreleased
buffer both are refused and OVERRUN stands. The bytes after the groups are free (log 11). -/
def Obligations.ReceivedCodesAreReadAndReleasedOldestFirst : Prop :=
  ∀ (s : State) (x : Line), s.portFree →
    (∀ (c : StoredCode) (older : Bool),
      ((s.bu.get x).buffer0 = some c ∧ older = false ∧
          ((s.bu.get x).buffer1 = none ∨ (s.bu.get x).turn = false)) ∨
        ((s.bu.get x).buffer1 = some c ∧ older = true ∧
          ((s.bu.get x).buffer0 = none ∨ (s.bu.get x).turn = true)) →
      (∃ rest : List Byte, rest.length = 6 - c.groups.length ∧
        exec (.readCode (lineNo x)) s = .next (s.holding (replyBytes 0 39
          (([BitVec.ofNat 8 (lineNo x),
            BitVec.ofNat 8 ((s.bu.get x).buffer0.isSome.toNat +
              (s.bu.get x).buffer1.isSome.toNat),
            BitVec.ofNat 8 (c.held.toNat + 2 * c.overflow.toNat + 4 * c.outOfTurn.toNat +
              8 * c.repetition.toNat + 16 * (s.bu.get x).overrun.toNat +
              32 * (s.bu.get x).collided.toNat + 64 * (s.bu.get x).unacknowledged.toNat),
            match c.heard with | .recognised e _ _ => BitVec.ofNat 8 e.val | _ => 255,
            match c.heard with
              | .recognised _ .callAttention _ => 0 | .recognised _ .offer _ => 1
              | .recognised _ .entering _ => 2 | .recognised _ .outOfSection _ => 3
              | .recognised _ .cancel _ => 4 | .recognised _ .obstructionDanger _ => 5
              | .recognised _ .obstructionRemoved _ => 6 | .recognised _ .testing _ => 7
              | .recognised _ .information _ => 8 | .unrecognised => 9 | .malformed => 10,
            match c.heard with | .recognised _ _ (some n) => BitVec.ofNat 8 n | _ => 0] :
            List Byte) ++
          bytesThree c.received.toNat ++
          (BitVec.ofNat 8 c.groups.length :: c.groups.map (BitVec.ofNat 8)) ++ rest)))) ∧
      ∃ t, exec (.releaseCode (lineNo x)) s = .next t ∧
        t.bu.get x = { s.bu.get x with
          buffer0 := if older then (s.bu.get x).buffer0 else none
          buffer1 := if older then none else (s.bu.get x).buffer1
          overrun := false } ∧
        (∀ y, y ≠ x → t.bu.get y = s.bu.get y) ∧
        { t with bu := s.bu } = s.holding (replyBytes 0 63
          [BitVec.ofNat 8 ((s.bu.get x).buffer0.isSome.toNat +
            (s.bu.get x).buffer1.isSome.toNat - 1),
            BitVec.ofNat 8 (s.bu.get x).overrun.toNat])) ∧
    ((s.bu.get x).buffer0 = none → (s.bu.get x).buffer1 = none →
      exec (.readCode (lineNo x)) s = .next (s.holding (replyBytes 8 39 [])) ∧
      exec (.releaseCode (lineNo x)) s = .next (s.holding (replyBytes 8 63 []))) ∧
    (∀ n, 3 ≤ n → exec (.readCode n) s = .next (s.holding (replyBytes 4 39 [1])) ∧
      exec (.releaseCode n) s = .next (s.holding (replyBytes 4 63 [1])))

/-- R162, R190, R194: READ_TRAIN: a live record in its layout; a free record and a number out of range are
refused. LIST_TRAINS: the shared count, the reserve records and every live record in ascending order.
The bytes of an absent description, of an absent stamp and after a pattern's groups are bytes no rule
gives a value (log 11). -/
def Obligations.TrainRecordsAreReadAndListed : Prop :=
  (∀ s : State, s.portFree →
     (∀ (r : TrainId) (v : Train), s.trt.records[r] = some v →
       ∃ (name : List Byte) (stamp : Fin 6 → List Byte) (groups : List Byte),
         name.length = 4 ∧ (∀ d, v.description = some d → name = [d.c1, d.c2, d.c3, d.c4]) ∧
         (∀ i, (stamp i).length = 3) ∧
         (∀ c, v.stamps.offeredIn = some c → stamp 0 = bytesThree c.toNat) ∧
         (∀ c, v.stamps.enteredIn = some c → stamp 1 = bytesThree c.toNat) ∧
         (∀ c, v.stamps.arrived = some c → stamp 2 = bytesThree c.toNat) ∧
         (∀ c, v.stamps.offeredOut = some c → stamp 3 = bytesThree c.toNat) ∧
         (∀ c, v.stamps.enteredOut = some c → stamp 4 = bytesThree c.toNat) ∧
         (∀ c, v.stamps.clearedOut = some c → stamp 5 = bytesThree c.toNat) ∧
         (∃ rest : List Byte,
           groups = (v.offerHeard.getD []).map (BitVec.ofNat 8) ++ rest ∧
           rest.length = 6 - (v.offerHeard.getD []).length) ∧
         exec (.readTrain (r.val + 1)) s = .next (s.holding (replyBytes 0 40
           (([BitVec.ofNat 8 (r.val + 1), BitVec.ofNat 8 v.trainClass] : List Byte) ++ name ++
           ([match v.arrivalLine with | some .a => 0 | some .b => 1 | some .c => 2 | none => 255,
             match v.inbound with
               | .none => 0 | .offered => 1 | .accepted => 2 | .inSection => 3 | .arrived => 4
               | .cleared => 5,
             match v.outbound with
               | .none => 0 | .offered => 1 | .accepted => 2 | .inSection => 3 | .cleared => 5,
             match v.destination with
               | .undecided => 0 | .localBox => 1 | .line .a => 2 | .line .b => 3 | .line .c => 4,
             BitVec.ofNat 8 (v.tailSeen.toNat + 2 * v.berthSeen.toNat + 4 * v.unannounced.toNat +
               8 * v.withdrawn.toNat + 16 * v.lapsed.toNat + 32 * v.description.isSome.toNat),
             BitVec.ofNat 8 (v.stamps.offeredIn.isSome.toNat + 2 * v.stamps.enteredIn.isSome.toNat +
               4 * v.stamps.arrived.isSome.toNat + 8 * v.stamps.offeredOut.isSome.toNat +
               16 * v.stamps.enteredOut.isSome.toNat + 32 * v.stamps.clearedOut.isSome.toNat)] :
             List Byte) ++
           stamp 0 ++ stamp 1 ++ stamp 2 ++ stamp 3 ++ stamp 4 ++ stamp 5 ++
           bytesTwo (v.inLapse.getD 0) ++ bytesTwo (v.outLapse.getD 0) ++
           BitVec.ofNat 8 (v.offerHeard.getD []).length :: groups)))) ∧
     (∀ r : TrainId, s.trt.records[r] = none →
       exec (.readTrain (r.val + 1)) s = .next (s.holding (replyBytes 8 40 []))) ∧
     (∀ n, n = 0 ∨ 12 < n → exec (.readTrain n) s = .next (s.holding (replyBytes 4 40 [1])))) ∧
  (∀ (s : State) (live : List TrainId) (free : List TrainId), s.portFree →
     live.Pairwise (fun i j => i.val < j.val) → (∀ r, r ∈ live ↔ s.trt.records[r] ≠ none) →
     free.Nodup → (∀ r, r ∈ free ↔ r.val < 9 ∧ s.trt.records[r] = none) →
     exec .listTrains s = .next (s.holding (replyBytes 0 41
       (BitVec.ofNat 8 free.length ::
         BitVec.ofNat 8 (s.trt.records[(9 : TrainId)].isSome.toNat +
           2 * s.trt.records[(10 : TrainId)].isSome.toNat +
           4 * s.trt.records[(11 : TrainId)].isSome.toNat) ::
         BitVec.ofNat 8 live.length ::
         live.flatMap fun r => match s.trt.records[r] with
           | none => []
           | some v =>
             ([BitVec.ofNat 8 (r.val + 1),
               match v.inbound with
                 | .none => 0 | .offered => 1 | .accepted => 2 | .inSection => 3 | .arrived => 4
                 | .cleared => 5,
               match v.outbound with
                 | .none => 0 | .offered => 1 | .accepted => 2 | .inSection => 3 | .cleared => 5,
               match v.arrivalLine with
                 | some .a => 0 | some .b => 1 | some .c => 2 | none => 255,
               match v.destination with
                 | .undecided => 0 | .localBox => 1 | .line .a => 2 | .line .b => 3
                 | .line .c => 4] : List Byte)))))

/-! ### Bell codes -/

/-- R119, R120: what SEND_CODE and ACKNOWLEDGE answer, in the order of their rules, and the send they
take. The place of the argument refused is log 10's. R115: the length D of a send, and the level on
BELL_OUT at every tick: high for ON ticks at each beat, the beats of a group INTRA apart and the groups
GROUP apart, the first beat from the start tick and the last until D ticks after it, low at every other
time (the wrap of the tick count is log 4's, the timing set in use log 40's). R126, R199: the level on
INSTR_OUT. -/
def Obligations.HostSendsFollowTheirOrder : Prop :=
  (∀ (s : State) (x : Line),
    ((s.bu.get x).sender = none → s.bellOut x = false) ∧
    (∀ send, (s.bu.get x).sender = some send →
      let t := s.cfg.timing
      let now := (s.tb.tickCount - send.start).toNat
      s.bellOut x = true ↔ now < 2147483648 ∧ ∃ before c after beat,
        send.groups = before ++ c :: after ∧ beat < c ∧
        let rise := (before.sum + beat) * t.on +
          ((before.map fun g => g - 1).sum + beat) * t.intra + before.length * t.group
        rise ≤ now ∧ now < rise + t.on) ∧
    (s.instrOutP x = true ↔ (s.blc.get x).inInstrument = .clear) ∧
    (s.instrOutN x = true ↔ (s.blc.get x).inInstrument = .onLine) ∧
    ¬(s.instrOutP x = true ∧ s.instrOutN x = true)) ∧
  (∀ (t : Timing) (groups : List Nat), (∀ g ∈ groups, 1 ≤ g) → sendLength t groups =
    groups.sum * t.on + (groups.sum - groups.length) * t.intra +
      (groups.length - 1) * t.group) ∧
  (∀ (t : Timing) (before : List Nat) (c : Nat), sendLength t (before ++ [c + 1]) =
    (before.sum + c) * t.on + ((before.map fun g => g - 1).sum + c) * t.intra +
      before.length * t.group + t.on) ∧
  ∀ s : State, s.portFree →
    (s.device = .config →
      (∀ n m, exec (.sendCode n m) s = .next (s.holding (replyBytes 5 58 []))) ∧
      (∀ n, exec (.acknowledge n) s = .next (s.holding (replyBytes 5 57 [])))) ∧
    (s.device = .service →
      (∀ n m, 3 ≤ n → exec (.sendCode n m) s = .next (s.holding (replyBytes 4 58 [1]))) ∧
      (∀ n, 3 ≤ n → exec (.acknowledge n) s = .next (s.holding (replyBytes 4 57 [1]))) ∧
      ∀ x,
        (∀ m, 32 ≤ m →
          exec (.sendCode (lineNo x) m) s = .next (s.holding (replyBytes 4 58 [2]))) ∧
        (∀ c : CodeId, s.cfg.codes[c] = none →
          exec (.sendCode (lineNo x) c.val) s = .next (s.holding (replyBytes 8 58 []))) ∧
        (∀ (c : CodeId) (e : CodeEntry), s.cfg.codes[c] = some e →
          let refused := e.sendable = false ∨ e.meaning = .offer ∨ e.meaning = .outOfSection ∨
            e.meaning = .cancel ∨ (e.meaning = .entering ∧ s.trt.owed.get x = false)
          (refused →
            exec (.sendCode (lineNo x) c.val) s = .next (s.holding (replyBytes 4 58 [2]))) ∧
          (¬refused → 255 ≤ (s.blc.get x).count →
            exec (.sendCode (lineNo x) c.val) s = .next (s.holding (replyBytes 5 58 []))) ∧
          (¬refused → (s.blc.get x).count < 255 → (s.bu.get x).sender ≠ none →
            exec (.sendCode (lineNo x) c.val) s = .next (s.holding (replyBytes 1 58 []))) ∧
          (¬refused → (s.blc.get x).count < 255 → (s.bu.get x).sender = none →
            ∃ t, exec (.sendCode (lineNo x) c.val) s = .next t ∧
              SendTaken x (e.pattern.map fun g => g.count) (some c) (some e.meaning) s t ∧
              { t with bu := s.bu, au := s.au } = s.holding (replyBytes 0 58
                (bytesTwo (sendLength s.cfg.timing (e.pattern.map fun g => g.count)))))) ∧
        (255 ≤ (s.blc.get x).count →
          exec (.acknowledge (lineNo x)) s = .next (s.holding (replyBytes 5 57 []))) ∧
        ((s.blc.get x).count < 255 → (s.bu.get x).lastRecognised = none →
          exec (.acknowledge (lineNo x)) s = .next (s.holding (replyBytes 8 57 []))) ∧
        (∀ c, (s.blc.get x).count < 255 → (s.bu.get x).lastRecognised = some c →
          ((s.bu.get x).sender ≠ none →
            exec (.acknowledge (lineNo x)) s = .next (s.holding (replyBytes 1 57 []))) ∧
          ((s.bu.get x).sender = none → ∃ t, exec (.acknowledge (lineNo x)) s = .next t ∧
            SendTaken x c.groups none none s t ∧
            { t with bu := s.bu, au := s.au } = s.holding (replyBytes 0 57
              (BitVec.ofNat 8 c.groups.length :: c.groups.map (BitVec.ofNat 8) ++
                bytesTwo (sendLength s.cfg.timing c.groups))))))

/-- R106, R108, R110 to R112, R121, R130: a code that ends is judged against the table, compared with the
expected repetition, kept as the last recognised code in SERVICE, and offered to the buffer of the
write turn. In CONFIG and on a SUSPENDED line nothing is handed to any other block. In SERVICE on any
other line a recognised code is handed to the Train Record Table (ReceivedCodesAreJudgedByTheHalves says
what that does), whose answer is the OUT_OF_TURN mark of the stored code; any other code steps the fault
count by 8. -/
def Obligations.CodeEndStoresWhatWasHeard : Prop :=
  ∀ (s : State) (x : Line) (c : Assembly), (s.bu.get x).code = some c →
    reached s.tb.tickCount c.endTick = true →
    ∃ t heard outOfTurn, exec (.codeEnd x) s = .next t ∧
      (heard = .malformed ↔ c.held = true ∨ c.overflow = true) ∧
      (∀ i m cls, heard = .recognised i m cls ↔ c.held = false ∧ c.overflow = false ∧
        ∃ e, s.cfg.codes[i] = some e ∧ entryHears e c.groups ∧ e.meaning = m ∧
          e.trainClass = cls ∧
          ∀ (j : CodeId) (f : CodeEntry), j.val < i.val → s.cfg.codes[j] = some f →
            ¬entryHears f c.groups) ∧
      (let old := s.bu.get x
      let isRepetition := heard ≠ .malformed ∧ ∃ e, old.expected = some e ∧ e.groups = c.groups
      let into := if old.turn then old.buffer1 else old.buffer0
      let stored : StoredCode :=
        ⟨c.groups, heard, c.held, c.overflow, outOfTurn, decide isRepetition, s.tb.clock⟩
      let expected := if isRepetition then none else old.expected
      let last := match heard with
        | .recognised i _ _ => if s.device = .service then some ⟨c.groups, i⟩
          else old.lastRecognised
        | _ => old.lastRecognised
      (into = none → t.bu.get x = { old with
        code := none, expected := expected, lastRecognised := last, turn := !old.turn
        buffer0 := if old.turn then old.buffer0 else some stored
        buffer1 := if old.turn then some stored else old.buffer1 }) ∧
      (into ≠ none → t.bu.get x = { old with
          code := none, expected := expected, lastRecognised := last, overrun := true } ∧
        t.au[Source.id (.line x)].pending = true ∧
        t.au[Source.id (.line x)].detail = some (.lineCause .overrun)) ∧
      (s.device = .config ∨ 255 ≤ (s.blc.get x).count → outOfTurn = false ∧
        (into = none → { t with bu := s.bu } = s) ∧
        (into ≠ none → { t with bu := s.bu, au := s.au } = s)) ∧
      -- in SERVICE, on a line that is not SUSPENDED
      (s.device = .service → (s.blc.get x).count < 255 →
        let stripped := { s with bu := s.bu.set x { old with code := none, expected := expected } }
        let count := min 255 ((s.blc.get x).count + 8)
        (∀ i m cls, heard = .recognised i m cls →
          let r := takeReceivedCode ⟨x, m, cls, c.groups, decide isRepetition, s.tb.clock⟩ stripped
          outOfTurn = r.2 ∧ t.trt = r.1.trt ∧ t.blc = r.1.blc ∧ t.ht = r.1.ht ∧
          (into = none → t.au = r.1.au) ∧
          (into ≠ none → Latched (.line x) (.lineCause .overrun) r.1 t)) ∧
        (heard = .unrecognised ∨ heard = .malformed → outOfTurn = false ∧
          t.blc = s.blc.set x { s.blc.get x with count := count } ∧ t.trt = s.trt ∧
          (∀ h : HoldId, h ≠ blockEntry x → t.ht[h] = s.ht[h]) ∧
          (count < 255 → t.ht = s.ht) ∧
          (255 ≤ count → ∀ l, (s.cfg.lines.get x).starter = some l → t.ht[blockEntry x] =
            match s.ht[blockEntry x] with
              | none => some ⟨.block x, l, .normal, s.tb.clock⟩
              | some hold => some hold) ∧
          (into = none → ((s.blc.get x).count < 96 ∧ 96 ≤ count ∨ 255 ≤ count →
              Latched (.line x) (.lineCause .health) s t) ∧
            (¬((s.blc.get x).count < 96 ∧ 96 ≤ count ∨ 255 ≤ count) → t.au = s.au))))) ∧
      (∀ y, y ≠ x → t.bu.get y = s.bu.get y) ∧ t.cfg = s.cfg ∧ t.tb = s.tb ∧ t.device = s.device ∧
      t.sbc = s.sbc ∧ t.tcm = s.tcm ∧ t.llu = s.llu ∧ t.ru = s.ru ∧ t.cp = s.cp

/-- R145 to R149, R111, R130: a recognised code in SERVICE on a line that is not SUSPENDED is judged by
the line's halves and the step it earns is taken: a repetition and the codes of R149 move no record; an
OFFER creates a record, ENTERING, OUT_OF_SECTION and CANCEL move the half they speak of, and each is out
of turn on any other. -/
def Obligations.ReceivedCodesAreJudgedByTheHalves : Prop :=
  ∀ (s : State) (c : ReceivedCode), HalvesLaw s → s.device = .service →
    (s.blc.get c.line).count < 255 →
    let r := takeReceivedCode c s
    let x := c.line
    let inTurn := r.2 = false ∧ (r.1.blc.get x).count = (s.blc.get x).count - 1
    let outOfTurn := r.2 = true ∧ (r.1.blc.get x).count = min 255 ((s.blc.get x).count + 4) ∧
      r.1.trt = s.trt
    (c.repetition = true → inTurn ∧ r.1.trt = s.trt ∧
      (r.1.blc.get x).obstruction = (s.blc.get x).obstruction) ∧
    (c.repetition = false →
      (c.meaning = .callAttention ∨ c.meaning = .testing ∨ c.meaning = .information →
        inTurn ∧ r.1.trt = s.trt ∧ r.1.ht = s.ht) ∧
      (c.meaning = .obstructionDanger →
        inTurn ∧ r.1.trt = s.trt ∧ (r.1.blc.get x).obstruction = true) ∧
      (c.meaning = .obstructionRemoved →
        inTurn ∧ r.1.trt = s.trt ∧ (r.1.blc.get x).obstruction = false) ∧
      (c.meaning = .offer → (∃ q, inboundOn s q x) → outOfTurn) ∧
      (c.meaning = .offer → (∀ q, ¬inboundOn s q x) →
        (∀ q : TrainId, q.val < 9 ∨ q = reserveRecord x → s.trt.records[q] ≠ none) →
        outOfTurn ∧ r.1.au[Source.id .pool].pending = true ∧
          r.1.au[Source.id .pool].detail = some (.line x)) ∧
      (∀ q : TrainId, c.meaning = .offer → (∀ p, ¬inboundOn s p x) → s.trt.records[q] = none →
        q.val < 9 ∨ q = reserveRecord x →
        (∀ p : TrainId, p.val < q.val → p.val < 9 → s.trt.records[p] ≠ none) →
        inTurn ∧ r.1.au[Source.id .train].detail = some (.record q) ∧
          (∀ p : TrainId, p ≠ q → r.1.trt.records[p] = s.trt.records[p]) ∧
          ∃ v, r.1.trt.records[q] = some v ∧ v.trainClass = c.trainClass.getD 0 ∧
            v.arrivalLine = some x ∧ v.offerHeard = some c.groups ∧ v.inbound = .offered ∧
            v.outbound = .none ∧ v.destination = .undecided ∧
            v.stamps = ⟨some c.received, none, none, none, none, none⟩ ∧
            v.inLapse = some (s.cfg.lines.get x).lapse ∧ v.outLapse = none ∧
            v.description = none ∧ v.tailSeen = false ∧ v.berthSeen = false ∧
            v.unannounced = false ∧ v.withdrawn = false ∧ v.lapsed = false) ∧
      (c.meaning = .entering → (∀ q v, s.trt.records[q] = some v → inboundOn s q x →
        v.inbound ≠ .accepted) → outOfTurn) ∧
      (∀ (q : TrainId) (v : Train), c.meaning = .entering → s.trt.records[q] = some v →
        v.arrivalLine = some x → v.inbound = .accepted →
        inTurn ∧ (r.1.blc.get x).inInstrument = .onLine ∧
          (∀ p : TrainId, p ≠ q → r.1.trt.records[p] = s.trt.records[p]) ∧
          r.1.trt.records[q] = some { v with
            inbound := .inSection, stamps := { v.stamps with enteredIn := some c.received } }) ∧
      (c.meaning = .outOfSection → (∀ q v, s.trt.records[q] = some v → outboundOn s q x →
        v.outbound ≠ .inSection) → outOfTurn) ∧
      (∀ (q : TrainId) (v : Train), c.meaning = .outOfSection → s.trt.records[q] = some v →
        v.destination = .line x → v.outbound = .inSection →
        inTurn ∧ (r.1.blc.get x).standing = .none ∧ r.1.trt.owed.get x = false ∧
          (∀ p : TrainId, p ≠ q → r.1.trt.records[p] = s.trt.records[p]) ∧
          ((v.inbound = .none ∨ v.inbound = .cleared) → r.1.trt.records[q] = none) ∧
          (¬(v.inbound = .none ∨ v.inbound = .cleared) → r.1.trt.records[q] = some { v with
            outbound := .cleared
            stamps := { v.stamps with clearedOut := some c.received } })) ∧
      (c.meaning = .cancel → (∀ q v, s.trt.records[q] = some v → inboundOn s q x →
        v.inbound ≠ .offered ∧ v.inbound ≠ .accepted) → outOfTurn) ∧
      (∀ (q : TrainId) (v : Train), c.meaning = .cancel → s.trt.records[q] = some v →
        v.arrivalLine = some x → v.inbound = .offered ∨ v.inbound = .accepted →
        inTurn ∧ (r.1.blc.get x).inInstrument = .blocked ∧
          (∀ p : TrainId, p ≠ q → r.1.trt.records[p] = s.trt.records[p]) ∧
          ((v.outbound = .none ∨ v.outbound = .cleared) → r.1.trt.records[q] = none) ∧
          (¬(v.outbound = .none ∨ v.outbound = .cleared) →
            r.1.trt.records[q] = some { v with inbound := .none, inLapse := none }) ∧
          (v.inbound = .accepted → ∀ (h : HoldId) (hold : Hold), r.1.ht[h] = some hold →
            hold.kind ≠ .clearing x))) ∧
    r.1.bu = s.bu ∧ r.1.cfg = s.cfg ∧ r.1.tb = s.tb ∧ r.1.device = s.device ∧ r.1.sbc = s.sbc ∧
    r.1.tcm = s.tcm ∧ r.1.llu = s.llu ∧ r.1.ru = s.ru ∧ r.1.cp = s.cp

/-- R116, R121, R152: at the send completion the groups sent become the expected repetition with 300
tenths, the sender becomes IDLE, and ENTERING owed is cleared by an ENTERING and set when a pending one
is dropped (both at once: log 20); on an ACTIVE line the pending ENTERING is taken at once. -/
def Obligations.SendCompletionSetsTheExpectation : Prop :=
  ∀ (s : State) (x : Line) (send : Send), (s.bu.get x).sender = some send →
    reached s.tb.tickCount (send.start + BitVec.ofNat 32 send.length) = true →
    let cleared := if send.meaning = some .entering then false else s.trt.owed.get x
    let idle : BellUnit := { s.bu.get x with
      sender := none, pendingEntering := false, expected := some ⟨send.groups, 300⟩ }
    ((s.bu.get x).pendingEntering = false → exec (.sendCompletion x) s = .next { s with
      bu := s.bu.set x idle, trt := { s.trt with owed := s.trt.owed.set x cleared } }) ∧
    ((s.bu.get x).pendingEntering = true → 96 ≤ (s.blc.get x).count →
      exec (.sendCompletion x) s = .next { s with
        bu := s.bu.set x idle, trt := { s.trt with owed := s.trt.owed.set x true } }) ∧
    (∀ c e, (s.bu.get x).pendingEntering = true → (s.blc.get x).count < 96 →
      lowestSendable s .entering none c e →
      ∃ t, exec (.sendCompletion x) s = .next t ∧
        SendTaken x (e.pattern.map fun g => g.count) (some c) (some .entering)
          { s with bu := s.bu.set x idle } t ∧
        { t with bu := s.bu, au := s.au } =
          { s with trt := { s.trt with owed := s.trt.owed.set x cleared } })

/-- R117, R121, R122: at the end of the blanking, sampling resumes with that tick's sample (log 27); at
the repetition deadline the expectation is cleared, UNACKNOWLEDGED set and LINE_x latched. -/
def Obligations.BlankingAndDeadlineComeToTheirEnds : Prop :=
  ∀ (s : State) (x : Line),
    (∀ (due : Tick) (bellIn : Bool), (s.bu.get x).blankUntil = some due →
      reached s.tb.tickCount due = true → (s.bu.get x).level = false →
      (s.bu.get x).candidate = none →
      exec (.blankingEnd x bellIn) s = .next { s with
        bu := s.bu.set x { s.bu.get x with
          blankUntil := none, candidate := if bellIn then some s.tb.tickCount else none } }) ∧
    (∀ groups, (s.bu.get x).expected = some ⟨groups, 0⟩ →
      ∃ t, exec (.repetitionDeadlineExpiry x) s = .next t ∧
        t.bu = s.bu.set x { s.bu.get x with expected := none, unacknowledged := true } ∧
        Latched (.line x) (.lineCause .unacknowledged) s t ∧
        { t with bu := s.bu, au := s.au } = s) ∧
    (∀ groups n, (s.bu.get x).expected = some ⟨groups, n + 1⟩ →
      exec (.repetitionDeadlineExpiry x) s = .next s)

/-! ### Block lines -/

/-- R127 to R129, R151: a run of 40 settles. In CONFIG that is all. In SERVICE a change of the OUT
instrument state is judged by the line's outbound half, moves it, steps the count and re-judges the
block hold; an invalid reading steps the count by 4. CLEAR with the half ACCEPTED is left out: log 21. -/
def Obligations.SettlingIsAdoptedInService : Prop :=
  ∀ (s : State) (x : Line) (r : RawReading) (n : Nat), HalvesLaw s →
    (s.blc.get x).candidate = some (r, n) → 40 ≤ n →
    ∃ t, exec (.instrumentSettling x) s = .next t ∧
      (t.blc.get x).settled = r ∧ (t.blc.get x).candidate = none ∧
      (t.blc.get x).obstruction = (s.blc.get x).obstruction ∧
      (t.blc.get x).inInstrument = (s.blc.get x).inInstrument ∧
      (∀ y, y ≠ x → t.blc.get y = s.blc.get y) ∧
      t.bu = s.bu ∧ t.cfg = s.cfg ∧ t.tb = s.tb ∧ t.device = s.device ∧ t.sbc = s.sbc ∧
      t.tcm = s.tcm ∧ t.llu = s.llu ∧ t.ru = s.ru ∧ t.cp = s.cp ∧ t.trt.owed = s.trt.owed ∧
      (s.device = .config → { t with blc := s.blc } = s ∧
        t.blc.get x = { s.blc.get x with settled := r, candidate := none }) ∧
      (s.device = .service →
        let old := outStateOf (s.blc.get x).settled
        let new := outStateOf r
        let count := (s.blc.get x).count
        let invalid := if r = .both then 4 else 0
        let kept := t.trt = s.trt ∧ (t.blc.get x).standing = (s.blc.get x).standing
        (old = new → r ≠ .both → { t with blc := s.blc } = s ∧
          (t.blc.get x).count = count ∧ kept) ∧
        (old ≠ new → t.au[Source.id (.line x)].pending = true ∧
          t.au[Source.id (.line x)].detail =
            some (.lineCause (if r = .both then .invalid else .instrument))) ∧
        (r = .both → t.au[Source.id (.line x)].pending = true ∧
          t.au[Source.id (.line x)].detail = some (.lineCause .invalid)) ∧
        (255 ≤ count → kept ∧ (t.blc.get x).count = count) ∧
        (old = new → count < 255 → kept ∧ (t.blc.get x).count = min 255 (count + invalid)) ∧
        (∀ (q : TrainId) (v : Train), old ≠ new → count < 255 → s.trt.records[q] = some v →
          v.destination = .line x →
          (new = .clear → v.outbound = .offered → (s.blc.get x).obstruction = false →
            t.trt.records[q] = some { v with outbound := .accepted, outLapse := none } ∧
            (∀ p : TrainId, p ≠ q → t.trt.records[p] = s.trt.records[p]) ∧
            (t.blc.get x).standing = .accepted ∧ (t.blc.get x).count = count ∧
            t.ht[blockEntry x] = none ∧ t.au[Source.id .train].detail = some (.record q)) ∧
          (new = .clear → v.outbound = .offered → (s.blc.get x).obstruction = true →
            kept ∧ (t.blc.get x).count = count) ∧
          (new = .clear → v.outbound = .inSection →
            kept ∧ (t.blc.get x).count = min 255 (count + 4)) ∧
          (new = .onLine → v.outbound = .offered →
            kept ∧ (t.blc.get x).count = min 255 (count + 4)) ∧
          (new = .onLine → v.outbound = .inSection → kept ∧ (t.blc.get x).count = count) ∧
          (new = .blocked → v.outbound = .offered ∨ v.outbound = .inSection →
            kept ∧ (t.blc.get x).count = min 255 (count + invalid)) ∧
          (new ≠ .clear → v.outbound = .accepted →
            t.trt.records[q] = some { v with
              outbound := .offered, withdrawn := true
              outLapse := some (s.cfg.lines.get x).lapse } ∧
            (∀ p : TrainId, p ≠ q → t.trt.records[p] = s.trt.records[p]) ∧
            (t.blc.get x).standing = .offered ∧
            (t.blc.get x).count =
              min 255 (count + if new = .onLine then 4 else invalid) ∧
            ((s.cfg.lines.get x).starter ≠ none → t.ht[blockEntry x] ≠ none) ∧
            t.au[Source.id .train].detail = some (.record q))) ∧
        (old ≠ new → count < 255 → (∀ q, ¬outboundOn s q x) → kept ∧
          (t.blc.get x).count =
            min 255 (count + if new = .blocked then invalid else 4)))

/-- R132, R133: RESTORE_LINE starts the quiet wait of a SUSPENDED line afresh and is refused elsewhere;
at its end the count is 0, LINE_x is latched HEALTH and the block hold follows the block condition. -/
def Obligations.QuietWaitRestoresASuspendedLine : Prop :=
  ∀ s : State,
    (s.portFree →
      (∀ n, s.device = .config → exec (.restoreLine n) s = .next (s.holding (replyBytes 5 62 []))) ∧
      (∀ n, s.device = .service → 3 ≤ n →
        exec (.restoreLine n) s = .next (s.holding (replyBytes 4 62 [1]))) ∧
      (∀ x, s.device = .service → (s.blc.get x).count < 255 →
        exec (.restoreLine (lineNo x)) s = .next (s.holding (replyBytes 5 62 []))) ∧
      (∀ x, s.device = .service → 255 ≤ (s.blc.get x).count →
        exec (.restoreLine (lineNo x)) s = .next (State.holding { s with
          blc := s.blc.set x { s.blc.get x with quiet := some (s.tb.tickCount + 2000) } }
          (replyBytes 0 62 (bytesTwo 2000))))) ∧
    (∀ x due, (s.blc.get x).quiet = some due → reached s.tb.tickCount due = true →
      ∃ t, exec (.quietWaitEnd x) s = .next t ∧
        t.blc = s.blc.set x { s.blc.get x with count := 0, quiet := none } ∧
        Latched (.line x) (.lineCause .health) s t ∧
        (let free := outStateOf (s.blc.get x).settled = .clear ∧
          (s.blc.get x).obstruction = false ∧ (s.blc.get x).standing = .accepted
        (s.device = .service → free → t.ht[blockEntry x] = none) ∧
        (¬free → ∀ l, s.device = .service → (s.cfg.lines.get x).starter = some l →
          t.ht[blockEntry x] = match s.ht[blockEntry x] with
            | none => some ⟨.block x, l, .normal, s.tb.clock⟩
            | some hold => some hold) ∧
        (s.device = .config → t.ht = s.ht) ∧
        (∀ h : HoldId, h ≠ blockEntry x → t.ht[h] = s.ht[h])) ∧
        { t with blc := s.blc, ht := s.ht, au := s.au } = s)

/-! ### Train records -/

/-- R159, R161: a lapse ends the half that is still OFFERED, sets LAPSED, latches TRAIN and makes the
retirement check; an outbound lapse also clears the destination and the line's standing. -/
def Obligations.LapseEndsTheOfferedHalf : Prop :=
  ∀ (s : State) (r : TrainId) (v : Train), s.trt.records[r] = some v →
    (v.inLapse = some 0 → v.inbound = .offered → ∃ t, exec (.lapseExpiry r .inbound) s = .next t ∧
      (v.outbound = .cleared ∨ (v.outbound = .none ∧ v.arrivalLine ≠ none) →
        t.trt.records[r] = none) ∧
      (¬(v.outbound = .cleared ∨ (v.outbound = .none ∧ v.arrivalLine ≠ none)) →
        t.trt.records[r] = some { v with inbound := .none, inLapse := none, lapsed := true }) ∧
      (∀ q : TrainId, q ≠ r → t.trt.records[q] = s.trt.records[q]) ∧ t.trt.owed = s.trt.owed ∧
      (∀ x, v.arrivalLine = some x →
        t.blc = s.blc.set x { s.blc.get x with inInstrument := .blocked }) ∧
      t.au[Source.id .train].pending = true ∧ t.au[Source.id .train].detail = some (.record r) ∧
      (∀ i : SourceId, i ≠ Source.id .train → t.au[i] = s.au[i]) ∧
      { t with trt := s.trt, blc := s.blc, au := s.au } = s) ∧
    (v.outLapse = some 0 → v.outbound = .offered →
      ∃ t, exec (.lapseExpiry r .outbound) s = .next t ∧
      (v.inbound = .none ∧ v.arrivalLine ≠ none → t.trt.records[r] = none) ∧
      (¬(v.inbound = .none ∧ v.arrivalLine ≠ none) → t.trt.records[r] = some { v with
        outbound := .none, outLapse := none, destination := .undecided, lapsed := true }) ∧
      (∀ q : TrainId, q ≠ r → t.trt.records[q] = s.trt.records[q]) ∧ t.trt.owed = s.trt.owed ∧
      (∀ x, v.destination = .line x →
        t.blc = s.blc.set x { s.blc.get x with standing := .none } ∧
        (s.ht[blockEntry x] ≠ none → t.ht = s.ht)) ∧
      t.au[Source.id .train].pending = true ∧ t.au[Source.id .train].detail = some (.record r) ∧
      (∀ i : SourceId, i ≠ Source.id .train → t.au[i] = s.au[i]) ∧
      { t with trt := s.trt, blc := s.blc, au := s.au, ht := s.ht } = s)

/-- R160, R161: CREATE_TRAIN, SET_DESTINATION and RETIRE_TRAIN: their refusals in order, the record
made, the destination set with the retirement check, the record freed. The places are log 10's. -/
def Obligations.LocalTrainsAreCreatedDirectedAndRetired : Prop :=
  ∀ s : State, s.portFree →
    (s.device = .config →
      (∀ n d, exec (.createTrain n d) s = .next (s.holding (replyBytes 5 52 []))) ∧
      (∀ n d, exec (.setDestination n d) s = .next (s.holding (replyBytes 5 53 []))) ∧
      (∀ n, exec (.retireTrain n) s = .next (s.holding (replyBytes 5 54 [])))) ∧
    (s.device = .service →
      (∀ n d, n = 0 ∨ 15 < n →
        exec (.createTrain n d) s = .next (s.holding (replyBytes 4 52 [1]))) ∧
      (∀ n d, 1 ≤ n → n ≤ 15 →
        ((∀ r : TrainId, r.val < 9 → s.trt.records[r] ≠ none) →
          ∃ t, exec (.createTrain n d) s = .next t ∧ Latched .pool .host s t ∧
            { t with au := s.au } = s.holding (replyBytes 7 52 [])) ∧
        (∀ r : TrainId, r.val < 9 → s.trt.records[r] = none →
          (∀ q : TrainId, q.val < r.val → s.trt.records[q] ≠ none) →
          ∃ t, exec (.createTrain n d) s = .next t ∧
            t.trt.records[r] = some
              { trainClass := n, description := d, arrivalLine := none, offerHeard := none
                inbound := .none, tailSeen := false, berthSeen := false, destination := .undecided
                outbound := .none, stamps := ⟨none, none, none, none, none, none⟩
                inLapse := none, outLapse := none, unannounced := false, withdrawn := false
                lapsed := false } ∧
            (∀ q : TrainId, q ≠ r → t.trt.records[q] = s.trt.records[q]) ∧
            t.trt.owed = s.trt.owed ∧
            { t with trt := s.trt } =
              s.holding (replyBytes 0 52 [BitVec.ofNat 8 (r.val + 1)]))) ∧
      (∀ n d, n = 0 ∨ 12 < n →
        exec (.setDestination n d) s = .next (s.holding (replyBytes 4 53 [1])) ∧
        exec (.retireTrain n) s = .next (s.holding (replyBytes 4 54 [1]))) ∧
      ∀ r : TrainId,
        (∀ d, 1 < d →
          exec (.setDestination (r.val + 1) d) s = .next (s.holding (replyBytes 4 53 [2]))) ∧
        (s.trt.records[r] = none →
          (∀ d, d ≤ 1 →
            exec (.setDestination (r.val + 1) d) s = .next (s.holding (replyBytes 8 53 []))) ∧
          exec (.retireTrain (r.val + 1)) s = .next (s.holding (replyBytes 8 54 []))) ∧
        (∀ v, s.trt.records[r] = some v →
          (∀ d, d ≤ 1 → v.outbound ≠ .none →
            exec (.setDestination (r.val + 1) d) s = .next (s.holding (replyBytes 5 53 []))) ∧
          (∀ d, d ≤ 1 → v.outbound = .none →
            let gone := (d = 1 ∧ v.inbound = .cleared) ∨ (v.inbound = .none ∧ v.arrivalLine ≠ none)
            ∃ t, exec (.setDestination (r.val + 1) d) s = .next t ∧
              (gone → t.trt.records[r] = none) ∧
              (¬gone → t.trt.records[r] = some { v with
                destination := if d = 1 then .localBox else .undecided }) ∧
              (∀ q : TrainId, q ≠ r → t.trt.records[q] = s.trt.records[q]) ∧
              t.trt.owed = s.trt.owed ∧
              { t with trt := s.trt } =
                s.holding (replyBytes 0 53 [if t.trt.records[r] = none then 1 else 0])) ∧
          (v.inbound = .offered ∨ v.inbound = .accepted ∨ v.inbound = .inSection ∨
              v.inbound = .arrived ∨ v.outbound = .offered ∨ v.outbound = .accepted ∨
              v.outbound = .inSection →
            exec (.retireTrain (r.val + 1)) s = .next (s.holding (replyBytes 5 54 []))) ∧
          (v.inbound = .none ∨ v.inbound = .cleared → v.outbound = .none ∨ v.outbound = .cleared →
            ∃ t, exec (.retireTrain (r.val + 1)) s = .next t ∧ t.trt.records[r] = none ∧
              (∀ q : TrainId, q ≠ r → t.trt.records[q] = s.trt.records[q]) ∧
              t.trt.owed = s.trt.owed ∧
              { t with trt := s.trt } = s.holding (replyBytes 0 54 []))))

/-- R150: OFFER: its refusals in order (the places are log 10's), and the offer taken: the lowest OFFER
entry of the class is sent, the outbound half becomes OFFERED with its stamp and its lapse deadline, the
standing is given and the block hold ensured. -/
def Obligations.OfferIsSentAndMirrored : Prop :=
  ∀ s : State, s.portFree →
    (∀ n m, s.device = .config → exec (.offer n m) s = .next (s.holding (replyBytes 5 55 []))) ∧
    (s.device = .service →
      (∀ n m, n = 0 ∨ 12 < n → exec (.offer n m) s = .next (s.holding (replyBytes 4 55 [1]))) ∧
      (∀ (r : TrainId) m, 3 ≤ m →
        exec (.offer (r.val + 1) m) s = .next (s.holding (replyBytes 4 55 [2]))) ∧
      (∀ (r : TrainId) x, s.trt.records[r] = none →
        exec (.offer (r.val + 1) (lineNo x)) s = .next (s.holding (replyBytes 8 55 []))) ∧
      (∀ (r : TrainId) (v : Train) (x : Line), s.trt.records[r] = some v →
        let answer := exec (.offer (r.val + 1) (lineNo x)) s
        let blocked := 255 ≤ (s.blc.get x).count ∨ (∃ q, outboundOn s q x) ∨ v.outbound ≠ .none
        (blocked → answer = .next (s.holding (replyBytes 5 55 []))) ∧
        (¬blocked → noneSendable s .offer (some v.trainClass) →
          answer = .next (s.holding (replyBytes 4 55 [1]))) ∧
        (∀ c e, ¬blocked → lowestSendable s .offer (some v.trainClass) c e →
          ((s.bu.get x).sender ≠ none → answer = .next (s.holding (replyBytes 1 55 []))) ∧
          ((s.bu.get x).sender = none → ∃ t, answer = .next t ∧
            SendTaken x (e.pattern.map fun g => g.count) (some c) (some .offer) s t ∧
            t.trt.records[r] = some { v with
              outbound := .offered, destination := .line x
              stamps := { v.stamps with offeredOut := some s.tb.clock }
              outLapse := some (s.cfg.lines.get x).lapse } ∧
            (∀ q : TrainId, q ≠ r → t.trt.records[q] = s.trt.records[q]) ∧
            t.trt.owed = s.trt.owed ∧
            t.blc = s.blc.set x { s.blc.get x with standing := .offered } ∧
            (∀ l, (s.cfg.lines.get x).starter = some l → t.ht[blockEntry x] =
              match s.ht[blockEntry x] with
                | none => some ⟨.block x, l, .normal, s.tb.clock⟩
                | some hold => some hold) ∧
            (∀ h : HoldId, h ≠ blockEntry x → t.ht[h] = s.ht[h]) ∧
            { t with bu := s.bu, au := s.au, trt := s.trt, blc := s.blc, ht := s.ht } =
              s.holding (replyBytes 0 55 (BitVec.ofNat 8 c.val ::
                bytesTwo (sendLength s.cfg.timing (e.pattern.map fun g => g.count))))))))

/-- R158, R161: CANCEL_OFFER: its refusals in order, and the cancellation taken: the lowest CANCEL
entry is sent, the outbound half becomes NONE with the destination UNDECIDED, the standing NONE, and
the retirement check follows. A missing CANCEL entry is log 19's. -/
def Obligations.CancelOfferWithdrawsTheOutboundHalf : Prop :=
  ∀ s : State, s.portFree →
    (∀ n, s.device = .config → exec (.cancelOffer n) s = .next (s.holding (replyBytes 5 61 []))) ∧
    (s.device = .service →
      (∀ n, n = 0 ∨ 12 < n → exec (.cancelOffer n) s = .next (s.holding (replyBytes 4 61 [1]))) ∧
      (∀ r : TrainId, s.trt.records[r] = none →
        exec (.cancelOffer (r.val + 1)) s = .next (s.holding (replyBytes 8 61 []))) ∧
      (∀ (r : TrainId) (v : Train), s.trt.records[r] = some v →
        v.outbound ≠ .offered → v.outbound ≠ .accepted →
        exec (.cancelOffer (r.val + 1)) s = .next (s.holding (replyBytes 5 61 []))) ∧
      (∀ (r : TrainId) (v : Train) (x : Line), s.trt.records[r] = some v →
        v.destination = .line x → v.outbound = .offered ∨ v.outbound = .accepted →
        let answer := exec (.cancelOffer (r.val + 1)) s
        (255 ≤ (s.blc.get x).count → answer = .next (s.holding (replyBytes 5 61 []))) ∧
        (∀ c e, (s.blc.get x).count < 255 → lowestSendable s .cancel none c e →
          ((s.bu.get x).sender ≠ none → answer = .next (s.holding (replyBytes 1 61 []))) ∧
          ((s.bu.get x).sender = none → ∃ t, answer = .next t ∧
            SendTaken x (e.pattern.map fun g => g.count) (some c) (some .cancel) s t ∧
            (v.inbound = .none ∧ v.arrivalLine ≠ none → t.trt.records[r] = none) ∧
            (¬(v.inbound = .none ∧ v.arrivalLine ≠ none) → t.trt.records[r] = some { v with
              outbound := .none, outLapse := none, destination := .undecided }) ∧
            (∀ q : TrainId, q ≠ r → t.trt.records[q] = s.trt.records[q]) ∧
            t.trt.owed = s.trt.owed ∧
            t.blc = s.blc.set x { s.blc.get x with standing := .none } ∧
            (∀ l, (s.cfg.lines.get x).starter = some l → t.ht[blockEntry x] =
              match s.ht[blockEntry x] with
                | none => some ⟨.block x, l, .normal, s.tb.clock⟩
                | some hold => some hold) ∧
            (∀ h : HoldId, h ≠ blockEntry x → t.ht[h] = s.ht[h]) ∧
            { t with bu := s.bu, au := s.au, trt := s.trt, blc := s.blc, ht := s.ht } =
              s.holding (replyBytes 0 61 [])))))

/-- R153, R67, R68, R70: ACCEPT: its refusals in order, the first failing condition or clearing lever by
its place, POOL with its latch, BUSY with the group retired again, and the acceptance: the clearing
holds in the lowest free shared entries, the repetition sent, the half ACCEPTED, the IN instrument CLEAR. -/
def Obligations.AcceptCreatesTheClearingHolds : Prop :=
  ∀ s : State, s.portFree →
    (∀ n d, s.device = .config → exec (.accept n d) s = .next (s.holding (replyBytes 5 56 []))) ∧
    (s.device = .service →
      (∀ n d, n = 0 ∨ 12 < n → exec (.accept n d) s = .next (s.holding (replyBytes 4 56 [1]))) ∧
      (∀ (r : TrainId) d, s.trt.records[r] = none →
        exec (.accept (r.val + 1) d) s = .next (s.holding (replyBytes 8 56 []))) ∧
      (∀ (r : TrainId) (v : Train) d, s.trt.records[r] = some v → v.inbound ≠ .offered →
        exec (.accept (r.val + 1) d) s = .next (s.holding (replyBytes 5 56 []))) ∧
      (∀ (r : TrainId) (v : Train) (x : Line) d, s.trt.records[r] = some v →
        v.inbound = .offered → v.arrivalLine = some x →
        let answer := exec (.accept (r.val + 1) d) s
        let line := s.cfg.lines.get x
        let shut := 255 ≤ (s.blc.get x).count ∨ (s.blc.get x).inInstrument ≠ .blocked
        let conditions := ∀ c ∈ line.conditions, s.condition s.recorded c = true
        let levers := ∀ e ∈ line.clearing, s.stands s.recorded e.1 e.2 = true
        let room := line.clearing.length ≤ (freeShared s.ht).length
        (shut → answer = .next (s.holding (replyBytes 5 56 []))) ∧
        (∀ before c after, ¬shut → line.conditions = before ++ c :: after →
          (∀ k ∈ before, s.condition s.recorded k = true) → s.condition s.recorded c = false →
          answer = .next (s.holding (replyBytes 6 56 [BitVec.ofNat 8 (before.length + 1)]))) ∧
        (∀ before e after, ¬shut → conditions → line.clearing = before ++ e :: after →
          (∀ k ∈ before, s.stands s.recorded k.1 k.2 = true) → s.stands s.recorded e.1 e.2 = false →
          answer = .next (s.holding (replyBytes 6 56 [BitVec.ofNat 8 (before.length + 13)]))) ∧
        (¬shut → conditions → levers → ¬room → ∃ t, answer = .next t ∧
          Latched .pool (.line x) s t ∧ { t with au := s.au } = s.holding (replyBytes 7 56 [])) ∧
        (¬shut → conditions → levers → room → (s.bu.get x).sender ≠ none →
          (∀ (h : HoldId) (hold : Hold), s.ht[h] = some hold → hold.kind ≠ .clearing x) →
          answer = .next (s.holding (replyBytes 1 56 []))) ∧
        (¬shut → conditions → levers → room → (s.bu.get x).sender = none →
          ∃ t numbers, answer = .next t ∧
            numbers = (freeShared s.ht).take line.clearing.length ∧
            (∀ (i : Nat) (h : HoldId) (e : LeverId × EndPos), numbers[i]? = some h →
              line.clearing[i]? = some e →
              t.ht[h] = some ⟨.clearing x, e.1, e.2, s.tb.clock⟩) ∧
            (∀ h : HoldId, h ∉ numbers → t.ht[h] = s.ht[h]) ∧
            SendTaken x (v.offerHeard.getD []) none none s t ∧
            t.trt.records[r] = some { v with
              inbound := .accepted, inLapse := none
              description := match d with | none => v.description | some w => some w } ∧
            (∀ q : TrainId, q ≠ r → t.trt.records[q] = s.trt.records[q]) ∧
            t.trt.owed = s.trt.owed ∧
            t.blc = s.blc.set x { s.blc.get x with inInstrument := .clear } ∧
            { t with bu := s.bu, au := s.au, trt := s.trt, blc := s.blc, ht := s.ht } =
              s.holding (replyBytes 0 56 (BitVec.ofNat 8 line.clearing.length ::
                numbers.map (fun h => BitVec.ofNat 8 h.val) ++
                  bytesTwo (sendLength s.cfg.timing (v.offerHeard.getD [])))))))

/-- R155, R156: TAIL_SEEN: its refusals in order; on an ARRIVED half it sets tail seen and nothing else;
on an IN_SECTION half with berth seen clear and the berth CLEAR it records the unseen arrival. In
SERVICE an occupation of a section-entry circuit takes the accepted outbound train into the section and
sends, holds or owes its ENTERING (R152), an occupation of a berth shows the inbound train there (R154),
and a clearance of the berth after that is its arrival (R155); an occupation that no train accounts for
latches TRACK_FAULT. -/
def Obligations.TailSeenRecordsTheArrival : Prop :=
  (∀ (s : State) (f : Frame) (sdi : BitVec 192) (x : Line) (c : TrackId), HalvesLaw s →
    s.device = .service → s.sbc.frame = some f → f.unjudged = false →
    sdi.getLsbD (f.length - 1) = s.sbc.expected → s.sbc.scan = .running →
    s.cfg.tracks[c].configured = true → s.tcm[c].state = .clear →
    f.inputBit sdi (.track c) = false →
    ∃ t, exec (.frameJudge sdi) s = .next t ∧
      let line := s.cfg.lines.get x
      let count := (s.blc.get x).count
      (line.entryCircuit = some c →
        (∀ (q : TrainId) (v : Train), s.trt.records[q] = some v → v.destination = .line x →
          v.outbound = .accepted →
          (∃ w, t.trt.records[q] = some w ∧ w.outbound = .inSection ∧ w.destination = .line x ∧
            w.outLapse = v.outLapse ∧ w.trainClass = v.trainClass ∧
            w.stamps.enteredOut = some s.tb.clock) ∧
          (t.blc.get x).standing = .inSection ∧ (t.blc.get x).count = count ∧
          t.au[Source.id .train].pending = true ∧
          (∀ l, line.starter = some l → s.ht[blockEntry x] = none →
            t.ht[blockEntry x] = some ⟨.block x, l, .normal, s.tb.clock⟩) ∧
          (96 ≤ count → t.trt.owed.get x = true ∧ t.bu.get x = s.bu.get x) ∧
          (count < 96 → t.trt.owed.get x = s.trt.owed.get x ∧
            ∀ (i : CodeId) (e : CodeEntry), lowestSendable s .entering none i e →
              ((s.bu.get x).sender ≠ none →
                t.bu.get x = { s.bu.get x with pendingEntering := true }) ∧
              ((s.bu.get x).sender = none → t.bu.get x = (s.bu.get x).beginSend s.cfg.timing
                s.tb.tickCount (e.pattern.map fun g => g.count) (some i) (some .entering)))) ∧
        ((∀ (q : TrainId) (v : Train), s.trt.records[q] = some v → v.destination = .line x →
            v.outbound ≠ .accepted) →
          t.au[Source.id .trackFault].pending = true ∧
          (t.blc.get x).standing = (s.blc.get x).standing ∧
          t.trt.owed.get x = s.trt.owed.get x ∧ t.bu.get x = s.bu.get x)) ∧
      (line.berth = some c →
        (∀ (q : TrainId) (v : Train), s.trt.records[q] = some v → v.arrivalLine = some x →
          ∃ w, t.trt.records[q] = some w ∧ w.arrivalLine = some x ∧
            w.trainClass = v.trainClass ∧ w.tailSeen = v.tailSeen ∧
            w.stamps.arrived = v.stamps.arrived ∧
            (v.inbound = .accepted → w.inbound = .inSection ∧ w.unannounced = true ∧
              w.berthSeen = true ∧ w.stamps.enteredIn = some s.tb.clock ∧
              (t.blc.get x).inInstrument = .onLine ∧ t.au[Source.id .train].pending = true) ∧
            (v.inbound ≠ .accepted → w.inbound = v.inbound ∧ w.unannounced = v.unannounced ∧
              w.stamps.enteredIn = v.stamps.enteredIn) ∧
            (v.inbound = .inSection → w.berthSeen = true ∧
              (v.berthSeen = false → t.au[Source.id .train].pending = true)) ∧
            (v.inbound ≠ .accepted → v.inbound ≠ .inSection → w.berthSeen = v.berthSeen)) ∧
        ((∀ (q : TrainId) (v : Train), s.trt.records[q] = some v → v.arrivalLine = some x →
            v.inbound ≠ .accepted) →
          (t.blc.get x).inInstrument = (s.blc.get x).inInstrument) ∧
        ((∀ (q : TrainId) (v : Train), s.trt.records[q] = some v → v.arrivalLine = some x →
            v.inbound ≠ .accepted ∧ v.inbound ≠ .inSection ∧ v.inbound ≠ .arrived) →
          t.au[Source.id .trackFault].pending = true))) ∧
  (∀ (s : State) (x : Line) (c : TrackId), HalvesLaw s → s.device = .service →
    s.tcm[c].timer = some 0 → s.tcm[c].state = .pickupTiming →
    (s.cfg.lines.get x).berth = some c →
    ∃ t, exec .pickupExpiry s = .next t ∧ t.trt.owed = s.trt.owed ∧
      ∀ (q : TrainId) (v : Train), s.trt.records[q] = some v → v.arrivalLine = some x →
        (v.inbound = .inSection → v.berthSeen = true →
          t.trt.records[q] = some { v with
            inbound := .arrived, stamps := { v.stamps with arrived := some s.tb.clock } } ∧
          (∀ (h : HoldId) (hold : Hold), t.ht[h] = some hold → hold.kind ≠ .clearing x) ∧
          t.au[Source.id .train].pending = true) ∧
        (v.inbound ≠ .inSection ∨ v.berthSeen = false → t.trt.records[q] = some v)) ∧
  ∀ s : State, s.portFree →
    (∀ n, s.device = .config → exec (.tailSeen n) s = .next (s.holding (replyBytes 5 59 []))) ∧
    (s.device = .service →
      (∀ n, n = 0 ∨ 12 < n → exec (.tailSeen n) s = .next (s.holding (replyBytes 4 59 [1]))) ∧
      (∀ r : TrainId, s.trt.records[r] = none →
        exec (.tailSeen (r.val + 1)) s = .next (s.holding (replyBytes 8 59 []))) ∧
      ∀ (r : TrainId) (v : Train), s.trt.records[r] = some v →
        (v.inbound = .arrived → ∃ t, exec (.tailSeen (r.val + 1)) s = .next t ∧
          t.trt.records[r] = some { v with tailSeen := true } ∧
          (∀ q : TrainId, q ≠ r → t.trt.records[q] = s.trt.records[q]) ∧
          t.trt.owed = s.trt.owed ∧
          { t with trt := s.trt } = s.holding (replyBytes 0 59 [])) ∧
        (∀ x b, v.inbound = .inSection → v.arrivalLine = some x → v.berthSeen = false →
          (s.cfg.lines.get x).berth = some b → s.tcm[b].state = .clear →
          ∃ t, exec (.tailSeen (r.val + 1)) s = .next t ∧
            t.trt.records[r] = some { v with
              inbound := .arrived, tailSeen := true, berthSeen := true
              stamps := { v.stamps with arrived := some s.tb.clock } } ∧
            (∀ q : TrainId, q ≠ r → t.trt.records[q] = s.trt.records[q]) ∧
            t.trt.owed = s.trt.owed ∧
            (∀ (h : HoldId) (hold : Hold), s.ht[h] = some hold →
              (hold.kind = .clearing x → t.ht[h] = none) ∧
              (hold.kind ≠ .clearing x → t.ht[h] = some hold)) ∧
            (∀ h : HoldId, s.ht[h] = none → t.ht[h] = none) ∧
            { t with trt := s.trt, ht := s.ht } = s.holding (replyBytes 0 59 [])) ∧
        (∀ x b, v.inbound = .inSection → v.arrivalLine = some x →
          (s.cfg.lines.get x).berth = some b → v.berthSeen = true ∨ s.tcm[b].state ≠ .clear →
          exec (.tailSeen (r.val + 1)) s = .next (s.holding (replyBytes 5 59 []))) ∧
        (v.inbound ≠ .arrived → v.inbound ≠ .inSection →
          exec (.tailSeen (r.val + 1)) s = .next (s.holding (replyBytes 5 59 []))))

/-- R157, R161: OUT_OF_SECTION: its refusals in order (the place of a CONDITION is left open: log 12;
a missing entry: log 19), and the section given back: the lowest OUT_OF_SECTION entry is sent, the half
becomes CLEARED, the IN instrument BLOCKED, and the retirement check follows. -/
def Obligations.OutOfSectionGivesTheSectionBack : Prop :=
  ∀ s : State, s.portFree →
    (∀ n, s.device = .config → exec (.outOfSection n) s = .next (s.holding (replyBytes 5 60 []))) ∧
    (s.device = .service →
      (∀ n, n = 0 ∨ 12 < n → exec (.outOfSection n) s = .next (s.holding (replyBytes 4 60 [1]))) ∧
      (∀ r : TrainId, s.trt.records[r] = none →
        exec (.outOfSection (r.val + 1)) s = .next (s.holding (replyBytes 8 60 []))) ∧
      (∀ (r : TrainId) (v : Train), s.trt.records[r] = some v →
        v.inbound ≠ .arrived ∨ v.tailSeen = false →
        exec (.outOfSection (r.val + 1)) s = .next (s.holding (replyBytes 5 60 []))) ∧
      (∀ (r : TrainId) (v : Train) (x : Line) (l : LeverId) (b : TrackId),
        s.trt.records[r] = some v → v.inbound = .arrived → v.tailSeen = true →
        v.arrivalLine = some x → (s.cfg.lines.get x).home = some l →
        (s.cfg.lines.get x).berth = some b →
        let answer := exec (.outOfSection (r.val + 1)) s
        let clear := s.cfg.levers[l].configured = true ∧ s.llu[l].unseen = false ∧
          s.llu[l].position = .normal ∧ s.tcm[b].state = .clear
        (255 ≤ (s.blc.get x).count → answer = .next (s.holding (replyBytes 5 60 []))) ∧
        ((s.blc.get x).count < 255 → ¬clear →
          ∃ place, answer = .next (s.holding (replyBytes 6 60 [place]))) ∧
        (∀ c e, (s.blc.get x).count < 255 → clear → lowestSendable s .outOfSection none c e →
          ((s.bu.get x).sender ≠ none → answer = .next (s.holding (replyBytes 1 60 []))) ∧
          ((s.bu.get x).sender = none → ∃ t, answer = .next t ∧
            SendTaken x (e.pattern.map fun g => g.count) (some c) (some .outOfSection) s t ∧
            (let gone := v.outbound = .cleared ∨ (v.outbound = .none ∧ v.destination = .localBox)
            (gone → t.trt.records[r] = none) ∧
            (¬gone → t.trt.records[r] = some { v with inbound := .cleared })) ∧
            (∀ q : TrainId, q ≠ r → t.trt.records[q] = s.trt.records[q]) ∧
            t.trt.owed = s.trt.owed ∧
            t.blc = s.blc.set x { s.blc.get x with inInstrument := .blocked } ∧
            { t with bu := s.bu, au := s.au, trt := s.trt, blc := s.blc } =
              s.holding (replyBytes 0 60
                (bytesTwo (sendLength s.cfg.timing (e.pattern.map fun g => g.count)) ++
                  [if t.trt.records[r] = none then 1 else 0]))))))

/-! ### The console port -/

/-- R176, R177: a selection stores the whole bytes it carries while the port is IDLE and drives MISO by
the port state; while CSN is high MISO is at high impedance; RDY is high in REPLY_READY and low in every
other state; the deselection judges the frame stored,
changes nothing else after an EXECUTING selection, and ends the reply after a REPLY_READY one. A stored
request is carried out as its command. -/
def Obligations.PortStoresJudgesAndReplies : Prop :=
  (∀ (s : State) (mosi : List Bool), s.cp.selected = none →
    ∃ t, exec (.portSelection mosi) s = .next t ∧ { t with cp := s.cp } = s ∧
      t.cp.state = s.cp.state ∧ t.cp.selected = some s.cp.state ∧ t.cp.reply = s.cp.reply ∧
      (s.cp.state ≠ .idle → t.cp.request = s.cp.request) ∧
      (s.cp.state = .idle → t.cp.request.length = min 62 (mosi.length / 8) ∧
        ∀ (p j : Nat) (b : Byte), t.cp.request[p]? = some b → j < 8 →
          mosi[8 * p + j]? = some (b.getLsbD (7 - j))) ∧
      t.cp.miso.length = mosi.length ∧
      ∀ i, i < mosi.length →
        let bit := (match s.cp.state with
          | .idle => (0 : Byte)
          | .executing => 1
          | .replyReady => s.cp.reply.getD (i / 8) 0).getLsbD (7 - i % 8)
        t.cp.miso[i]? = some bit ∧ t.misoPin i = if bit then .high else .low) ∧
  (∀ s : State, s.cp.selected = none → ∀ i, s.misoPin i = .highZ) ∧
  (∀ s : State, s.rdy = true ↔ s.cp.state = .replyReady) ∧
  (∀ s t : State, s.cp.selected ≠ none → exec .portDeselection s = .next t →
    t.cp.selected = none ∧ t.cp.miso = [] ∧ ∀ i, t.misoPin i = .highZ) ∧
  (∀ s : State, s.cp.selected = some .executing → exec .portDeselection s =
    .next { s with cp := { s.cp with selected := none, miso := [] } }) ∧
  (∀ s : State, s.cp.selected = some .replyReady → exec .portDeselection s =
    .next { s with cp := ⟨.idle, none, [], [], []⟩ }) ∧
  (∀ s : State, s.cp.selected = some .idle → s.cp.request = [] → exec .portDeselection s =
    .next { s with cp := { s.cp with selected := none, miso := [] } }) ∧
  (∀ (s : State) (number : Byte) (rest : List Byte), s.cp.selected = some .idle →
    s.cp.state = .idle → s.cp.request = number :: rest →
    let deselected := { s with cp := { s.cp with selected := none, miso := [] } }
    let known := number.toNat ∈ [1, 2, 3, 4, 5, 6, 7, 8, 16, 17, 20, 21] ∨
      (32 ≤ number.toNat ∧ number.toNat ≤ 41) ∨ (48 ≤ number.toNat ∧ number.toNat ≤ 66)
    let badFrame := exec .portDeselection s = .next (deselected.holding
      (replyBytes 2 number [BitVec.ofNat 8 (rest.length + 1)]))
    (rest = [] → badFrame) ∧
    (∀ (n : Byte) (arguments : List Byte), rest = n :: arguments →
      (arguments.length < n.toNat ∨ 60 < n.toNat → badFrame) ∧
      (n.toNat ≤ arguments.length → n.toNat ≤ 60 → ¬known →
        exec .portDeselection s = .next (deselected.holding (replyBytes 3 number [number]))) ∧
      (n.toNat ≤ arguments.length → n.toNat ≤ 60 → known →
        (∀ i : Instr, encodeFrame i ≠ some (number :: n :: arguments.take n.toNat)) → badFrame) ∧
      (∀ i : Instr, i.wellFormed = true → n.toNat ≤ arguments.length →
        encodeFrame i = some (number :: n :: arguments.take n.toNat) →
        exec .portDeselection s = exec i deselected)))

/-- R178, R180, R187 to R189: the request frame of every well-formed request decodes to that request,
and a frame that decodes is the frame of the well-formed request it decodes to, followed by bytes that
are disregarded. -/
def Obligations.RequestFramesRoundTrip : Prop :=
  (∀ (i : Instr) (frame rest : List Byte), i.wellFormed = true → encodeFrame i = some frame →
    checkFrame (frame ++ rest) = .request i) ∧
  (∀ (stored : List Byte) (i : Instr), checkFrame stored = .request i →
    i.wellFormed = true ∧ ∃ frame rest, encodeFrame i = some frame ∧ stored = frame ++ rest)

/-! ### Loading -/

/-- R2, R4, R19, R20, R37, R80, R107, R124: in CONFIG a load whose arguments are in range replaces its
one record whole, with its times clamped, and a load with an argument out of range changes nothing; in
SERVICE every one is refused. Which argument a BAD_ARGUMENT names is not stated here (log 10). That a
LOAD_CODE with no pattern groups is refused for its other arguments, and that LOAD_TRACK counts its
neighbours before repeats are dropped, are the model's choice (log 25). -/
def Obligations.LoadsReplaceOneRecordOrNothing : Prop :=
  ∀ s : State, s.portFree →
    (s.device = .service →
      (∀ n f es, exec (.loadSlots n f es) s = .next (s.holding (replyBytes 5 1 []))) ∧
      (∀ l k t a b, exec (.loadLever l k t a b) s = .next (s.holding (replyBytes 5 2 []))) ∧
      (∀ l p c a t, exec (.loadRoute l p c a t) s = .next (s.holding (replyBytes 5 3 []))) ∧
      (∀ c d ns, exec (.loadTrack c d ns) s = .next (s.holding (replyBytes 5 4 []))) ∧
      (∀ x a b c d cs ks t,
        exec (.loadLine x a b c d cs ks t) s = .next (s.holding (replyBytes 5 5 []))) ∧
      (∀ e p m g c d, exec (.loadCode e p m g c d) s = .next (s.holding (replyBytes 5 6 [])))) ∧
    (s.device = .config →
      let done := fun (cfg : ConfigStore) (request : Byte) =>
        (.next (State.holding { s with cfg := cfg } (replyBytes 0 request [])) :
          Host.Outcome State Fault Refusal)
      let refused := fun (answer : Host.Outcome State Fault Refusal) (request : Byte) =>
        ∃ place, answer = .next (s.holding (replyBytes 4 request [place]))
      -- LOAD_SLOTS
      (∀ (n first : Nat) (run : List SlotEntry) (slots : Vector SlotEntry 192),
        8 ≤ n → n ≤ 192 → first < 192 → first + run.length ≤ 192 →
        (∀ k : SlotId, slots[k] =
          if first ≤ k.val then (run[k.val - first]?).getD s.cfg.slots[k] else s.cfg.slots[k]) →
        exec (.loadSlots n first (run.map rawSlot)) s =
          done { s.cfg with slots := slots, frameLength := n } 1) ∧
      (∀ n first entries, n < 8 ∨ 192 < n ∨ 192 ≤ first ∨ 192 < first + entries.length ∨
          (∃ e ∈ entries, ∀ v, rawSlot v ≠ e) →
        refused (exec (.loadSlots n first entries) s) 1) ∧
      -- LOAD_LEVER
      (∀ (l : LeverId) (kind : LeverKind) (timeout : Nat) (a b : List Condition),
        ¬badConditions (l.val + 1) (a.map rawCondition) →
        ¬badConditions (l.val + 1) (b.map rawCondition) →
        exec (.loadLever (l.val + 1) (rawKind kind) timeout (a.map rawCondition)
          (b.map rawCondition)) s = done { s.cfg with
            levers := s.cfg.levers.set l.val ⟨true, kind, max 10 (min 600 timeout), a, b⟩ } 2) ∧
      (∀ l kind timeout a b, l = 0 ∨ 40 < l ∨ 2 < kind ∨ badConditions l a ∨ badConditions l b →
        refused (exec (.loadLever l kind timeout a b) s) 2) ∧
      -- LOAD_ROUTE
      (∀ (l : LeverId) (points : List PointsEntry) (circuits approach : List TrackId) (time : Nat),
        points.length ≤ 8 → (∀ e ∈ points, e.lever ≠ l) → (points.map fun e => e.lever).Nodup →
        circuits.length ≤ 6 → circuits.Nodup → approach.length ≤ 3 →
        exec (.loadRoute (l.val + 1) (points.map rawPoints) (circuits.map fun c => c.val + 1)
          (approach.map fun c => c.val + 1) time) s = done { s.cfg with
            routes := s.cfg.routes.set l.val
              ⟨true, points, circuits, approach, min 2550 time⟩ } 3) ∧
      (∀ l points circuits approach time, l = 0 ∨ 40 < l ∨ 8 < points.length ∨
          (∃ e ∈ points, (∀ v, rawPoints v ≠ e) ∨ e.lever = l) ∨
          ¬(points.map fun e => e.lever).Nodup ∨ 6 < circuits.length ∨ ¬circuits.Nodup ∨
          3 < approach.length ∨ (∃ c ∈ circuits ++ approach, c = 0 ∨ 32 < c) →
        refused (exec (.loadRoute l points circuits approach time) s) 3) ∧
      -- LOAD_TRACK
      (∀ (c : TrackId) (delay : Nat) (given : List TrackId), given.length ≤ 4 → c ∉ given →
        exec (.loadTrack (c.val + 1) delay (given.map fun n => n.val + 1)) s =
          .next (State.holding { s with
            cfg := { s.cfg with
              tracks := s.cfg.tracks.set c.val ⟨true, max 1 (min 100 delay), given.eraseDups⟩ }
            tcm := s.tcm.set c.val { s.tcm[c] with
              timer := if s.tcm[c].state = .pickupTiming then some (max 1 (min 100 delay))
                else s.tcm[c].timer } } (replyBytes 0 4 []))) ∧
      (∀ c delay given, c = 0 ∨ 32 < c ∨ 4 < given.length ∨ c ∈ given ∨
          (∃ n ∈ given, n = 0 ∨ 32 < n) →
        refused (exec (.loadTrack c delay given) s) 4) ∧
      -- LOAD_LINE
      (∀ (x : Line) (starter home : LeverId) (entry berth : TrackId) (conditions : List Condition)
          (clearing : List (LeverId × EndPos)) (lapse : Nat), starter ≠ home →
        conditions.length ≤ 12 → clearing.length ≤ 4 → (clearing.map fun e => e.1).Nodup →
        exec (.loadLine (lineNo x) (starter.val + 1) (entry.val + 1) (home.val + 1) (berth.val + 1)
          (conditions.map rawCondition) (clearing.map rawClearing) lapse) s = done { s.cfg with
            lines := s.cfg.lines.set x ⟨true, some starter, some entry, some home, some berth,
              conditions, clearing, max 100 (min 6000 lapse)⟩ } 5) ∧
      (∀ x starter entry home berth conditions clearing lapse, 2 < x ∨ starter = 0 ∨ 40 < starter ∨
          entry = 0 ∨ 32 < entry ∨ home = 0 ∨ 40 < home ∨ home = starter ∨ berth = 0 ∨ 32 < berth ∨
          12 < conditions.length ∨ (∃ c ∈ conditions, ∀ v, rawCondition v ≠ c) ∨
          4 < clearing.length ∨ (∃ e ∈ clearing, ∀ v, rawClearing v ≠ e) ∨
          ¬(clearing.map fun e => e.lever).Nodup →
        refused (exec (.loadLine x starter entry home berth conditions clearing lapse) s) 5) ∧
      -- LOAD_CODE
      (∀ (c : CodeId) (pattern : List GroupSpec) (m : Meaning) (cls : Nat) (send : Bool),
        pattern.length ≤ 6 → (∀ g ∈ pattern, 1 ≤ g.count ∧ g.count ≤ 9) →
        (m = .offer → 1 ≤ cls ∧ cls ≤ 15) →
        exec (.loadCode c.val (pattern.map fun g => g.count)
          (pattern.map fun g => if g.care then 0 else 1) (rawMeaning m) cls send.toNat) s =
          done { s.cfg with
            codes := s.cfg.codes.set c.val (if pattern = [] then none
              else some ⟨pattern, m, if m = .offer then some cls else none, send⟩) } 6) ∧
      (∀ c pattern mask meaning cls send, 32 ≤ c ∨ 6 < pattern.length ∨
          (∃ g ∈ pattern, g = 0 ∨ 9 < g) ∨ mask.length ≠ pattern.length ∨ (∃ g ∈ mask, 1 < g) ∨
          8 < meaning ∨ (meaning = 1 ∧ (cls = 0 ∨ 15 < cls)) ∨ 1 < send →
        refused (exec (.loadCode c pattern mask meaning cls send) s) 6))

/-- R3, R95, R103, R115, R181: LOAD_TIMING clamps each of its nine values, is refused for none, brings a
code in assembly under the new END_GAP, and answers the values as stored with the effective period. -/
def Obligations.LoadTimingClampsItsNineValues : Prop :=
  ∀ (s : State) (v : RawTiming), s.portFree →
    (s.device = .service → exec (.loadTiming v) s = .next (s.holding (replyBytes 5 7 []))) ∧
    (s.device = .config → ∃ t effective, exec (.loadTiming v) s = .next t ∧
      let n := t.cfg.timing
      (n.requestedPeriod % 5 = 0 ∧ max 10 (min 50 v.framePeriod) ≤ n.requestedPeriod ∧
        n.requestedPeriod < max 10 (min 50 v.framePeriod) + 5) ∧
      n.minBeat = max 2 (min 20 v.minBeat) ∧
      n.maxBeat = max (n.minBeat + 1) (min 200 v.maxBeat) ∧
      n.groupGap = max 40 (min 400 v.groupGap) ∧
      n.endGap = max (n.groupGap + 40) (min 1000 v.endGap) ∧
      n.on = max 10 (min 60 v.on) ∧ n.intra = max 20 (min 80 v.intra) ∧
      n.group = max 100 (min 400 v.group) ∧ n.emergency = max 300 (min 6000 v.emergency) ∧
      effective % 5 = 0 ∧ n.requestedPeriod ≤ effective ∧ s.cfg.frameLength + 16 ≤ 16 * effective ∧
      (n.requestedPeriod < effective → 16 * effective < s.cfg.frameLength + 16 + 80) ∧
      { t.cfg with timing := s.cfg.timing } = s.cfg ∧
      (∀ x, { t.bu.get x with code := (s.bu.get x).code } = s.bu.get x ∧
        ((s.bu.get x).code = none → (t.bu.get x).code = none) ∧
        ∀ c, (s.bu.get x).code = some c → (t.bu.get x).code = some { c with
          endTick := if n.endGap < (s.tb.tickCount - c.lastFall).toNat then s.tb.tickCount + 1
            else c.lastFall + BitVec.ofNat 32 n.endGap }) ∧
      { t with cfg := s.cfg, bu := s.bu } = s.holding (replyBytes 0 7
        (bytesTwo effective ++ bytesTwo n.minBeat ++ bytesTwo n.maxBeat ++ bytesTwo n.groupGap ++
          bytesTwo n.endGap ++ bytesTwo n.on ++ bytesTwo n.intra ++ bytesTwo n.group ++
          bytesTwo n.emergency)))

/-! ### Attention -/

/-- R112, R134, R168 to R174: when each source is pending and with what detail: SCAN in LOST with none,
CODE_x with an unreleased buffer and their number, OBSTRUCTION with a line's flag set and those lines, a
latched source as its record says; and ATTN is high while a source is enabled and pending. The detail of
a level source that is not pending is read as absent (log 44). LOAD_ATTENTION sets one source's enable,
and its priority unless it is fixed (the place it names where several arguments are out of range is log
10's); NEXT_ATTENTION names the enabled pending source of highest rank, or NONE (its MULTIPLE byte is
then read as absent: log 22), and changes nothing; CLEAR_ATTENTION reports a source and clears a latched
one. -/
def Obligations.AttentionRequestsWorkTheRecords : Prop :=
  (∀ s : State,
    let shows := fun (i : SourceId) (holds : Prop) (detail : Option Detail) =>
      (s.sourcePending i = true ↔ holds) ∧ (holds → s.sourceDetail i = detail) ∧
        (¬holds → s.sourceDetail i = none)
    shows (Source.id .scan) (s.sbc.scan = .lost) none ∧
    (∀ x, shows (Source.id (.code x))
      ((s.bu.get x).buffer0 ≠ none ∨ (s.bu.get x).buffer1 ≠ none)
      (some (.buffers (if (s.bu.get x).buffer0 ≠ none ∧ (s.bu.get x).buffer1 ≠ none then 2
        else 1)))) ∧
    shows (Source.id .obstruction) (∃ x, (s.blc.get x).obstruction = true)
      (some (.lines ⟨s.blc.a.obstruction, s.blc.b.obstruction, s.blc.c.obstruction⟩)) ∧
    (∀ i, i = Source.id .scan ∨ (∃ x, i = Source.id (.code x)) ∨ i = Source.id .obstruction →
      s.sourceMultiple i = false) ∧
    (∀ i, i ≠ Source.id .scan → (∀ x, i ≠ Source.id (.code x)) → i ≠ Source.id .obstruction →
      s.sourcePending i = s.au[i].pending ∧ s.sourceMultiple i = s.au[i].multiple ∧
      (s.au[i].pending = true → s.sourceDetail i = s.au[i].detail)) ∧
    (s.attn = true ↔ ∃ i : SourceId, s.au[i].enabled = true ∧ s.sourcePending i = true)) ∧
  ∀ s : State, s.portFree →
    let fixed := fun i : SourceId => i.val = 0 ∨ i.val = 1 ∨ i.val = 13
    let levelled := fun i : SourceId =>
      i.val = 0 ∨ i.val = 6 ∨ i.val = 7 ∨ i.val = 8 ∨ i.val = 13
    (∀ n e p, s.device = .service →
      exec (.loadAttention n e p) s = .next (s.holding (replyBytes 5 8 []))) ∧
    (∀ n e p, s.device = .config → n = 0 ∨ 14 < n →
      exec (.loadAttention n e p) s = .next (s.holding (replyBytes 4 8 [1]))) ∧
    (∀ (i : SourceId) e p, s.device = .config → 1 < e →
      exec (.loadAttention (i.val + 1) e p) s = .next (s.holding (replyBytes 4 8 [2]))) ∧
    (∀ (i : SourceId) (e : Bool) p, s.device = .config → ¬fixed i → 7 < p →
      exec (.loadAttention (i.val + 1) e.toNat p) s = .next (s.holding (replyBytes 4 8 [3]))) ∧
    (∀ (i : SourceId) (e : Bool) p, s.device = .config → fixed i ∨ p ≤ 7 →
      exec (.loadAttention (i.val + 1) e.toNat p) s = .next (State.holding { s with
        au := s.au.set i.val { s.au[i] with
          enabled := e, priority := if fixed i then s.au[i].priority else p } }
        (replyBytes 0 8 []))) ∧
    (∀ (active : List SourceId) (flags : Nat), active.Nodup →
      (∀ i, i ∈ active ↔ s.au[i].enabled = true ∧ s.sourcePending i = true) →
      flags < 16384 → (∀ i : SourceId, flags.testBit i.val = s.sourcePending i) →
      let rank := fun i : SourceId => if fixed i then 4
        else if s.au[i].priority ≤ 3 then s.au[i].priority else s.au[i].priority + 1
      (active = [] → exec .nextAttention s = .next (s.holding (replyBytes 0 64
        ([0, 255, 255, 255, 0] ++ bytesTwo flags)))) ∧
      (∀ i ∈ active, (∀ j ∈ active, rank j < rank i ∨ (rank j = rank i ∧ i.val ≤ j.val)) →
        exec .nextAttention s = .next (s.holding (replyBytes 0 64
          (BitVec.ofNat 8 (i.val + 1) :: detailBytes (s.sourceDetail i) ++
            [BitVec.ofNat 8 (s.sourceMultiple i).toNat, BitVec.ofNat 8 active.length] ++
            bytesTwo flags))))) ∧
    (∀ n, n = 0 ∨ 14 < n → exec (.clearAttention n) s = .next (s.holding (replyBytes 4 65 [1]))) ∧
    (∀ i : SourceId, levelled i → exec (.clearAttention (i.val + 1)) s =
      .next (s.holding (replyBytes 0 65 ([BitVec.ofNat 8 (i.val + 1),
        BitVec.ofNat 8 (s.sourcePending i).toNat] ++ detailBytes (s.sourceDetail i) ++ [0])))) ∧
    (∀ i : SourceId, ¬levelled i → exec (.clearAttention (i.val + 1)) s =
      .next (State.holding { s with
        au := s.au.set i.val { s.au[i] with pending := false, detail := none, multiple := false } }
        (replyBytes 0 65 ([BitVec.ofNat 8 (i.val + 1), BitVec.ofNat 8 s.au[i].pending.toNat] ++
          detailBytes (if s.au[i].pending then s.au[i].detail else none) ++
          [BitVec.ofNat 8 s.au[i].multiple.toNat]))))

/-! ### Service -/

/-- R58, R77, R100, R123, R140, R163, R182, R183: ENTER_SERVICE makes its three checks in order, and
with all of them passed starts the box: the device in SERVICE, every mark cleared, the three block holds
and no other, every line ACTIVE with its instrument BLOCKED, every route IDLE, SEEKING grips SPENT. -/
def Obligations.EnterServiceChecksAndStartsTheBox : Prop :=
  ∀ s : State, s.portFree →
    let misplaced := fun l : LeverId => s.cfg.levers[l].configured = true ∧
      (s.llu[l].position = .contradictory ∨
        (s.cfg.levers[l].kind = .signal ∧ s.llu[l].position ≠ .normal))
    (s.device = .service → exec .enterService s = .next (s.holding (replyBytes 5 20 []))) ∧
    (s.device = .config → s.sbc.scan ≠ .running →
      exec .enterService s = .next (s.holding (replyBytes 9 20 [match s.sbc.scan with
        | .stopped => 0 | .starting => 1 | .running => 2 | .lost => 3]))) ∧
    (∀ item, s.device = .config → s.sbc.scan = .running → s.cfg.offendingItem = some item →
      exec .enterService s = .next (s.holding (replyBytes 11 20 item.bytes))) ∧
    (s.device = .config → s.sbc.scan = .running → s.cfg.offendingItem = none →
      (∀ l : LeverId, misplaced l → (∀ k : LeverId, k.val < l.val → ¬misplaced k) →
        exec .enterService s = .next (s.holding (replyBytes 10 20
          [BitVec.ofNat 8 (l.val + 1), match s.llu[l].position with
            | .normal => 0 | .reverse => 1 | .between => 2 | .contradictory => 3]))) ∧
      ((∀ l : LeverId, ¬misplaced l) → ∃ t, exec .enterService s = .next t ∧
        t.device = .service ∧
        (∀ c : TrackId, t.tcm[c] = { s.tcm[c] with mark := false }) ∧
        (∀ l : LeverId, t.llu[l] = { s.llu[l] with
            grip := if s.llu[l].grip = .seeking then .spent else s.llu[l].grip
            strokeTimer := none, unseen := false } ∧
          t.ru[l] = ⟨.idle, 1, none, [], false, none, s.ru[l].changed⟩) ∧
        (∀ x, (∃ l, (s.cfg.lines.get x).starter = some l ∧
            t.ht[blockEntry x] = some ⟨.block x, l, .normal, s.tb.clock⟩) ∧
          t.bu.get x = { s.bu.get x with
            lastRecognised := none, sender := none, pendingEntering := false, expected := none } ∧
          t.blc.get x = { s.blc.get x with
            inInstrument := .blocked, count := 0, quiet := none, obstruction := false
            standing := .none } ∧
          t.trt.owed.get x = false) ∧
        (∀ h : HoldId, h.val < 64 ∨ 67 ≤ h.val → t.ht[h] = none) ∧
        (∀ r : TrainId, t.trt.records[r] = none) ∧
        { t with device := s.device, tcm := s.tcm, llu := s.llu, ru := s.ru, ht := s.ht, bu := s.bu
                 blc := s.blc, trt := s.trt } = s.holding (replyBytes 0 20 [])))

/-- R58, R77, R100, R123, R140, R163, R175, R184: RESTART, in either device state, empties the Hold
Table, the routes and the train records, resets every line, drops every magnet, clears every latched
source, and keeps the tables, the scan, the track circuits, the lever positions and the clock. That a
blanking which runs, of a send or after one, then ends 10 ticks from now is the model's reading of R123
(log 36). -/
def Obligations.RestartReturnsToConfig : Prop :=
  ∀ s : State, s.portFree → ∃ t, exec .restart s = .next t ∧ t.device = .config ∧
    (∀ h : HoldId, t.ht[h] = none) ∧ (∀ r : TrainId, t.trt.records[r] = none) ∧
    (∀ l : LeverId, t.sbc.magnets[l] = false ∧
      t.llu[l] = { s.llu[l] with release := .notGranted, strokeTimer := none, unseen := false } ∧
      t.ru[l] = ⟨.idle, 1, none, [], false, none, 0⟩) ∧
    (∀ x, t.trt.owed.get x = false ∧
      t.blc.get x = { s.blc.get x with
        inInstrument := .blocked, count := 0, quiet := none, obstruction := false
        standing := .none } ∧
      t.bu.get x = { s.bu.get x with
        buffer0 := none, buffer1 := none, turn := false, lastRecognised := none, sender := none
        pendingEntering := false, expected := none, overrun := false, collided := false
        unacknowledged := false
        blankUntil := if (s.bu.get x).blankUntil = none then none
          else some (s.tb.tickCount + 10) }) ∧
    (∀ i : SourceId, t.au[i] = { s.au[i] with pending := false, detail := none, multiple := false } ∧
      (t.sourcePending i = true → i.val = 0 ∧ s.sbc.scan = .lost)) ∧
    { t.sbc with magnets := s.sbc.magnets } = s.sbc ∧
    { t with device := s.device, ht := s.ht, trt := s.trt, sbc := s.sbc, llu := s.llu, ru := s.ru
             blc := s.blc, bu := s.bu, au := s.au } = s.holding (replyBytes 0 21 [])

/-! ### The laws every step keeps -/

/-- R64, R136: every step keeps the law for the block hold and the areas of the Hold Table. -/
def Obligations.StepKeepsTheBlockHoldLaw : Prop :=
  ∀ s t : State, BlockHoldLaw s → step s = .next t → BlockHoldLaw t

/-- R126, R144: every step keeps the law for the IN instrument, with the law for halves. -/
def Obligations.StepKeepsTheInstrumentLaw : Prop :=
  ∀ s t : State, InstrumentLaw s → step s = .next t → InstrumentLaw t

/-- R135, R144: every step keeps the outbound standing a copy of the one outbound half. -/
def Obligations.StepKeepsTheStandingLaw : Prop :=
  ∀ s t : State, StandingLaw s → step s = .next t → StandingLaw t

/-- R53, R58: every step keeps a magnet bit 1 only with the scan RUNNING and the lever released. -/
def Obligations.StepKeepsTheMagnetLaw : Prop :=
  ∀ s t : State, MagnetLaw s → step s = .next t → MagnetLaw t

/-- R20, R23, R30: every step keeps a circuit out of UNKNOWN only with the scan RUNNING and the circuit
configured, and a pickup timer running only in PICKUP_TIMING. -/
def Obligations.StepKeepsTheClearanceLaw : Prop :=
  ∀ s t : State, ClearanceLaw s → step s = .next t → ClearanceLaw t

/-- R83: every step keeps an IDLE route without holds. -/
def Obligations.StepKeepsIdleRoutesWithoutHolds : Prop :=
  ∀ s t : State, IdleRouteLaw s → step s = .next t → IdleRouteLaw t

/-- R112, R130: every step keeps the order of the received-code buffers and the range of the count. -/
def Obligations.StepKeepsTheBuffersAndTheCount : Prop :=
  (∀ s t : State, BufferLaw s → step s = .next t → BufferLaw t) ∧
  (∀ s t : State, CountLaw s → step s = .next t → CountLaw t)

/-- R143: every step keeps each line reserve for the trains offered on its line. -/
def Obligations.StepKeepsTheReserveRecords : Prop :=
  ∀ s t : State, ReserveLaw s → step s = .next t → ReserveLaw t
end

