-- ==== Sys2Proof/Laws/State.lean ====
section
/-! SUPPORT. For each writer of State, what each field of State is after it: the field written, and every
other field as it was. -/

namespace Sys2Proof.Machine

variable (s : State)

/-! ### `State.updTrack` -/

@[simp] theorem State.updTrack_pending (t : TrackId) (f : Track → Track) :
    (s.updTrack t f).pending = s.pending := rfl
@[simp] theorem State.updTrack_draws (t : TrackId) (f : Track → Track) :
    (s.updTrack t f).draws = s.draws := rfl
@[simp] theorem State.updTrack_cp (t : TrackId) (f : Track → Track) :
    (s.updTrack t f).cp = s.cp := rfl
@[simp] theorem State.updTrack_device (t : TrackId) (f : Track → Track) :
    (s.updTrack t f).device = s.device := rfl
@[simp] theorem State.updTrack_cfg (t : TrackId) (f : Track → Track) :
    (s.updTrack t f).cfg = s.cfg := rfl
@[simp] theorem State.updTrack_sbc (t : TrackId) (f : Track → Track) :
    (s.updTrack t f).sbc = s.sbc := rfl
@[simp] theorem State.updTrack_boards (t : TrackId) (f : Track → Track) :
    (s.updTrack t f).boards = s.boards := rfl
@[simp] theorem State.updTrack_tcm (t : TrackId) (f : Track → Track) :
    (s.updTrack t f).tcm = tableUpdate s.tcm t f := rfl
@[simp] theorem State.updTrack_llu (t : TrackId) (f : Track → Track) :
    (s.updTrack t f).llu = s.llu := rfl
@[simp] theorem State.updTrack_ht (t : TrackId) (f : Track → Track) :
    (s.updTrack t f).ht = s.ht := rfl
@[simp] theorem State.updTrack_ru (t : TrackId) (f : Track → Track) :
    (s.updTrack t f).ru = s.ru := rfl
@[simp] theorem State.updTrack_bu (t : TrackId) (f : Track → Track) :
    (s.updTrack t f).bu = s.bu := rfl
@[simp] theorem State.updTrack_blc (t : TrackId) (f : Track → Track) :
    (s.updTrack t f).blc = s.blc := rfl
@[simp] theorem State.updTrack_trt (t : TrackId) (f : Track → Track) :
    (s.updTrack t f).trt = s.trt := rfl
@[simp] theorem State.updTrack_au (t : TrackId) (f : Track → Track) :
    (s.updTrack t f).au = s.au := rfl
@[simp] theorem State.updTrack_tb (t : TrackId) (f : Track → Track) :
    (s.updTrack t f).tb = s.tb := rfl

/-! ### `State.updLever` -/

@[simp] theorem State.updLever_pending (l : LeverId) (f : Lever → Lever) :
    (s.updLever l f).pending = s.pending := rfl
@[simp] theorem State.updLever_draws (l : LeverId) (f : Lever → Lever) :
    (s.updLever l f).draws = s.draws := rfl
@[simp] theorem State.updLever_cp (l : LeverId) (f : Lever → Lever) :
    (s.updLever l f).cp = s.cp := rfl
@[simp] theorem State.updLever_device (l : LeverId) (f : Lever → Lever) :
    (s.updLever l f).device = s.device := rfl
@[simp] theorem State.updLever_cfg (l : LeverId) (f : Lever → Lever) :
    (s.updLever l f).cfg = s.cfg := rfl
@[simp] theorem State.updLever_sbc (l : LeverId) (f : Lever → Lever) :
    (s.updLever l f).sbc = s.sbc := rfl
@[simp] theorem State.updLever_boards (l : LeverId) (f : Lever → Lever) :
    (s.updLever l f).boards = s.boards := rfl
@[simp] theorem State.updLever_tcm (l : LeverId) (f : Lever → Lever) :
    (s.updLever l f).tcm = s.tcm := rfl
@[simp] theorem State.updLever_llu (l : LeverId) (f : Lever → Lever) :
    (s.updLever l f).llu = tableUpdate s.llu l f := rfl
@[simp] theorem State.updLever_ht (l : LeverId) (f : Lever → Lever) :
    (s.updLever l f).ht = s.ht := rfl
@[simp] theorem State.updLever_ru (l : LeverId) (f : Lever → Lever) :
    (s.updLever l f).ru = s.ru := rfl
@[simp] theorem State.updLever_bu (l : LeverId) (f : Lever → Lever) :
    (s.updLever l f).bu = s.bu := rfl
@[simp] theorem State.updLever_blc (l : LeverId) (f : Lever → Lever) :
    (s.updLever l f).blc = s.blc := rfl
@[simp] theorem State.updLever_trt (l : LeverId) (f : Lever → Lever) :
    (s.updLever l f).trt = s.trt := rfl
@[simp] theorem State.updLever_au (l : LeverId) (f : Lever → Lever) :
    (s.updLever l f).au = s.au := rfl
@[simp] theorem State.updLever_tb (l : LeverId) (f : Lever → Lever) :
    (s.updLever l f).tb = s.tb := rfl

/-! ### `State.updRoute` -/

@[simp] theorem State.updRoute_pending (l : LeverId) (f : Route → Route) :
    (s.updRoute l f).pending = s.pending := rfl
@[simp] theorem State.updRoute_draws (l : LeverId) (f : Route → Route) :
    (s.updRoute l f).draws = s.draws := rfl
@[simp] theorem State.updRoute_cp (l : LeverId) (f : Route → Route) :
    (s.updRoute l f).cp = s.cp := rfl
@[simp] theorem State.updRoute_device (l : LeverId) (f : Route → Route) :
    (s.updRoute l f).device = s.device := rfl
@[simp] theorem State.updRoute_cfg (l : LeverId) (f : Route → Route) :
    (s.updRoute l f).cfg = s.cfg := rfl
@[simp] theorem State.updRoute_sbc (l : LeverId) (f : Route → Route) :
    (s.updRoute l f).sbc = s.sbc := rfl
@[simp] theorem State.updRoute_boards (l : LeverId) (f : Route → Route) :
    (s.updRoute l f).boards = s.boards := rfl
@[simp] theorem State.updRoute_tcm (l : LeverId) (f : Route → Route) :
    (s.updRoute l f).tcm = s.tcm := rfl
@[simp] theorem State.updRoute_llu (l : LeverId) (f : Route → Route) :
    (s.updRoute l f).llu = s.llu := rfl
@[simp] theorem State.updRoute_ht (l : LeverId) (f : Route → Route) :
    (s.updRoute l f).ht = s.ht := rfl
@[simp] theorem State.updRoute_ru (l : LeverId) (f : Route → Route) :
    (s.updRoute l f).ru = tableUpdate s.ru l f := rfl
@[simp] theorem State.updRoute_bu (l : LeverId) (f : Route → Route) :
    (s.updRoute l f).bu = s.bu := rfl
@[simp] theorem State.updRoute_blc (l : LeverId) (f : Route → Route) :
    (s.updRoute l f).blc = s.blc := rfl
@[simp] theorem State.updRoute_trt (l : LeverId) (f : Route → Route) :
    (s.updRoute l f).trt = s.trt := rfl
@[simp] theorem State.updRoute_au (l : LeverId) (f : Route → Route) :
    (s.updRoute l f).au = s.au := rfl
@[simp] theorem State.updRoute_tb (l : LeverId) (f : Route → Route) :
    (s.updRoute l f).tb = s.tb := rfl

/-! ### `State.updHold` -/

@[simp] theorem State.updHold_pending (h : HoldId) (v : Option Hold) :
    (s.updHold h v).pending = s.pending := rfl
@[simp] theorem State.updHold_draws (h : HoldId) (v : Option Hold) :
    (s.updHold h v).draws = s.draws := rfl
@[simp] theorem State.updHold_cp (h : HoldId) (v : Option Hold) :
    (s.updHold h v).cp = s.cp := rfl
@[simp] theorem State.updHold_device (h : HoldId) (v : Option Hold) :
    (s.updHold h v).device = s.device := rfl
@[simp] theorem State.updHold_cfg (h : HoldId) (v : Option Hold) :
    (s.updHold h v).cfg = s.cfg := rfl
@[simp] theorem State.updHold_sbc (h : HoldId) (v : Option Hold) :
    (s.updHold h v).sbc = s.sbc := rfl
@[simp] theorem State.updHold_boards (h : HoldId) (v : Option Hold) :
    (s.updHold h v).boards = s.boards := rfl
@[simp] theorem State.updHold_tcm (h : HoldId) (v : Option Hold) :
    (s.updHold h v).tcm = s.tcm := rfl
@[simp] theorem State.updHold_llu (h : HoldId) (v : Option Hold) :
    (s.updHold h v).llu = s.llu := rfl
@[simp] theorem State.updHold_ht (h : HoldId) (v : Option Hold) :
    (s.updHold h v).ht = tableUpdate s.ht h fun _ => v := rfl
@[simp] theorem State.updHold_ru (h : HoldId) (v : Option Hold) :
    (s.updHold h v).ru = s.ru := rfl
@[simp] theorem State.updHold_bu (h : HoldId) (v : Option Hold) :
    (s.updHold h v).bu = s.bu := rfl
@[simp] theorem State.updHold_blc (h : HoldId) (v : Option Hold) :
    (s.updHold h v).blc = s.blc := rfl
@[simp] theorem State.updHold_trt (h : HoldId) (v : Option Hold) :
    (s.updHold h v).trt = s.trt := rfl
@[simp] theorem State.updHold_au (h : HoldId) (v : Option Hold) :
    (s.updHold h v).au = s.au := rfl
@[simp] theorem State.updHold_tb (h : HoldId) (v : Option Hold) :
    (s.updHold h v).tb = s.tb := rfl

/-! ### `State.updBell` -/

@[simp] theorem State.updBell_pending (x : Line) (f : BellUnit → BellUnit) :
    (s.updBell x f).pending = s.pending := rfl
@[simp] theorem State.updBell_draws (x : Line) (f : BellUnit → BellUnit) :
    (s.updBell x f).draws = s.draws := rfl
@[simp] theorem State.updBell_cp (x : Line) (f : BellUnit → BellUnit) :
    (s.updBell x f).cp = s.cp := rfl
@[simp] theorem State.updBell_device (x : Line) (f : BellUnit → BellUnit) :
    (s.updBell x f).device = s.device := rfl
@[simp] theorem State.updBell_cfg (x : Line) (f : BellUnit → BellUnit) :
    (s.updBell x f).cfg = s.cfg := rfl
@[simp] theorem State.updBell_sbc (x : Line) (f : BellUnit → BellUnit) :
    (s.updBell x f).sbc = s.sbc := rfl
@[simp] theorem State.updBell_boards (x : Line) (f : BellUnit → BellUnit) :
    (s.updBell x f).boards = s.boards := rfl
@[simp] theorem State.updBell_tcm (x : Line) (f : BellUnit → BellUnit) :
    (s.updBell x f).tcm = s.tcm := rfl
@[simp] theorem State.updBell_llu (x : Line) (f : BellUnit → BellUnit) :
    (s.updBell x f).llu = s.llu := rfl
@[simp] theorem State.updBell_ht (x : Line) (f : BellUnit → BellUnit) :
    (s.updBell x f).ht = s.ht := rfl
@[simp] theorem State.updBell_ru (x : Line) (f : BellUnit → BellUnit) :
    (s.updBell x f).ru = s.ru := rfl
@[simp] theorem State.updBell_bu (x : Line) (f : BellUnit → BellUnit) :
    (s.updBell x f).bu = s.bu.set x (f (s.bu.get x)) := rfl
@[simp] theorem State.updBell_blc (x : Line) (f : BellUnit → BellUnit) :
    (s.updBell x f).blc = s.blc := rfl
@[simp] theorem State.updBell_trt (x : Line) (f : BellUnit → BellUnit) :
    (s.updBell x f).trt = s.trt := rfl
@[simp] theorem State.updBell_au (x : Line) (f : BellUnit → BellUnit) :
    (s.updBell x f).au = s.au := rfl
@[simp] theorem State.updBell_tb (x : Line) (f : BellUnit → BellUnit) :
    (s.updBell x f).tb = s.tb := rfl

/-! ### `State.updLine` -/

@[simp] theorem State.updLine_pending (x : Line) (f : BlockLine → BlockLine) :
    (s.updLine x f).pending = s.pending := rfl
@[simp] theorem State.updLine_draws (x : Line) (f : BlockLine → BlockLine) :
    (s.updLine x f).draws = s.draws := rfl
@[simp] theorem State.updLine_cp (x : Line) (f : BlockLine → BlockLine) :
    (s.updLine x f).cp = s.cp := rfl
@[simp] theorem State.updLine_device (x : Line) (f : BlockLine → BlockLine) :
    (s.updLine x f).device = s.device := rfl
@[simp] theorem State.updLine_cfg (x : Line) (f : BlockLine → BlockLine) :
    (s.updLine x f).cfg = s.cfg := rfl
@[simp] theorem State.updLine_sbc (x : Line) (f : BlockLine → BlockLine) :
    (s.updLine x f).sbc = s.sbc := rfl
@[simp] theorem State.updLine_boards (x : Line) (f : BlockLine → BlockLine) :
    (s.updLine x f).boards = s.boards := rfl
@[simp] theorem State.updLine_tcm (x : Line) (f : BlockLine → BlockLine) :
    (s.updLine x f).tcm = s.tcm := rfl
@[simp] theorem State.updLine_llu (x : Line) (f : BlockLine → BlockLine) :
    (s.updLine x f).llu = s.llu := rfl
@[simp] theorem State.updLine_ht (x : Line) (f : BlockLine → BlockLine) :
    (s.updLine x f).ht = s.ht := rfl
@[simp] theorem State.updLine_ru (x : Line) (f : BlockLine → BlockLine) :
    (s.updLine x f).ru = s.ru := rfl
@[simp] theorem State.updLine_bu (x : Line) (f : BlockLine → BlockLine) :
    (s.updLine x f).bu = s.bu := rfl
@[simp] theorem State.updLine_blc (x : Line) (f : BlockLine → BlockLine) :
    (s.updLine x f).blc = s.blc.set x (f (s.blc.get x)) := rfl
@[simp] theorem State.updLine_trt (x : Line) (f : BlockLine → BlockLine) :
    (s.updLine x f).trt = s.trt := rfl
@[simp] theorem State.updLine_au (x : Line) (f : BlockLine → BlockLine) :
    (s.updLine x f).au = s.au := rfl
@[simp] theorem State.updLine_tb (x : Line) (f : BlockLine → BlockLine) :
    (s.updLine x f).tb = s.tb := rfl

/-! ### `State.updRecord` -/

@[simp] theorem State.updRecord_pending (r : TrainId) (v : Option Train) :
    (s.updRecord r v).pending = s.pending := rfl
@[simp] theorem State.updRecord_draws (r : TrainId) (v : Option Train) :
    (s.updRecord r v).draws = s.draws := rfl
@[simp] theorem State.updRecord_cp (r : TrainId) (v : Option Train) :
    (s.updRecord r v).cp = s.cp := rfl
@[simp] theorem State.updRecord_device (r : TrainId) (v : Option Train) :
    (s.updRecord r v).device = s.device := rfl
@[simp] theorem State.updRecord_cfg (r : TrainId) (v : Option Train) :
    (s.updRecord r v).cfg = s.cfg := rfl
@[simp] theorem State.updRecord_sbc (r : TrainId) (v : Option Train) :
    (s.updRecord r v).sbc = s.sbc := rfl
@[simp] theorem State.updRecord_boards (r : TrainId) (v : Option Train) :
    (s.updRecord r v).boards = s.boards := rfl
@[simp] theorem State.updRecord_tcm (r : TrainId) (v : Option Train) :
    (s.updRecord r v).tcm = s.tcm := rfl
@[simp] theorem State.updRecord_llu (r : TrainId) (v : Option Train) :
    (s.updRecord r v).llu = s.llu := rfl
@[simp] theorem State.updRecord_ht (r : TrainId) (v : Option Train) :
    (s.updRecord r v).ht = s.ht := rfl
@[simp] theorem State.updRecord_ru (r : TrainId) (v : Option Train) :
    (s.updRecord r v).ru = s.ru := rfl
@[simp] theorem State.updRecord_bu (r : TrainId) (v : Option Train) :
    (s.updRecord r v).bu = s.bu := rfl
@[simp] theorem State.updRecord_blc (r : TrainId) (v : Option Train) :
    (s.updRecord r v).blc = s.blc := rfl
@[simp] theorem State.updRecord_trt (r : TrainId) (v : Option Train) :
    (s.updRecord r v).trt = ⟨tableUpdate s.trt.records r fun _ => v, s.trt.owed⟩ := rfl
@[simp] theorem State.updRecord_au (r : TrainId) (v : Option Train) :
    (s.updRecord r v).au = s.au := rfl
@[simp] theorem State.updRecord_tb (r : TrainId) (v : Option Train) :
    (s.updRecord r v).tb = s.tb := rfl

/-! ### `State.updTrain` -/

@[simp] theorem State.updTrain_pending (r : TrainId) (f : Train → Train) :
    (s.updTrain r f).pending = s.pending := rfl
@[simp] theorem State.updTrain_draws (r : TrainId) (f : Train → Train) :
    (s.updTrain r f).draws = s.draws := rfl
@[simp] theorem State.updTrain_cp (r : TrainId) (f : Train → Train) :
    (s.updTrain r f).cp = s.cp := rfl
@[simp] theorem State.updTrain_device (r : TrainId) (f : Train → Train) :
    (s.updTrain r f).device = s.device := rfl
@[simp] theorem State.updTrain_cfg (r : TrainId) (f : Train → Train) :
    (s.updTrain r f).cfg = s.cfg := rfl
@[simp] theorem State.updTrain_sbc (r : TrainId) (f : Train → Train) :
    (s.updTrain r f).sbc = s.sbc := rfl
@[simp] theorem State.updTrain_boards (r : TrainId) (f : Train → Train) :
    (s.updTrain r f).boards = s.boards := rfl
@[simp] theorem State.updTrain_tcm (r : TrainId) (f : Train → Train) :
    (s.updTrain r f).tcm = s.tcm := rfl
@[simp] theorem State.updTrain_llu (r : TrainId) (f : Train → Train) :
    (s.updTrain r f).llu = s.llu := rfl
@[simp] theorem State.updTrain_ht (r : TrainId) (f : Train → Train) :
    (s.updTrain r f).ht = s.ht := rfl
@[simp] theorem State.updTrain_ru (r : TrainId) (f : Train → Train) :
    (s.updTrain r f).ru = s.ru := rfl
@[simp] theorem State.updTrain_bu (r : TrainId) (f : Train → Train) :
    (s.updTrain r f).bu = s.bu := rfl
@[simp] theorem State.updTrain_blc (r : TrainId) (f : Train → Train) :
    (s.updTrain r f).blc = s.blc := rfl
@[simp] theorem State.updTrain_trt (r : TrainId) (f : Train → Train) :
    (s.updTrain r f).trt = ⟨tableUpdate s.trt.records r fun v => v.map f, s.trt.owed⟩ := rfl
@[simp] theorem State.updTrain_au (r : TrainId) (f : Train → Train) :
    (s.updTrain r f).au = s.au := rfl
@[simp] theorem State.updTrain_tb (r : TrainId) (f : Train → Train) :
    (s.updTrain r f).tb = s.tb := rfl

/-! ### `State.setOwed` -/

@[simp] theorem State.setOwed_pending (x : Line) (b : Bool) :
    (s.setOwed x b).pending = s.pending := rfl
@[simp] theorem State.setOwed_draws (x : Line) (b : Bool) :
    (s.setOwed x b).draws = s.draws := rfl
@[simp] theorem State.setOwed_cp (x : Line) (b : Bool) :
    (s.setOwed x b).cp = s.cp := rfl
@[simp] theorem State.setOwed_device (x : Line) (b : Bool) :
    (s.setOwed x b).device = s.device := rfl
@[simp] theorem State.setOwed_cfg (x : Line) (b : Bool) :
    (s.setOwed x b).cfg = s.cfg := rfl
@[simp] theorem State.setOwed_sbc (x : Line) (b : Bool) :
    (s.setOwed x b).sbc = s.sbc := rfl
@[simp] theorem State.setOwed_boards (x : Line) (b : Bool) :
    (s.setOwed x b).boards = s.boards := rfl
@[simp] theorem State.setOwed_tcm (x : Line) (b : Bool) :
    (s.setOwed x b).tcm = s.tcm := rfl
@[simp] theorem State.setOwed_llu (x : Line) (b : Bool) :
    (s.setOwed x b).llu = s.llu := rfl
@[simp] theorem State.setOwed_ht (x : Line) (b : Bool) :
    (s.setOwed x b).ht = s.ht := rfl
@[simp] theorem State.setOwed_ru (x : Line) (b : Bool) :
    (s.setOwed x b).ru = s.ru := rfl
@[simp] theorem State.setOwed_bu (x : Line) (b : Bool) :
    (s.setOwed x b).bu = s.bu := rfl
@[simp] theorem State.setOwed_blc (x : Line) (b : Bool) :
    (s.setOwed x b).blc = s.blc := rfl
@[simp] theorem State.setOwed_trt (x : Line) (b : Bool) :
    (s.setOwed x b).trt = ⟨s.trt.records, s.trt.owed.set x b⟩ := rfl
@[simp] theorem State.setOwed_au (x : Line) (b : Bool) :
    (s.setOwed x b).au = s.au := rfl
@[simp] theorem State.setOwed_tb (x : Line) (b : Bool) :
    (s.setOwed x b).tb = s.tb := rfl

/-! ### `State.updSource` -/

@[simp] theorem State.updSource_pending (i : SourceId) (f : SourceRecord → SourceRecord) :
    (s.updSource i f).pending = s.pending := rfl
@[simp] theorem State.updSource_draws (i : SourceId) (f : SourceRecord → SourceRecord) :
    (s.updSource i f).draws = s.draws := rfl
@[simp] theorem State.updSource_cp (i : SourceId) (f : SourceRecord → SourceRecord) :
    (s.updSource i f).cp = s.cp := rfl
@[simp] theorem State.updSource_device (i : SourceId) (f : SourceRecord → SourceRecord) :
    (s.updSource i f).device = s.device := rfl
@[simp] theorem State.updSource_cfg (i : SourceId) (f : SourceRecord → SourceRecord) :
    (s.updSource i f).cfg = s.cfg := rfl
@[simp] theorem State.updSource_sbc (i : SourceId) (f : SourceRecord → SourceRecord) :
    (s.updSource i f).sbc = s.sbc := rfl
@[simp] theorem State.updSource_boards (i : SourceId) (f : SourceRecord → SourceRecord) :
    (s.updSource i f).boards = s.boards := rfl
@[simp] theorem State.updSource_tcm (i : SourceId) (f : SourceRecord → SourceRecord) :
    (s.updSource i f).tcm = s.tcm := rfl
@[simp] theorem State.updSource_llu (i : SourceId) (f : SourceRecord → SourceRecord) :
    (s.updSource i f).llu = s.llu := rfl
@[simp] theorem State.updSource_ht (i : SourceId) (f : SourceRecord → SourceRecord) :
    (s.updSource i f).ht = s.ht := rfl
@[simp] theorem State.updSource_ru (i : SourceId) (f : SourceRecord → SourceRecord) :
    (s.updSource i f).ru = s.ru := rfl
@[simp] theorem State.updSource_bu (i : SourceId) (f : SourceRecord → SourceRecord) :
    (s.updSource i f).bu = s.bu := rfl
@[simp] theorem State.updSource_blc (i : SourceId) (f : SourceRecord → SourceRecord) :
    (s.updSource i f).blc = s.blc := rfl
@[simp] theorem State.updSource_trt (i : SourceId) (f : SourceRecord → SourceRecord) :
    (s.updSource i f).trt = s.trt := rfl
@[simp] theorem State.updSource_au (i : SourceId) (f : SourceRecord → SourceRecord) :
    (s.updSource i f).au = tableUpdate s.au i f := rfl
@[simp] theorem State.updSource_tb (i : SourceId) (f : SourceRecord → SourceRecord) :
    (s.updSource i f).tb = s.tb := rfl

/-! ### `State.setPort` -/

@[simp] theorem State.setPort_pending (p : ConsolePort) :
    (s.setPort p).pending = s.pending := rfl
@[simp] theorem State.setPort_draws (p : ConsolePort) :
    (s.setPort p).draws = s.draws := rfl
@[simp] theorem State.setPort_cp (p : ConsolePort) :
    (s.setPort p).cp = p := rfl
@[simp] theorem State.setPort_device (p : ConsolePort) :
    (s.setPort p).device = s.device := rfl
@[simp] theorem State.setPort_cfg (p : ConsolePort) :
    (s.setPort p).cfg = s.cfg := rfl
@[simp] theorem State.setPort_sbc (p : ConsolePort) :
    (s.setPort p).sbc = s.sbc := rfl
@[simp] theorem State.setPort_boards (p : ConsolePort) :
    (s.setPort p).boards = s.boards := rfl
@[simp] theorem State.setPort_tcm (p : ConsolePort) :
    (s.setPort p).tcm = s.tcm := rfl
@[simp] theorem State.setPort_llu (p : ConsolePort) :
    (s.setPort p).llu = s.llu := rfl
@[simp] theorem State.setPort_ht (p : ConsolePort) :
    (s.setPort p).ht = s.ht := rfl
@[simp] theorem State.setPort_ru (p : ConsolePort) :
    (s.setPort p).ru = s.ru := rfl
@[simp] theorem State.setPort_bu (p : ConsolePort) :
    (s.setPort p).bu = s.bu := rfl
@[simp] theorem State.setPort_blc (p : ConsolePort) :
    (s.setPort p).blc = s.blc := rfl
@[simp] theorem State.setPort_trt (p : ConsolePort) :
    (s.setPort p).trt = s.trt := rfl
@[simp] theorem State.setPort_au (p : ConsolePort) :
    (s.setPort p).au = s.au := rfl
@[simp] theorem State.setPort_tb (p : ConsolePort) :
    (s.setPort p).tb = s.tb := rfl

/-! ### `State.setSbc` -/

@[simp] theorem State.setSbc_pending (b : ScanBus) :
    (s.setSbc b).pending = s.pending := rfl
@[simp] theorem State.setSbc_draws (b : ScanBus) :
    (s.setSbc b).draws = s.draws := rfl
@[simp] theorem State.setSbc_cp (b : ScanBus) :
    (s.setSbc b).cp = s.cp := rfl
@[simp] theorem State.setSbc_device (b : ScanBus) :
    (s.setSbc b).device = s.device := rfl
@[simp] theorem State.setSbc_cfg (b : ScanBus) :
    (s.setSbc b).cfg = s.cfg := rfl
@[simp] theorem State.setSbc_sbc (b : ScanBus) :
    (s.setSbc b).sbc = b := rfl
@[simp] theorem State.setSbc_boards (b : ScanBus) :
    (s.setSbc b).boards = s.boards := rfl
@[simp] theorem State.setSbc_tcm (b : ScanBus) :
    (s.setSbc b).tcm = s.tcm := rfl
@[simp] theorem State.setSbc_llu (b : ScanBus) :
    (s.setSbc b).llu = s.llu := rfl
@[simp] theorem State.setSbc_ht (b : ScanBus) :
    (s.setSbc b).ht = s.ht := rfl
@[simp] theorem State.setSbc_ru (b : ScanBus) :
    (s.setSbc b).ru = s.ru := rfl
@[simp] theorem State.setSbc_bu (b : ScanBus) :
    (s.setSbc b).bu = s.bu := rfl
@[simp] theorem State.setSbc_blc (b : ScanBus) :
    (s.setSbc b).blc = s.blc := rfl
@[simp] theorem State.setSbc_trt (b : ScanBus) :
    (s.setSbc b).trt = s.trt := rfl
@[simp] theorem State.setSbc_au (b : ScanBus) :
    (s.setSbc b).au = s.au := rfl
@[simp] theorem State.setSbc_tb (b : ScanBus) :
    (s.setSbc b).tb = s.tb := rfl

/-! ### `State.setCfg` -/

@[simp] theorem State.setCfg_pending (c : ConfigStore) :
    (s.setCfg c).pending = s.pending := rfl
@[simp] theorem State.setCfg_draws (c : ConfigStore) :
    (s.setCfg c).draws = s.draws := rfl
@[simp] theorem State.setCfg_cp (c : ConfigStore) :
    (s.setCfg c).cp = s.cp := rfl
@[simp] theorem State.setCfg_device (c : ConfigStore) :
    (s.setCfg c).device = s.device := rfl
@[simp] theorem State.setCfg_cfg (c : ConfigStore) :
    (s.setCfg c).cfg = c := rfl
@[simp] theorem State.setCfg_sbc (c : ConfigStore) :
    (s.setCfg c).sbc = s.sbc := rfl
@[simp] theorem State.setCfg_boards (c : ConfigStore) :
    (s.setCfg c).boards = s.boards := rfl
@[simp] theorem State.setCfg_tcm (c : ConfigStore) :
    (s.setCfg c).tcm = s.tcm := rfl
@[simp] theorem State.setCfg_llu (c : ConfigStore) :
    (s.setCfg c).llu = s.llu := rfl
@[simp] theorem State.setCfg_ht (c : ConfigStore) :
    (s.setCfg c).ht = s.ht := rfl
@[simp] theorem State.setCfg_ru (c : ConfigStore) :
    (s.setCfg c).ru = s.ru := rfl
@[simp] theorem State.setCfg_bu (c : ConfigStore) :
    (s.setCfg c).bu = s.bu := rfl
@[simp] theorem State.setCfg_blc (c : ConfigStore) :
    (s.setCfg c).blc = s.blc := rfl
@[simp] theorem State.setCfg_trt (c : ConfigStore) :
    (s.setCfg c).trt = s.trt := rfl
@[simp] theorem State.setCfg_au (c : ConfigStore) :
    (s.setCfg c).au = s.au := rfl
@[simp] theorem State.setCfg_tb (c : ConfigStore) :
    (s.setCfg c).tb = s.tb := rfl

/-! ### `State.withPending` -/

@[simp] theorem State.withPending_pending (q : List Instr) :
    (s.withPending q).pending = q := rfl
@[simp] theorem State.withPending_draws (q : List Instr) :
    (s.withPending q).draws = s.draws := rfl
@[simp] theorem State.withPending_cp (q : List Instr) :
    (s.withPending q).cp = s.cp := rfl
@[simp] theorem State.withPending_device (q : List Instr) :
    (s.withPending q).device = s.device := rfl
@[simp] theorem State.withPending_cfg (q : List Instr) :
    (s.withPending q).cfg = s.cfg := rfl
@[simp] theorem State.withPending_sbc (q : List Instr) :
    (s.withPending q).sbc = s.sbc := rfl
@[simp] theorem State.withPending_boards (q : List Instr) :
    (s.withPending q).boards = s.boards := rfl
@[simp] theorem State.withPending_tcm (q : List Instr) :
    (s.withPending q).tcm = s.tcm := rfl
@[simp] theorem State.withPending_llu (q : List Instr) :
    (s.withPending q).llu = s.llu := rfl
@[simp] theorem State.withPending_ht (q : List Instr) :
    (s.withPending q).ht = s.ht := rfl
@[simp] theorem State.withPending_ru (q : List Instr) :
    (s.withPending q).ru = s.ru := rfl
@[simp] theorem State.withPending_bu (q : List Instr) :
    (s.withPending q).bu = s.bu := rfl
@[simp] theorem State.withPending_blc (q : List Instr) :
    (s.withPending q).blc = s.blc := rfl
@[simp] theorem State.withPending_trt (q : List Instr) :
    (s.withPending q).trt = s.trt := rfl
@[simp] theorem State.withPending_au (q : List Instr) :
    (s.withPending q).au = s.au := rfl
@[simp] theorem State.withPending_tb (q : List Instr) :
    (s.withPending q).tb = s.tb := rfl

/-! ### `State.answered` -/

@[simp] theorem State.answered_pending (n : Byte) (r : Reply) :
    (s.answered n r).pending = s.pending := rfl
@[simp] theorem State.answered_draws (n : Byte) (r : Reply) :
    (s.answered n r).draws = s.draws + 1 := rfl
@[simp] theorem State.answered_cp (n : Byte) (r : Reply) :
    (s.answered n r).cp = ⟨.replyReady, s.cp.selected, s.cp.request, replyFrame n r, s.cp.miso⟩ := rfl
@[simp] theorem State.answered_device (n : Byte) (r : Reply) :
    (s.answered n r).device = s.device := rfl
@[simp] theorem State.answered_cfg (n : Byte) (r : Reply) :
    (s.answered n r).cfg = s.cfg := rfl
@[simp] theorem State.answered_sbc (n : Byte) (r : Reply) :
    (s.answered n r).sbc = s.sbc := rfl
@[simp] theorem State.answered_boards (n : Byte) (r : Reply) :
    (s.answered n r).boards = s.boards := rfl
@[simp] theorem State.answered_tcm (n : Byte) (r : Reply) :
    (s.answered n r).tcm = s.tcm := rfl
@[simp] theorem State.answered_llu (n : Byte) (r : Reply) :
    (s.answered n r).llu = s.llu := rfl
@[simp] theorem State.answered_ht (n : Byte) (r : Reply) :
    (s.answered n r).ht = s.ht := rfl
@[simp] theorem State.answered_ru (n : Byte) (r : Reply) :
    (s.answered n r).ru = s.ru := rfl
@[simp] theorem State.answered_bu (n : Byte) (r : Reply) :
    (s.answered n r).bu = s.bu := rfl
@[simp] theorem State.answered_blc (n : Byte) (r : Reply) :
    (s.answered n r).blc = s.blc := rfl
@[simp] theorem State.answered_trt (n : Byte) (r : Reply) :
    (s.answered n r).trt = s.trt := rfl
@[simp] theorem State.answered_au (n : Byte) (r : Reply) :
    (s.answered n r).au = s.au := rfl
@[simp] theorem State.answered_tb (n : Byte) (r : Reply) :
    (s.answered n r).tb = s.tb := rfl

/-! ### `State.holding` -/

@[simp] theorem State.holding_pending (r : List Byte) :
    (s.holding r).pending = s.pending := rfl
@[simp] theorem State.holding_draws (r : List Byte) :
    (s.holding r).draws = s.draws + 1 := rfl
@[simp] theorem State.holding_cp (r : List Byte) :
    (s.holding r).cp = ⟨.replyReady, s.cp.selected, s.cp.request, r, s.cp.miso⟩ := rfl
@[simp] theorem State.holding_device (r : List Byte) :
    (s.holding r).device = s.device := rfl
@[simp] theorem State.holding_cfg (r : List Byte) :
    (s.holding r).cfg = s.cfg := rfl
@[simp] theorem State.holding_sbc (r : List Byte) :
    (s.holding r).sbc = s.sbc := rfl
@[simp] theorem State.holding_boards (r : List Byte) :
    (s.holding r).boards = s.boards := rfl
@[simp] theorem State.holding_tcm (r : List Byte) :
    (s.holding r).tcm = s.tcm := rfl
@[simp] theorem State.holding_llu (r : List Byte) :
    (s.holding r).llu = s.llu := rfl
@[simp] theorem State.holding_ht (r : List Byte) :
    (s.holding r).ht = s.ht := rfl
@[simp] theorem State.holding_ru (r : List Byte) :
    (s.holding r).ru = s.ru := rfl
@[simp] theorem State.holding_bu (r : List Byte) :
    (s.holding r).bu = s.bu := rfl
@[simp] theorem State.holding_blc (r : List Byte) :
    (s.holding r).blc = s.blc := rfl
@[simp] theorem State.holding_trt (r : List Byte) :
    (s.holding r).trt = s.trt := rfl
@[simp] theorem State.holding_au (r : List Byte) :
    (s.holding r).au = s.au := rfl
@[simp] theorem State.holding_tb (r : List Byte) :
    (s.holding r).tb = s.tb := rfl

end Sys2Proof.Machine
end

