-- ==== Sys2Proof/Laws/Tables.lean ====
section
/-! SUPPORT. What the table operations of Word.lean do: a read after an update, the induction principle
of a pass over a table, and the meaning of the lowest index that satisfies a test. -/

namespace Sys2Proof

/-! ### Tables -/

/-- In the spelling simp gives a `Fin` index. -/
@[simp] theorem tableUpdate_getElem {α : Type} {n : Nat} (v : Vector α n) (i : Fin n) (k : Nat)
    (h : k < n) (f : α → α) : (tableUpdate v i f)[k] = if i.val = k then f v[k] else v[k] := by
  unfold tableUpdate
  rw [Vector.getElem_set]
  split
  · next e => subst e; rfl
  · rfl

theorem tableUpdate_get {α : Type} {n : Nat} (v : Vector α n) (i j : Fin n) (f : α → α) :
    (tableUpdate v i f)[j] = if i = j then f v[j] else v[j] := by
  simp [Fin.ext_iff]

theorem tableUpdate_get_self {α : Type} {n : Nat} (v : Vector α n) (i : Fin n) (f : α → α) :
    (tableUpdate v i f)[i] = f v[i] := by
  simp

theorem tableUpdate_get_ne {α : Type} {n : Nat} (v : Vector α n) {i j : Fin n} (f : α → α)
    (h : j ≠ i) : (tableUpdate v i f)[j] = v[j] := by
  simp [Fin.val_ne_of_ne (Ne.symm h)]

@[simp] theorem tabulate_getElem {α : Type} {n : Nat} (f : Fin n → α) (k : Nat) (h : k < n) :
    (tabulate f)[k] = f ⟨k, h⟩ := by
  simp [tabulate]

theorem tabulate_get {α : Type} {n : Nat} (f : Fin n → α) (i : Fin n) : (tabulate f)[i] = f i := by
  simp

/-- Two tables with the same entries are the same table. -/
theorem table_ext {α : Type} {n : Nat} {v w : Vector α n} (h : ∀ i : Fin n, v[i] = w[i]) :
    v = w :=
  Vector.ext fun i hi => h ⟨i, hi⟩

/-! ### One value per line -/

theorem PerLine.get_set {α : Type} (p : PerLine α) (x y : Line) (v : α) :
    (p.set x v).get y = if x = y then v else p.get y := by
  cases x <;> cases y <;> rfl

@[simp] theorem PerLine.get_set_self {α : Type} (p : PerLine α) (x : Line) (v : α) :
    (p.set x v).get x = v := by
  cases x <;> rfl

theorem PerLine.get_set_ne {α : Type} (p : PerLine α) {x y : Line} (v : α) (h : y ≠ x) :
    (p.set x v).get y = p.get y := by
  cases x <;> cases y <;> first | rfl | exact absurd rfl h

@[simp] theorem PerLine.get_map {α β : Type} (f : α → β) (p : PerLine α) (x : Line) :
    (p.map f).get x = f (p.get x) := by
  cases x <;> rfl

@[simp] theorem PerLine.get_same {α : Type} (v : α) (x : Line) : (PerLine.same v).get x = v := by
  cases x <;> rfl

@[simp] theorem PerLine.set_get {α : Type} (p : PerLine α) (x : Line) : p.set x (p.get x) = p := by
  cases x <;> rfl

@[simp] theorem PerLine.set_set {α : Type} (p : PerLine α) (x : Line) (v w : α) :
    (p.set x v).set x w = p.set x w := by
  cases x <;> rfl

/-- Two line tables with the same values are the same table. -/
theorem PerLine.ext_get {α : Type} {p q : PerLine α} (h : ∀ x, p.get x = q.get x) : p = q := by
  have ha := h .a
  have hb := h .b
  have hc := h .c
  cases p; cases q
  simp_all [PerLine.get]

/-! ### Passes -/

/-- What holds before a pass and is kept by each of its turns holds after it. -/
theorem forEach_keeps {σ : Type} {n : Nat} {f : Fin n → σ → σ} {P : σ → Prop}
    (step : ∀ i s, P s → P (f i s)) (s : σ) (h : P s) : P (forEach n f s) := by
  unfold forEach
  generalize List.finRange n = l
  induction l generalizing s with
  | nil => exact h
  | cons i l ih => exact ih _ (step i s h)

/-- A field that no turn of a pass changes is as before it. -/
theorem forEach_field {σ α : Type} {n : Nat} {f : Fin n → σ → σ} (g : σ → α)
    (step : ∀ i s, g (f i s) = g s) (s : σ) : g (forEach n f s) = g s :=
  @forEach_keeps σ n f (fun t => g t = g s) (fun i t h => (step i t).trans h) s rfl

theorem foldl_field {σ α ι : Type} {f : σ → ι → σ} (g : σ → α) (step : ∀ s i, g (f s i) = g s)
    (l : List ι) (s : σ) : g (l.foldl f s) = g s := by
  induction l generalizing s with
  | nil => rfl
  | cons i l ih => exact (ih _).trans (step s i)

/-- A pass whose turn `i` alone writes what `g` reads of `i`: the value turn `i` gives is the value
after the pass. `g i` is left alone by every other turn, and turn `i` finds it as it was, with `k`
kept by every turn. -/
theorem forEach_entry {σ α κ : Type} {n : Nat} {f : Fin n → σ → σ} (g : Fin n → σ → α) (k : σ → κ)
    (v : Fin n → α → κ → α) (own : ∀ i s, g i (f i s) = v i (g i s) (k s))
    (others : ∀ i j s, j ≠ i → g j (f i s) = g j s) (kept : ∀ i s, k (f i s) = k s) (s : σ)
    (i : Fin n) : g i (forEach n f s) = v i (g i s) (k s) := by
  have main : ∀ (l : List (Fin n)) (s : σ), l.Nodup →
      g i (l.foldl (fun s i => f i s) s) = if i ∈ l then v i (g i s) (k s) else g i s := by
    intro l
    induction l with
    | nil => intro s _; simp
    | cons j l ih =>
      intro s nd
      have nd' := List.nodup_cons.mp nd
      rw [List.foldl_cons, ih _ nd'.2]
      by_cases hij : i = j
      · subst hij; simp [nd'.1, own]
      · simp [hij, others j i s hij, kept]
  have := main (List.finRange n) s (List.nodup_finRange n)
  simpa [forEach] using this

/-- What holds before a pass over the lines and is kept by each of its turns holds after it. -/
theorem forEachLine_keeps {σ : Type} {f : Line → σ → σ} {P : σ → Prop}
    (step : ∀ x s, P s → P (f x s)) (s : σ) (h : P s) : P (forEachLine f s) :=
  step .c _ (step .b _ (step .a _ h))

/-- A field that no turn of a pass over the lines changes is as before it. -/
theorem forEachLine_field {σ α : Type} {f : Line → σ → σ} (g : σ → α)
    (step : ∀ x s, g (f x s) = g s) (s : σ) : g (forEachLine f s) = g s := by
  simp [forEachLine, step]

/-! ### The lowest index -/

/-- The lowest index that satisfies a test is the one that satisfies it with none below it. -/
theorem lowest_eq_some {n : Nat} {p : Fin n → Bool} {i : Fin n} :
    lowest p = some i ↔ p i = true ∧ ∀ j : Fin n, j.val < i.val → p j = false := by
  unfold lowest
  rw [List.find?_eq_some_iff_getElem]
  constructor
  · rintro ⟨h, k, hk, e, lower⟩
    have hik : i.val = k := by rw [← e]; simp
    refine ⟨h, fun j hj => ?_⟩
    have := lower j.val (by omega)
    simpa using this
  · rintro ⟨h, lower⟩
    refine ⟨h, i.val, by simp, by simp, fun j hj => ?_⟩
    have := lower ⟨j, by omega⟩ (by simpa using hj)
    simpa using this

/-- No index satisfies a test that has no lowest one. -/
theorem lowest_eq_none {n : Nat} {p : Fin n → Bool} :
    lowest p = none ↔ ∀ i : Fin n, p i = false := by
  simp [lowest]

/-- The only index that satisfies a test is the lowest one. -/
theorem lowest_of_unique {n : Nat} {p : Fin n → Bool} {i : Fin n} (h : p i = true)
    (only : ∀ j, p j = true → j = i) : lowest p = some i := by
  refine lowest_eq_some.mpr ⟨h, fun j hj => ?_⟩
  cases e : p j with
  | false => rfl
  | true => exact absurd (congrArg Fin.val (only j e)) (by omega)

end Sys2Proof
end

