-- ==== Sys2Proof/Laws/Ops.lean ====
section
/-! SUPPORT. What each shared operation can do, said once: the pins, attention, replies, the Hold Table's
creations and retirements, the block hold, the fault count, a send, a route made IDLE, the retirement
check, and the lookups of trains and code entries. -/

namespace Sys2Proof.Machine

/-! ### The pins -/

/-- R176: MISO stands at high impedance in every clock while the port is not selected. -/
@[simp] theorem misoPin_of_unselected {s : State} (h : s.cp.selected = none) (k : Nat) :
    s.misoPin k = .highZ := by simp [State.misoPin, h]

/-- R176: a selected port drives the bits of its selection. -/
@[simp] theorem misoPin_of_selected {s : State} {at_ : PortState} (h : s.cp.selected = some at_)
    (k : Nat) : s.misoPin k = .driven (s.cp.miso.getD k false) := by simp [State.misoPin, h]

/-- R1, R16: SFS is low where no frame is in progress and no closing sync is driven. -/
@[simp] theorem sfsIn_of_idle {s : State} (frame : s.sbc.frame = none)
    (pulse : s.sbc.syncPulse = false) (k : Nat) : s.sfsIn k = false := by
  simp [State.sfsIn, frame, pulse]

/-- R115: a wave that follows another is read from the end of the first. -/
theorem waveLevel_append (a b : List (Bool × Nat)) (n : Nat) :
    waveLevel (a ++ b) n = if n < (a.map Prod.snd).sum then waveLevel a n
      else waveLevel b (n - (a.map Prod.snd).sum) := by
  induction a generalizing n with
  | nil => simp
  | cons step rest ih =>
    simp only [List.cons_append, waveLevel, List.map_cons, List.sum_cons]
    split
    · rw [if_pos (by omega)]
    · rw [ih, Nat.sub_sub]
      exact if_congr (by omega) rfl rfl

/-- R115: the ticks of a group's wave. -/
theorem groupWave_length (t : Timing) (g : Nat) :
    ((groupWave t g).map Prod.snd).sum = g * t.on + (g - 1) * t.intra := by
  match g with
  | 0 => simp [groupWave]
  | 1 => simp [groupWave]
  | n + 2 =>
    simp only [groupWave, List.map_cons, List.sum_cons, groupWave_length t (n + 1),
      Nat.add_sub_cancel, show n + 2 - 1 = n + 1 from rfl]
    ring

/-! ### Attention -/

/-- R168: after a latch the source is pending with the new detail, and the rest is as it was. -/
theorem latch_latched_of {src : Source} {d : Detail} {s s1 : State} (h : s1.au = s.au) :
    Latched src d s (latch src d s1) where
  pending := by simp [latch, SourceRecord.latch]
  detail := by simp [latch, SourceRecord.latch]
  multiple := by simp [latch, SourceRecord.latch, h]
  settings := by simp [latch, SourceRecord.latch, h]
  others i ne := by
    have ne' : src.id.val ≠ i.val := fun e => ne (Fin.ext e.symm)
    simp [latch, ne', h]

theorem latch_latched (src : Source) (d : Detail) (s : State) : Latched src d s (latch src d s) :=
  latch_latched_of rfl

/-- A latch writes the attention records only. -/
@[simp] theorem latch_frame (src : Source) (d : Detail) (s : State) :
    (latch src d s).pending = s.pending ∧ (latch src d s).draws = s.draws ∧
    (latch src d s).cp = s.cp ∧ (latch src d s).device = s.device ∧
    (latch src d s).cfg = s.cfg ∧ (latch src d s).sbc = s.sbc ∧
    (latch src d s).boards = s.boards ∧ (latch src d s).tcm = s.tcm ∧
    (latch src d s).llu = s.llu ∧ (latch src d s).ht = s.ht ∧ (latch src d s).ru = s.ru ∧
    (latch src d s).bu = s.bu ∧ (latch src d s).blc = s.blc ∧ (latch src d s).trt = s.trt ∧
    (latch src d s).tb = s.tb := by
  simp [latch]

/-! ### Replies -/

/-- R188: an answer formed is a state that holds the reply frame. -/
theorem answered_eq_holding (s : State) (n : Byte) (r : Reply) :
    s.answered n r = s.holding (replyBytes r.status.code n r.data) := rfl

/-- R177: with no request EXECUTING, a request command runs its owner and forms its reply. -/
theorem serve_of_portFree {n : Byte} {take : State → State × Reply} {s : State}
    (h : s.portFree) : serve n take s =
      .next ((take s).1.holding (replyBytes (take s).2.status.code n (take s).2.data)) := by
  unfold serve
  rw [if_neg h]
  rfl

/-- A request command always answers a next state: its owner's, or the same state while a request is
EXECUTING. -/
theorem serve_cases (n : Byte) (take : State → State × Reply) (s : State) :
    serve n take s = .next s ∨ serve n take s = .next (reply n (take s)) := by
  unfold serve
  split
  · exact .inl rfl
  · exact .inr rfl

/-! ### The Hold Table -/

theorem mem_freeShared {ht : Vector (Option Hold) 72} {h : HoldId} :
    h ∈ freeShared ht ↔ h.val < 64 ∧ ht[h] = none := by
  simp [freeShared, inShared]

theorem mem_freeReserve {ht : Vector (Option Hold) 72} {h : HoldId} :
    h ∈ freeReserve ht ↔ 67 ≤ h.val ∧ ht[h] = none := by
  simp [freeReserve, inReserve]

theorem freeShared_nodup (ht : Vector (Option Hold) 72) : (freeShared ht).Nodup :=
  (List.nodup_finRange 72).filter _

theorem freeReserve_nodup (ht : Vector (Option Hold) 72) : (freeReserve ht).Nodup :=
  (List.nodup_finRange 72).filter _

/-- The free shared entries stand in ascending order. -/
theorem freeShared_ascending (ht : Vector (Option Hold) 72) :
    (freeShared ht).Pairwise fun i j => i.val < j.val :=
  (List.pairwise_lt_finRange 72).filter _

/-- The free reserve entries stand in ascending order. -/
theorem freeReserve_ascending (ht : Vector (Option Hold) 72) :
    (freeReserve ht).Pairwise fun i j => i.val < j.val :=
  (List.pairwise_lt_finRange 72).filter _

/-- A group leaves every entry it was not given as it was. -/
theorem writeGroup_outside (c : Clock) (l : List (HoldId × GroupEntry)) {h : HoldId}
    (ht : Vector (Option Hold) 72) (out : ∀ e ∈ l, e.1 ≠ h) :
    (writeGroup c ht l)[h] = ht[h] := by
  induction l generalizing ht with
  | nil => rfl
  | cons e l ih =>
    rw [writeGroup, ih _ fun e' m => out e' (List.mem_cons_of_mem _ m)]
    exact tableUpdate_get_ne _ _ (Ne.symm (out e List.mem_cons_self))

/-- A group fills each entry it was given with its own hold. -/
theorem writeGroup_inside (c : Clock) (l : List (HoldId × GroupEntry)) {h : HoldId}
    {e : GroupEntry} (ht : Vector (Option Hold) 72) (nd : (l.map Prod.fst).Nodup)
    (m : (h, e) ∈ l) :
    (writeGroup c ht l)[h] = some ⟨e.kind, e.lever, e.position, c⟩ := by
  induction l generalizing ht with
  | nil => cases m
  | cons p l ih =>
    simp only [List.map_cons, List.nodup_cons] at nd
    rcases List.mem_cons.mp m with rfl | m
    · rw [writeGroup, writeGroup_outside c l _
        fun e' m' eq => nd.1 (List.mem_map.mpr ⟨e', m', eq⟩)]
      exact tableUpdate_get_self _ _ _
    · exact ih _ nd.2 m

/-- R66 to R68, R70: the three answers to a group. -/
theorem createGroup_cases (entries : List GroupEntry) (who : Detail) (s : State) :
    (s.device = .config ∧ createGroup entries who s = (.state, s)) ∨
    (s.device = .service ∧ entries.length ≤ (freeShared s.ht).length ∧
      createGroup entries who s = (.created ((freeShared s.ht).take entries.length),
        { s with ht := writeGroup s.tb.clock s.ht (((freeShared s.ht).take entries.length).zip entries) })) ∨
    (s.device = .service ∧ (freeShared s.ht).length < entries.length ∧
      createGroup entries who s = (.pool, latch .pool who s)) := by
  unfold createGroup sharedCount
  cases hd : s.device with
  | config => simp
  | service =>
    by_cases h : entries.length ≤ (freeShared s.ht).length
    · exact .inr (.inl ⟨rfl, h, by simp [h]⟩)
    · exact .inr (.inr ⟨rfl, by omega, by simp [h]⟩)

/-- R71: a retirement frees the live holds that its selection matches and no other. -/
theorem retireWhere_live {p : Hold → Bool} {s : State} {h : HoldId} {hold : Hold} :
    (retireWhere p s).ht[h] = some hold ↔ s.ht[h] = some hold ∧ p hold = false := by
  rw [retireWhere, tabulate_get]
  cases s.ht[h] with
  | none => simp
  | some k =>
    cases hp : p k with
    | true =>
      simp only [hp, if_true]
      constructor
      · intro e; cases e
      · rintro ⟨e, f⟩; cases e; rw [hp] at f; cases f
    | false =>
      simp only [hp]
      constructor
      · intro e; cases e; exact ⟨rfl, hp⟩
      · rintro ⟨e, -⟩; simpa using e

/-- A retirement leaves a free entry free. -/
theorem retireWhere_free {p : Hold → Bool} {s : State} {h : HoldId} (e : s.ht[h] = none) :
    (retireWhere p s).ht[h] = none := by
  rw [retireWhere, tabulate_get, e]

/-- A retirement writes the Hold Table only. -/
@[simp] theorem retireWhere_frame (p : Hold → Bool) (s : State) :
    (retireWhere p s).pending = s.pending ∧ (retireWhere p s).draws = s.draws ∧
    (retireWhere p s).cp = s.cp ∧ (retireWhere p s).device = s.device ∧
    (retireWhere p s).cfg = s.cfg ∧ (retireWhere p s).sbc = s.sbc ∧
    (retireWhere p s).boards = s.boards ∧ (retireWhere p s).tcm = s.tcm ∧
    (retireWhere p s).llu = s.llu ∧ (retireWhere p s).ru = s.ru ∧ (retireWhere p s).bu = s.bu ∧
    (retireWhere p s).blc = s.blc ∧ (retireWhere p s).trt = s.trt ∧ (retireWhere p s).au = s.au ∧
    (retireWhere p s).tb = s.tb := by
  simp [retireWhere]

theorem ownedByRoute_iff {l : LeverId} {h : Hold} :
    h.ownedByRoute l = true ↔ ∃ c, h.kind = .route l c := by
  unfold Hold.ownedByRoute
  cases h.kind <;> simp

theorem clearingOf_iff {x : Line} {h : Hold} : h.clearingOf x = true ↔ h.kind = .clearing x := by
  unfold Hold.clearingOf
  cases h.kind <;> simp

/-! ### The block hold -/

theorem blockEntry_inj {x y : Line} : blockEntry x = blockEntry y ↔ x = y := by
  cases x <;> cases y <;> decide

/-- R69: the line's block hold after it is ensured. -/
theorem ensureBlock_entry (x : Line) (s : State) :
    (ensureBlock x s).ht[blockEntry x] = match s.ht[blockEntry x], (s.cfg.lines.get x).starter with
      | none, some l => some ⟨.block x, l, .normal, s.tb.clock⟩
      | v, _ => v := by
  unfold ensureBlock
  cases h : s.ht[blockEntry x] with
  | none =>
    cases (s.cfg.lines.get x).starter with
    | none => simpa using h
    | some l => rw [State.updHold_ht, tableUpdate_get_self]
  | some v => simpa using h

/-- Ensuring a block hold touches no other entry. -/
theorem ensureBlock_other {x : Line} {s : State} {h : HoldId} (ne : h ≠ blockEntry x) :
    (ensureBlock x s).ht[h] = s.ht[h] := by
  unfold ensureBlock
  split
  · rw [State.updHold_ht, tableUpdate_get_ne _ _ ne]
  · rfl

/-- Ensuring a block hold writes the Hold Table only. -/
@[simp] theorem ensureBlock_frame (x : Line) (s : State) :
    (ensureBlock x s).pending = s.pending ∧ (ensureBlock x s).draws = s.draws ∧
    (ensureBlock x s).cp = s.cp ∧ (ensureBlock x s).device = s.device ∧
    (ensureBlock x s).cfg = s.cfg ∧ (ensureBlock x s).sbc = s.sbc ∧
    (ensureBlock x s).boards = s.boards ∧ (ensureBlock x s).tcm = s.tcm ∧
    (ensureBlock x s).llu = s.llu ∧ (ensureBlock x s).ru = s.ru ∧ (ensureBlock x s).bu = s.bu ∧
    (ensureBlock x s).blc = s.blc ∧ (ensureBlock x s).trt = s.trt ∧
    (ensureBlock x s).au = s.au ∧ (ensureBlock x s).tb = s.tb := by
  unfold ensureBlock
  split <;> simp

/-- R135: the block condition in the words of the rule. -/
theorem blockCondition_iff {b : BlockLine} : b.blockCondition = true ↔
    b.outState = .clear ∧ b.count < 255 ∧ b.obstruction = false ∧ b.standing = .accepted := by
  unfold BlockLine.blockCondition BlockLine.suspended BlockLine.health healthOf
  by_cases h : b.count < 96
  · simp [h, and_assoc, show b.count < 255 by omega]
  · by_cases h' : b.count < 255 <;> simp [h, h', and_assoc]

/-- R131: SUSPENDED is a count of 255 or more. -/
theorem suspended_iff {b : BlockLine} : b.suspended = true ↔ 255 ≤ b.count := by
  unfold BlockLine.suspended BlockLine.health healthOf
  by_cases h : b.count < 96
  · simp [h]; omega
  · by_cases h' : b.count < 255 <;> simp [h, h'] ; omega

/-- R136: the three things a re-judgement can do. -/
theorem rejudge_cases (x : Line) (s : State) :
    (s.device = .config ∧ rejudge x s = s) ∨
    (s.device = .service ∧ (s.blc.get x).blockCondition = true ∧
      rejudge x s = s.updHold (blockEntry x) none) ∨
    (s.device = .service ∧ (s.blc.get x).blockCondition = false ∧
      rejudge x s = ensureBlock x s) := by
  unfold rejudge retireBlock
  cases hd : s.device with
  | config => simp
  | service => cases hb : (s.blc.get x).blockCondition <;> simp

/-- R136: the line's block hold after it is re-judged. -/
theorem rejudge_entry (x : Line) (s : State) : (rejudge x s).ht[blockEntry x] =
    if s.device = .service then
      if (s.blc.get x).blockCondition then none else (ensureBlock x s).ht[blockEntry x]
    else s.ht[blockEntry x] := by
  rcases rejudge_cases x s with ⟨hd, e⟩ | ⟨hd, hb, e⟩ | ⟨hd, hb, e⟩
  · simp only [e, hd, reduceCtorEq, if_false]
  · simp only [e, hd, hb, if_true]
    exact tableUpdate_get_self _ _ _
  · simp only [e, hd, hb, if_true, Bool.false_eq_true, if_false]

/-- A re-judgement touches no other entry. -/
theorem rejudge_other {x : Line} {s : State} {h : HoldId} (ne : h ≠ blockEntry x) :
    (rejudge x s).ht[h] = s.ht[h] := by
  rcases rejudge_cases x s with ⟨-, e⟩ | ⟨-, -, e⟩ | ⟨-, -, e⟩ <;> simp only [e]
  · exact tableUpdate_get_ne _ _ ne
  · exact ensureBlock_other ne

/-- A re-judgement writes the Hold Table only. -/
@[simp] theorem rejudge_frame (x : Line) (s : State) :
    (rejudge x s).pending = s.pending ∧ (rejudge x s).draws = s.draws ∧
    (rejudge x s).cp = s.cp ∧ (rejudge x s).device = s.device ∧ (rejudge x s).cfg = s.cfg ∧
    (rejudge x s).sbc = s.sbc ∧ (rejudge x s).boards = s.boards ∧ (rejudge x s).tcm = s.tcm ∧
    (rejudge x s).llu = s.llu ∧ (rejudge x s).ru = s.ru ∧ (rejudge x s).bu = s.bu ∧
    (rejudge x s).blc = s.blc ∧ (rejudge x s).trt = s.trt ∧ (rejudge x s).au = s.au ∧
    (rejudge x s).tb = s.tb := by
  rcases rejudge_cases x s with ⟨-, e⟩ | ⟨-, -, e⟩ | ⟨-, -, e⟩ <;> simp [e]

/-! ### The fault count -/

/-- R130, R131: the four things a change of the count can do. -/
theorem changeCount_cases (x : Line) (f : Nat → Nat) (s : State) :
    let old := s.blc.get x
    let s1 := s.updLine x fun b => { b with count := f b.count }
    let s2 := latch (.line x) (.lineCause .health) s1
    (old.suspended = true ∧ changeCount x f s = s) ∨
    (old.suspended = false ∧ healthOf (f old.count) = old.health ∧ changeCount x f s = s1) ∨
    (old.suspended = false ∧ healthOf (f old.count) ≠ old.health ∧
      healthOf (f old.count) = .suspended ∧ changeCount x f s = rejudge x s2) ∨
    (old.suspended = false ∧ healthOf (f old.count) ≠ old.health ∧
      healthOf (f old.count) ≠ .suspended ∧ changeCount x f s = s2) := by
  intro old s1 s2
  cases hs : old.suspended with
  | true => exact .inl ⟨rfl, if_pos hs⟩
  | false =>
    have body : changeCount x f s = if healthOf (f old.count) = old.health then s1
        else if healthOf (f old.count) = .suspended then rejudge x s2 else s2 := by
      unfold changeCount
      exact if_neg (by rw [hs]; simp)
    by_cases h1 : healthOf (f old.count) = old.health
    · exact .inr (.inl ⟨rfl, h1, by rw [body, if_pos h1]⟩)
    · by_cases h2 : healthOf (f old.count) = .suspended
      · exact .inr (.inr (.inl ⟨rfl, h1, h2, by rw [body, if_neg h1, if_pos h2]⟩))
      · exact .inr (.inr (.inr ⟨rfl, h1, h2, by rw [body, if_neg h1, if_neg h2]⟩))

/-- R130: the count after a change: as it was while SUSPENDED, the new value otherwise. -/
theorem changeCount_line (x : Line) (f : Nat → Nat) (s : State) :
    (changeCount x f s).blc = if (s.blc.get x).suspended then s.blc
      else s.blc.set x { s.blc.get x with count := f (s.blc.get x).count } := by
  rcases changeCount_cases x f s with ⟨h, e⟩ | ⟨h, -, e⟩ | ⟨h, -, -, e⟩ | ⟨h, -, -, e⟩ <;>
    rw [e] <;> simp [h]

/-- R130, R131: a change of the count writes the line, its block hold and its source only. -/
@[simp] theorem changeCount_frame (x : Line) (f : Nat → Nat) (s : State) :
    (changeCount x f s).pending = s.pending ∧ (changeCount x f s).draws = s.draws ∧
    (changeCount x f s).cp = s.cp ∧ (changeCount x f s).device = s.device ∧
    (changeCount x f s).cfg = s.cfg ∧ (changeCount x f s).sbc = s.sbc ∧
    (changeCount x f s).boards = s.boards ∧ (changeCount x f s).tcm = s.tcm ∧
    (changeCount x f s).llu = s.llu ∧ (changeCount x f s).ru = s.ru ∧
    (changeCount x f s).bu = s.bu ∧ (changeCount x f s).trt = s.trt ∧
    (changeCount x f s).tb = s.tb := by
  rcases changeCount_cases x f s with ⟨-, e⟩ | ⟨-, -, e⟩ | ⟨-, -, -, e⟩ | ⟨-, -, -, e⟩ <;>
    rw [e] <;> simp

/-- A change of the count touches no entry of the Hold Table but the line's own block entry. -/
theorem changeCount_other {x : Line} {f : Nat → Nat} {s : State} {h : HoldId}
    (ne : h ≠ blockEntry x) : (changeCount x f s).ht[h] = s.ht[h] := by
  rcases changeCount_cases x f s with ⟨-, e⟩ | ⟨-, -, e⟩ | ⟨-, -, -, e⟩ | ⟨-, -, -, e⟩ <;>
    simp only [e]
  · rfl
  · rw [rejudge_other ne]; rfl
  · rfl

/-! ### A send -/

/-- R116, R118: what taking a send does, said once. -/
theorem takeSend_taken (x : Line) (groups : List Nat) (entry : Option CodeId)
    (meaning : Option Meaning) (s : State) :
    SendTaken x groups entry meaning s (takeSend x groups entry meaning s) := by
  have line : (takeSend x groups entry meaning s).bu = s.bu.set x
      ((s.bu.get x).beginSend s.cfg.timing s.tb.tickCount groups entry meaning) := by
    unfold takeSend
    dsimp only
    split <;> simp
  have own : (takeSend x groups entry meaning s).bu.get x =
      (s.bu.get x).beginSend s.cfg.timing s.tb.tickCount groups entry meaning := by
    rw [line, PerLine.get_set_self]
  constructor
  case otherLines => intro y h; rw [line, PerLine.get_set_ne _ _ h]
  case latched =>
    intro h
    rw [own] at h
    have h' : ((s.bu.get x).code.isSome || (s.bu.get x).pulse.isSome) = true := h
    unfold takeSend
    simp only [h', if_true]
    exact latch_latched_of rfl
  case quietly =>
    intro h
    rw [own] at h
    have h' : ((s.bu.get x).code.isSome || (s.bu.get x).pulse.isSome) = false := h
    unfold takeSend
    simp [h']
  all_goals
    rw [own]
    simp [BellUnit.beginSend]

/-- A send writes the line's Bell Unit and the attention records only. -/
@[simp] theorem takeSend_frame (x : Line) (groups : List Nat) (entry : Option CodeId)
    (meaning : Option Meaning) (s : State) :
    (takeSend x groups entry meaning s).pending = s.pending ∧
    (takeSend x groups entry meaning s).draws = s.draws ∧
    (takeSend x groups entry meaning s).cp = s.cp ∧
    (takeSend x groups entry meaning s).device = s.device ∧
    (takeSend x groups entry meaning s).cfg = s.cfg ∧
    (takeSend x groups entry meaning s).sbc = s.sbc ∧
    (takeSend x groups entry meaning s).boards = s.boards ∧
    (takeSend x groups entry meaning s).tcm = s.tcm ∧
    (takeSend x groups entry meaning s).llu = s.llu ∧
    (takeSend x groups entry meaning s).ht = s.ht ∧
    (takeSend x groups entry meaning s).ru = s.ru ∧
    (takeSend x groups entry meaning s).blc = s.blc ∧
    (takeSend x groups entry meaning s).trt = s.trt ∧
    (takeSend x groups entry meaning s).tb = s.tb := by
  unfold takeSend
  dsimp only
  split <;> simp

/-- R116: the entry found to send is the lowest sendable one of its meaning and class. -/
theorem entryToSend_eq_some {s : State} {m : Meaning} {cls : Option Nat} {c : CodeId} :
    entryToSend s.cfg.codes m cls = some c ↔ ∃ e, lowestSendable s m cls c e := by
  unfold entryToSend lowestSendable
  rw [lowest_eq_some]
  constructor
  · rintro ⟨h, lower⟩
    cases he : s.cfg.codes[c] with
    | none => rw [he] at h; simp [sendableAs] at h
    | some e =>
      rw [he] at h
      simp only [sendableAs, Bool.and_eq_true, Bool.or_eq_true, decide_eq_true_eq] at h
      refine ⟨e, rfl, h.1.1, h.1.2, fun hm => h.2.resolve_left (fun f => f hm), ?_⟩
      rintro j f hj hf ⟨a, b, d⟩
      have := lower j hj
      rw [hf] at this
      simp only [sendableAs, a, b, decide_true, Bool.true_and, Bool.or_eq_false_iff,
        decide_eq_false_iff_not, ne_eq, not_not] at this
      exact this.2 (d this.1)
  · rintro ⟨e, he, a, b, d, lower⟩
    constructor
    · rw [he]
      simp only [sendableAs, a, b, decide_true, Bool.true_and, Bool.or_eq_true,
        decide_eq_true_eq, ne_eq]
      exact Classical.or_iff_not_imp_left.mpr fun h => d (not_not.mp h)
    · intro j hj
      cases hf : s.cfg.codes[j] with
      | none => rfl
      | some f =>
        cases hs : sendableAs m cls (some f) with
        | false => rfl
        | true =>
          simp only [sendableAs, Bool.and_eq_true, Bool.or_eq_true, decide_eq_true_eq] at hs
          exact absurd ⟨hs.1.1, hs.1.2, fun hm => hs.2.resolve_left (fun g => g hm)⟩
            (lower j f hj hf)

/-- No entry is found to send when none is sendable in the meaning and class. -/
theorem entryToSend_eq_none {s : State} {m : Meaning} {cls : Option Nat} :
    entryToSend s.cfg.codes m cls = none ↔ noneSendable s m cls := by
  unfold entryToSend noneSendable
  rw [lowest_eq_none]
  constructor
  · rintro h j f hf ⟨a, b, d⟩
    have := h j
    rw [hf] at this
    simp only [sendableAs, a, b, decide_true, Bool.true_and, Bool.or_eq_false_iff,
      decide_eq_false_iff_not, ne_eq, not_not] at this
    exact this.2 (d this.1)
  · intro h j
    cases hf : s.cfg.codes[j] with
    | none => rfl
    | some f =>
      cases hs : sendableAs m cls (some f) with
      | false => rfl
      | true =>
        simp only [sendableAs, Bool.and_eq_true, Bool.or_eq_true, decide_eq_true_eq] at hs
        exact absurd ⟨hs.1.1, hs.1.2, fun hm => hs.2.resolve_left (fun g => g hm)⟩ (h j f hf)

/-- R108: the pattern match in the words of the rule. -/
theorem patternMatches_iff (p : List GroupSpec) (g : List Nat) : patternMatches p g = true ↔
    p.length = g.length ∧ ∀ (k : Nat) (q : GroupSpec) (n : Nat), p[k]? = some q →
      g[k]? = some n → q.care = true → q.count = n := by
  induction p generalizing g with
  | nil => cases g <;> simp [patternMatches]
  | cons q p ih =>
    cases g with
    | nil => simp [patternMatches]
    | cons n g =>
      rw [patternMatches, Bool.and_eq_true, ih]
      simp only [GroupSpec.accepts, Bool.or_eq_true, Bool.not_eq_true', decide_eq_true_eq,
        List.length_cons, Nat.add_right_cancel_iff]
      constructor
      · rintro ⟨h, len, rest⟩
        refine ⟨len, fun k => ?_⟩
        cases k with
        | zero =>
          intro q' n' e e' hc
          simp only [List.getElem?_cons_zero, Option.some.injEq] at e e'
          subst e; subst e'
          exact h.resolve_left (by simp [hc])
        | succ k => simpa using rest k
      · rintro ⟨len, all⟩
        refine ⟨?_, len, fun k q' n' e e' => all (k + 1) q' n' (by simpa using e) (by simpa using e')⟩
        by_cases hc : q.care = true
        · exact .inr (all 0 q n rfl rfl hc)
        · exact .inl (by simpa using hc)

/-- R108: an entry matches a code exactly when it is heard in it. -/
theorem entryMatches_iff {groups : List Nat} {v : Option CodeEntry} :
    entryMatches groups v = true ↔ ∃ e, v = some e ∧ entryHears e groups := by
  cases v with
  | none => simp [entryMatches]
  | some e => simp [entryMatches, entryHears, patternMatches_iff]

/-! ### Routes -/

/-- R26: the marks of a list of circuits cleared, and nothing else of any circuit. -/
theorem clearMarks_circuit (ts : List TrackId) (s : State) (c : TrackId) :
    (clearMarks ts s).tcm[c] =
      { s.tcm[c] with mark := if c ∈ ts then false else s.tcm[c].mark } := by
  unfold clearMarks
  induction ts generalizing s with
  | nil => simp
  | cons t ts ih =>
    rw [List.foldl_cons, ih, clearMark, State.updTrack_tcm, tableUpdate_get]
    by_cases h : t = c
    · subst h; simp
    · simp [h, Ne.symm h]

/-- Clearing marks writes the track records only. -/
@[simp] theorem clearMarks_frame (ts : List TrackId) (s : State) :
    (clearMarks ts s).pending = s.pending ∧ (clearMarks ts s).draws = s.draws ∧
    (clearMarks ts s).cp = s.cp ∧ (clearMarks ts s).device = s.device ∧
    (clearMarks ts s).cfg = s.cfg ∧ (clearMarks ts s).sbc = s.sbc ∧
    (clearMarks ts s).boards = s.boards ∧ (clearMarks ts s).llu = s.llu ∧
    (clearMarks ts s).ht = s.ht ∧ (clearMarks ts s).ru = s.ru ∧ (clearMarks ts s).bu = s.bu ∧
    (clearMarks ts s).blc = s.blc ∧ (clearMarks ts s).trt = s.trt ∧
    (clearMarks ts s).au = s.au ∧ (clearMarks ts s).tb = s.tb := by
  unfold clearMarks
  have keep {α : Type} (g : State → α) (h : ∀ s t, g (clearMark t s) = g s) :
      g (ts.foldl (fun s t => clearMark t s) s) = g s := foldl_field g h ts s
  exact ⟨keep State.pending fun _ _ => rfl,
    keep State.draws fun _ _ => rfl,
    keep State.cp fun _ _ => rfl,
    keep State.device fun _ _ => rfl,
    keep State.cfg fun _ _ => rfl,
    keep State.sbc fun _ _ => rfl,
    keep State.boards fun _ _ => rfl,
    keep State.llu fun _ _ => rfl,
    keep State.ht fun _ _ => rfl,
    keep State.ru fun _ _ => rfl,
    keep State.bu fun _ _ => rfl,
    keep State.blc fun _ _ => rfl,
    keep State.trt fun _ _ => rfl,
    keep State.au fun _ _ => rfl,
    keep State.tb fun _ _ => rfl⟩

/-- R83: a route made IDLE owns no hold. -/
theorem makeIdle_holds {l : LeverId} {s : State} {h : HoldId} {hold : Hold} :
    (makeIdle l s).ht[h] = some hold ↔ s.ht[h] = some hold ∧ ∀ c, hold.kind ≠ .route l c := by
  rw [makeIdle, State.updRoute_ht, retireRoute, retireWhere_live, ← Bool.not_eq_true,
    ownedByRoute_iff]
  simp

/-- R81, R83: the running record of a route made IDLE; every other route is as it was. -/
theorem makeIdle_route (l k : LeverId) (s : State) : (makeIdle l s).ru[k] =
    if l = k then s.ru[k].becomesIdle s.cfg.routes[l] s.tb.clock else s.ru[k] := by
  rw [makeIdle, State.updRoute_ru, tableUpdate_get]
  simp [retireRoute]

/-- A route made IDLE writes the routes and the Hold Table only. -/
@[simp] theorem makeIdle_frame (l : LeverId) (s : State) :
    (makeIdle l s).pending = s.pending ∧ (makeIdle l s).draws = s.draws ∧
    (makeIdle l s).cp = s.cp ∧ (makeIdle l s).device = s.device ∧ (makeIdle l s).cfg = s.cfg ∧
    (makeIdle l s).sbc = s.sbc ∧ (makeIdle l s).boards = s.boards ∧
    (makeIdle l s).tcm = s.tcm ∧ (makeIdle l s).llu = s.llu ∧ (makeIdle l s).bu = s.bu ∧
    (makeIdle l s).blc = s.blc ∧ (makeIdle l s).trt = s.trt ∧ (makeIdle l s).au = s.au ∧
    (makeIdle l s).tb = s.tb := by
  simp [makeIdle, retireRoute]

/-! ### Trains -/

/-- R142: the lookup's test in the words of the rule. -/
theorem inboundOn_iff {s : State} {r : TrainId} {x : Line} :
    inboundOn s r x ↔ liveAnd (fun t => t.inboundOn x) s.trt.records[r] = true := by
  unfold inboundOn
  cases s.trt.records[r] with
  | none => simp [liveAnd]
  | some t =>
    simp only [Option.some.injEq, liveAnd, Train.inboundOn, Bool.and_eq_true,
      decide_eq_true_eq, exists_eq_left']
    cases t.inbound <;> simp [Inbound.active]

/-- R142: the lookup's test in the words of the rule. -/
theorem outboundOn_iff {s : State} {r : TrainId} {x : Line} :
    outboundOn s r x ↔ liveAnd (fun t => t.outboundOn x) s.trt.records[r] = true := by
  unfold outboundOn
  cases s.trt.records[r] with
  | none => simp [liveAnd]
  | some t =>
    simp only [Option.some.injEq, liveAnd, Train.outboundOn, Bool.and_eq_true,
      decide_eq_true_eq, exists_eq_left']
    cases t.outbound <;> simp [Outbound.active]

/-- R144: under the law for halves the line's inbound train is the one whose half stands on it. -/
theorem inboundTrain_eq_some {s : State} {x : Line} {r : TrainId} (law : HalvesLaw s) :
    s.trt.inboundTrain x = some r ↔ inboundOn s r x := by
  constructor
  · intro h
    exact inboundOn_iff.mpr (lowest_eq_some.mp h).1
  · intro h
    exact lowest_of_unique (inboundOn_iff.mp h) fun q hq => law.inbound x q r (inboundOn_iff.mpr hq) h

/-- The line has no inbound train exactly when no half stands on it. -/
theorem inboundTrain_eq_none {s : State} {x : Line} :
    s.trt.inboundTrain x = none ↔ ∀ r, ¬inboundOn s r x := by
  simp only [TrainTable.inboundTrain, lowest_eq_none, inboundOn_iff, Bool.not_eq_true]

/-- R144: under the law for halves the line's outbound train is the one whose half stands on it. -/
theorem outboundTrain_eq_some {s : State} {x : Line} {r : TrainId} (law : HalvesLaw s) :
    s.trt.outboundTrain x = some r ↔ outboundOn s r x := by
  constructor
  · intro h
    exact outboundOn_iff.mpr (lowest_eq_some.mp h).1
  · intro h
    exact lowest_of_unique (outboundOn_iff.mp h) fun q hq =>
      law.outbound x q r (outboundOn_iff.mpr hq) h

/-- The line has no outbound train exactly when no half stands on it. -/
theorem outboundTrain_eq_none {s : State} {x : Line} :
    s.trt.outboundTrain x = none ↔ ∀ r, ¬outboundOn s r x := by
  simp only [TrainTable.outboundTrain, lowest_eq_none, outboundOn_iff, Bool.not_eq_true]

/-- R143: the shared record found is the lowest free one. -/
theorem freeShared_record {t : TrainTable} {r : TrainId} : t.freeShared = some r ↔
    r.val < 9 ∧ t.records[r] = none ∧ ∀ q : TrainId, q.val < r.val → t.records[q] ≠ none := by
  unfold TrainTable.freeShared
  rw [lowest_eq_some]
  simp only [Bool.and_eq_true, decide_eq_true_eq, Option.isNone_iff_eq_none, and_assoc]
  refine and_congr_right fun h9 => and_congr_right fun _ => forall_congr' fun q => ?_
  refine imp_congr_right fun hq => ?_
  have : q.val < 9 := by omega
  simp [this, Option.isSome_iff_ne_none]

/-- R161: the retirement check frees the record that it retires and leaves it otherwise. -/
theorem retirementCheck_own (r : TrainId) (s : State) :
    (retirementCheck r s).trt.records[r] = match s.trt.records[r] with
      | some t => if t.retires then none else some t
      | none => none := by
  unfold retirementCheck
  cases h : s.trt.records[r] with
  | none => exact h
  | some t =>
    cases ht : t.retires with
    | false => simpa [ht] using h
    | true => simp [ht]

/-- The retirement check touches no other record. -/
theorem retirementCheck_other {r q : TrainId} {s : State} (ne : q ≠ r) :
    (retirementCheck r s).trt.records[q] = s.trt.records[q] := by
  unfold retirementCheck
  cases s.trt.records[r] with
  | none => rfl
  | some t =>
    cases ht : t.retires with
    | false => simp [ht]
    | true =>
      simp only [ht, if_true, State.updRecord_trt]
      exact tableUpdate_get_ne _ _ ne

/-- The retirement check writes the train records only. -/
@[simp] theorem retirementCheck_frame (r : TrainId) (s : State) :
    (retirementCheck r s).pending = s.pending ∧ (retirementCheck r s).draws = s.draws ∧
    (retirementCheck r s).cp = s.cp ∧ (retirementCheck r s).device = s.device ∧
    (retirementCheck r s).cfg = s.cfg ∧ (retirementCheck r s).sbc = s.sbc ∧
    (retirementCheck r s).boards = s.boards ∧ (retirementCheck r s).tcm = s.tcm ∧
    (retirementCheck r s).llu = s.llu ∧ (retirementCheck r s).ht = s.ht ∧
    (retirementCheck r s).ru = s.ru ∧ (retirementCheck r s).bu = s.bu ∧
    (retirementCheck r s).blc = s.blc ∧ (retirementCheck r s).trt.owed = s.trt.owed ∧
    (retirementCheck r s).au = s.au ∧ (retirementCheck r s).tb = s.tb := by
  unfold retirementCheck
  split
  · split <;> simp
  · simp

end Sys2Proof.Machine
end

