-- ==== Sys2Proof/Laws/Frames.lean ====
section
/-! SUPPORT. The frame of every operation that the meanings are built from: the fields of State it never
writes. Each lemma stands once for all of them and is tagged for simp. -/

namespace Sys2Proof.Machine

variable (s : State)

/-! ### Block Line Controllers -/

@[simp] theorem setInstrument_frame (x : Line) (i : Instrument) :
    (setInstrument x i s).pending = s.pending ∧ (setInstrument x i s).draws = s.draws ∧
    (setInstrument x i s).cp = s.cp ∧ (setInstrument x i s).device = s.device ∧
    (setInstrument x i s).cfg = s.cfg ∧ (setInstrument x i s).sbc = s.sbc ∧
    (setInstrument x i s).boards = s.boards ∧ (setInstrument x i s).tcm = s.tcm ∧
    (setInstrument x i s).llu = s.llu ∧ (setInstrument x i s).ht = s.ht ∧
    (setInstrument x i s).ru = s.ru ∧ (setInstrument x i s).bu = s.bu ∧
    (setInstrument x i s).trt = s.trt ∧ (setInstrument x i s).au = s.au ∧
    (setInstrument x i s).tb = s.tb := by
  simp [setInstrument]

@[simp] theorem setStanding_frame (x : Line) (st : Standing) :
    (setStanding x st s).pending = s.pending ∧ (setStanding x st s).draws = s.draws ∧
    (setStanding x st s).cp = s.cp ∧ (setStanding x st s).device = s.device ∧
    (setStanding x st s).cfg = s.cfg ∧ (setStanding x st s).sbc = s.sbc ∧
    (setStanding x st s).boards = s.boards ∧ (setStanding x st s).tcm = s.tcm ∧
    (setStanding x st s).llu = s.llu ∧ (setStanding x st s).ru = s.ru ∧
    (setStanding x st s).bu = s.bu ∧ (setStanding x st s).trt = s.trt ∧
    (setStanding x st s).au = s.au ∧ (setStanding x st s).tb = s.tb := by
  simp [setStanding]

@[simp] theorem setObstruction_frame (x : Line) (b : Bool) :
    (setObstruction x b s).pending = s.pending ∧ (setObstruction x b s).draws = s.draws ∧
    (setObstruction x b s).cp = s.cp ∧ (setObstruction x b s).device = s.device ∧
    (setObstruction x b s).cfg = s.cfg ∧ (setObstruction x b s).sbc = s.sbc ∧
    (setObstruction x b s).boards = s.boards ∧ (setObstruction x b s).tcm = s.tcm ∧
    (setObstruction x b s).llu = s.llu ∧ (setObstruction x b s).ru = s.ru ∧
    (setObstruction x b s).bu = s.bu ∧ (setObstruction x b s).trt = s.trt ∧
    (setObstruction x b s).au = s.au ∧ (setObstruction x b s).tb = s.tb := by
  simp [setObstruction]

@[simp] theorem stepUp_frame (x : Line) (n : Nat) :
    (stepUp x n s).pending = s.pending ∧ (stepUp x n s).draws = s.draws ∧
    (stepUp x n s).cp = s.cp ∧ (stepUp x n s).device = s.device ∧ (stepUp x n s).cfg = s.cfg ∧
    (stepUp x n s).sbc = s.sbc ∧ (stepUp x n s).boards = s.boards ∧ (stepUp x n s).tcm = s.tcm ∧
    (stepUp x n s).llu = s.llu ∧ (stepUp x n s).ru = s.ru ∧ (stepUp x n s).bu = s.bu ∧
    (stepUp x n s).trt = s.trt ∧ (stepUp x n s).tb = s.tb := by
  simp [stepUp]

@[simp] theorem stepDown_frame (x : Line) :
    (stepDown x s).pending = s.pending ∧ (stepDown x s).draws = s.draws ∧
    (stepDown x s).cp = s.cp ∧ (stepDown x s).device = s.device ∧ (stepDown x s).cfg = s.cfg ∧
    (stepDown x s).sbc = s.sbc ∧ (stepDown x s).boards = s.boards ∧ (stepDown x s).tcm = s.tcm ∧
    (stepDown x s).llu = s.llu ∧ (stepDown x s).ru = s.ru ∧ (stepDown x s).bu = s.bu ∧
    (stepDown x s).trt = s.trt ∧ (stepDown x s).tb = s.tb := by
  simp [stepDown]


/-! ### Bell Units -/

@[simp] theorem sampleBell_frame (x : Line) (b : Bool) :
    (sampleBell x b s).pending = s.pending ∧ (sampleBell x b s).draws = s.draws ∧
    (sampleBell x b s).cp = s.cp ∧ (sampleBell x b s).device = s.device ∧
    (sampleBell x b s).cfg = s.cfg ∧ (sampleBell x b s).sbc = s.sbc ∧
    (sampleBell x b s).boards = s.boards ∧ (sampleBell x b s).tcm = s.tcm ∧
    (sampleBell x b s).llu = s.llu ∧ (sampleBell x b s).ht = s.ht ∧ (sampleBell x b s).ru = s.ru ∧
    (sampleBell x b s).trt = s.trt ∧ (sampleBell x b s).au = s.au ∧
    (sampleBell x b s).tb = s.tb := by
  unfold sampleBell
  dsimp only
  (repeat' split) <;> simp

@[simp] theorem storeCode_frame (x : Line) (c : StoredCode) :
    (storeCode x c s).pending = s.pending ∧ (storeCode x c s).draws = s.draws ∧
    (storeCode x c s).cp = s.cp ∧ (storeCode x c s).device = s.device ∧
    (storeCode x c s).cfg = s.cfg ∧ (storeCode x c s).sbc = s.sbc ∧
    (storeCode x c s).boards = s.boards ∧ (storeCode x c s).tcm = s.tcm ∧
    (storeCode x c s).llu = s.llu ∧ (storeCode x c s).ht = s.ht ∧ (storeCode x c s).ru = s.ru ∧
    (storeCode x c s).blc = s.blc ∧ (storeCode x c s).trt = s.trt ∧
    (storeCode x c s).tb = s.tb := by
  unfold storeCode
  (repeat' split) <;> simp

@[simp] theorem takeEntrySend_frame (x : Line) (c : CodeId) :
    (takeEntrySend x c s).pending = s.pending ∧ (takeEntrySend x c s).draws = s.draws ∧
    (takeEntrySend x c s).cp = s.cp ∧ (takeEntrySend x c s).device = s.device ∧
    (takeEntrySend x c s).cfg = s.cfg ∧ (takeEntrySend x c s).sbc = s.sbc ∧
    (takeEntrySend x c s).boards = s.boards ∧ (takeEntrySend x c s).tcm = s.tcm ∧
    (takeEntrySend x c s).llu = s.llu ∧ (takeEntrySend x c s).ht = s.ht ∧
    (takeEntrySend x c s).ru = s.ru ∧ (takeEntrySend x c s).blc = s.blc ∧
    (takeEntrySend x c s).trt = s.trt ∧ (takeEntrySend x c s).tb = s.tb := by
  unfold takeEntrySend
  (repeat' split) <;> simp

@[simp] theorem autoEntering_frame (x : Line) :
    (autoEntering x s).pending = s.pending ∧ (autoEntering x s).draws = s.draws ∧
    (autoEntering x s).cp = s.cp ∧ (autoEntering x s).device = s.device ∧
    (autoEntering x s).cfg = s.cfg ∧ (autoEntering x s).sbc = s.sbc ∧
    (autoEntering x s).boards = s.boards ∧ (autoEntering x s).tcm = s.tcm ∧
    (autoEntering x s).llu = s.llu ∧ (autoEntering x s).ht = s.ht ∧ (autoEntering x s).ru = s.ru ∧
    (autoEntering x s).blc = s.blc ∧ (autoEntering x s).trt = s.trt ∧
    (autoEntering x s).tb = s.tb := by
  unfold autoEntering
  (repeat' split) <;> simp


/-! ### Routes -/

@[simp] theorem clearMark_frame (t : TrackId) :
    (clearMark t s).pending = s.pending ∧ (clearMark t s).draws = s.draws ∧
    (clearMark t s).cp = s.cp ∧ (clearMark t s).device = s.device ∧ (clearMark t s).cfg = s.cfg ∧
    (clearMark t s).sbc = s.sbc ∧ (clearMark t s).boards = s.boards ∧
    (clearMark t s).llu = s.llu ∧ (clearMark t s).ht = s.ht ∧ (clearMark t s).ru = s.ru ∧
    (clearMark t s).bu = s.bu ∧ (clearMark t s).blc = s.blc ∧ (clearMark t s).trt = s.trt ∧
    (clearMark t s).au = s.au ∧ (clearMark t s).tb = s.tb := by
  simp [clearMark]

@[simp] theorem setRouteState_frame (l : LeverId) (st : RouteState) :
    (setRouteState l st s).pending = s.pending ∧ (setRouteState l st s).draws = s.draws ∧
    (setRouteState l st s).cp = s.cp ∧ (setRouteState l st s).device = s.device ∧
    (setRouteState l st s).cfg = s.cfg ∧ (setRouteState l st s).sbc = s.sbc ∧
    (setRouteState l st s).boards = s.boards ∧ (setRouteState l st s).tcm = s.tcm ∧
    (setRouteState l st s).llu = s.llu ∧ (setRouteState l st s).ht = s.ht ∧
    (setRouteState l st s).bu = s.bu ∧ (setRouteState l st s).blc = s.blc ∧
    (setRouteState l st s).trt = s.trt ∧ (setRouteState l st s).au = s.au ∧
    (setRouteState l st s).tb = s.tb := by
  simp [setRouteState]

@[simp] theorem faultRoute_frame (l : LeverId) (c : FaultCause) :
    (faultRoute l c s).pending = s.pending ∧ (faultRoute l c s).draws = s.draws ∧
    (faultRoute l c s).cp = s.cp ∧ (faultRoute l c s).device = s.device ∧
    (faultRoute l c s).cfg = s.cfg ∧ (faultRoute l c s).sbc = s.sbc ∧
    (faultRoute l c s).boards = s.boards ∧ (faultRoute l c s).tcm = s.tcm ∧
    (faultRoute l c s).llu = s.llu ∧ (faultRoute l c s).ht = s.ht ∧ (faultRoute l c s).bu = s.bu ∧
    (faultRoute l c s).blc = s.blc ∧ (faultRoute l c s).trt = s.trt ∧
    (faultRoute l c s).tb = s.tb := by
  simp [faultRoute]

@[simp] theorem createGroup_frame (es : List GroupEntry) (d : Detail) :
    (createGroup es d s).2.pending = s.pending ∧ (createGroup es d s).2.draws = s.draws ∧
    (createGroup es d s).2.cp = s.cp ∧ (createGroup es d s).2.device = s.device ∧
    (createGroup es d s).2.cfg = s.cfg ∧ (createGroup es d s).2.sbc = s.sbc ∧
    (createGroup es d s).2.boards = s.boards ∧ (createGroup es d s).2.tcm = s.tcm ∧
    (createGroup es d s).2.llu = s.llu ∧ (createGroup es d s).2.ru = s.ru ∧
    (createGroup es d s).2.bu = s.bu ∧ (createGroup es d s).2.blc = s.blc ∧
    (createGroup es d s).2.trt = s.trt ∧ (createGroup es d s).2.tb = s.tb := by
  unfold createGroup
  (repeat' split) <;> simp

@[simp] theorem routeRequest_frame (l : LeverId) :
    (routeRequest l s).2.pending = s.pending ∧ (routeRequest l s).2.draws = s.draws ∧
    (routeRequest l s).2.cp = s.cp ∧ (routeRequest l s).2.device = s.device ∧
    (routeRequest l s).2.cfg = s.cfg ∧ (routeRequest l s).2.sbc = s.sbc ∧
    (routeRequest l s).2.boards = s.boards ∧ (routeRequest l s).2.llu = s.llu ∧
    (routeRequest l s).2.bu = s.bu ∧ (routeRequest l s).2.blc = s.blc ∧
    (routeRequest l s).2.trt = s.trt ∧ (routeRequest l s).2.tb = s.tb := by
  unfold routeRequest
  have h := createGroup_frame s (routeGroup l s.cfg.routes[l]) (.lever l)
  split
  · simp
  · split
    · simp
    · split <;> (rename_i e; simp only [e] at h; simp [h])

@[simp] theorem routeWithdrawn_frame (l : LeverId) :
    (routeWithdrawn l s).pending = s.pending ∧ (routeWithdrawn l s).draws = s.draws ∧
    (routeWithdrawn l s).cp = s.cp ∧ (routeWithdrawn l s).device = s.device ∧
    (routeWithdrawn l s).cfg = s.cfg ∧ (routeWithdrawn l s).sbc = s.sbc ∧
    (routeWithdrawn l s).boards = s.boards ∧ (routeWithdrawn l s).tcm = s.tcm ∧
    (routeWithdrawn l s).llu = s.llu ∧ (routeWithdrawn l s).bu = s.bu ∧
    (routeWithdrawn l s).blc = s.blc ∧ (routeWithdrawn l s).trt = s.trt ∧
    (routeWithdrawn l s).au = s.au ∧ (routeWithdrawn l s).tb = s.tb := by
  unfold routeWithdrawn
  (repeat' split) <;> simp

@[simp] theorem leftNormalGranted_frame (l : LeverId) :
    (leftNormalGranted l s).pending = s.pending ∧ (leftNormalGranted l s).draws = s.draws ∧
    (leftNormalGranted l s).cp = s.cp ∧ (leftNormalGranted l s).device = s.device ∧
    (leftNormalGranted l s).cfg = s.cfg ∧ (leftNormalGranted l s).sbc = s.sbc ∧
    (leftNormalGranted l s).boards = s.boards ∧ (leftNormalGranted l s).tcm = s.tcm ∧
    (leftNormalGranted l s).llu = s.llu ∧ (leftNormalGranted l s).ht = s.ht ∧
    (leftNormalGranted l s).bu = s.bu ∧ (leftNormalGranted l s).blc = s.blc ∧
    (leftNormalGranted l s).trt = s.trt ∧ (leftNormalGranted l s).au = s.au ∧
    (leftNormalGranted l s).tb = s.tb := by
  unfold leftNormalGranted
  (repeat' split) <;> simp

@[simp] theorem escapeFromIdle_frame (l : LeverId) :
    (escapeFromIdle l s).pending = s.pending ∧ (escapeFromIdle l s).draws = s.draws ∧
    (escapeFromIdle l s).cp = s.cp ∧ (escapeFromIdle l s).device = s.device ∧
    (escapeFromIdle l s).cfg = s.cfg ∧ (escapeFromIdle l s).sbc = s.sbc ∧
    (escapeFromIdle l s).boards = s.boards ∧ (escapeFromIdle l s).llu = s.llu ∧
    (escapeFromIdle l s).bu = s.bu ∧ (escapeFromIdle l s).blc = s.blc ∧
    (escapeFromIdle l s).trt = s.trt ∧ (escapeFromIdle l s).tb = s.tb := by
  unfold escapeFromIdle
  dsimp only
  rcases createGroup_cases (routeGroup l s.cfg.routes[l]) (.lever l) s with
    ⟨-, e⟩ | ⟨-, -, e⟩ | ⟨-, -, e⟩ <;> rw [e] <;> split <;> simp

@[simp] theorem routeEscape_frame (l : LeverId) :
    (routeEscape l s).pending = s.pending ∧ (routeEscape l s).draws = s.draws ∧
    (routeEscape l s).cp = s.cp ∧ (routeEscape l s).device = s.device ∧
    (routeEscape l s).cfg = s.cfg ∧ (routeEscape l s).sbc = s.sbc ∧
    (routeEscape l s).boards = s.boards ∧ (routeEscape l s).llu = s.llu ∧
    (routeEscape l s).bu = s.bu ∧ (routeEscape l s).blc = s.blc ∧ (routeEscape l s).trt = s.trt ∧
    (routeEscape l s).tb = s.tb := by
  unfold routeEscape
  (repeat' split) <;> simp

@[simp] theorem releaseSection_frame (l : LeverId) (t : TrackId) :
    (releaseSection l t s).pending = s.pending ∧ (releaseSection l t s).draws = s.draws ∧
    (releaseSection l t s).cp = s.cp ∧ (releaseSection l t s).device = s.device ∧
    (releaseSection l t s).cfg = s.cfg ∧ (releaseSection l t s).sbc = s.sbc ∧
    (releaseSection l t s).boards = s.boards ∧ (releaseSection l t s).llu = s.llu ∧
    (releaseSection l t s).bu = s.bu ∧ (releaseSection l t s).blc = s.blc ∧
    (releaseSection l t s).trt = s.trt ∧ (releaseSection l t s).au = s.au ∧
    (releaseSection l t s).tb = s.tb := by
  unfold releaseSection
  simp [retireProtected]

@[simp] theorem releaseSections_frame (l : LeverId) (n : Nat) :
    (releaseSections l n s).pending = s.pending ∧ (releaseSections l n s).draws = s.draws ∧
    (releaseSections l n s).cp = s.cp ∧ (releaseSections l n s).device = s.device ∧
    (releaseSections l n s).cfg = s.cfg ∧ (releaseSections l n s).sbc = s.sbc ∧
    (releaseSections l n s).boards = s.boards ∧ (releaseSections l n s).llu = s.llu ∧
    (releaseSections l n s).bu = s.bu ∧ (releaseSections l n s).blc = s.blc ∧
    (releaseSections l n s).trt = s.trt ∧ (releaseSections l n s).au = s.au ∧
    (releaseSections l n s).tb = s.tb := by
  induction n generalizing s with
  | zero => simp [releaseSections]
  | succ n ih =>
    unfold releaseSections
    split
    · simp
    · split
      · simp [ih]
      · simp

@[simp] theorem releasePass_frame (l : LeverId) :
    (releasePass l s).pending = s.pending ∧ (releasePass l s).draws = s.draws ∧
    (releasePass l s).cp = s.cp ∧ (releasePass l s).device = s.device ∧
    (releasePass l s).cfg = s.cfg ∧ (releasePass l s).sbc = s.sbc ∧
    (releasePass l s).boards = s.boards ∧ (releasePass l s).llu = s.llu ∧
    (releasePass l s).bu = s.bu ∧ (releasePass l s).blc = s.blc ∧ (releasePass l s).trt = s.trt ∧
    (releasePass l s).tb = s.tb := by
  unfold releasePass
  dsimp only
  (repeat' split) <;> simp

@[simp] theorem releasePasses_frame :
    (releasePasses s).pending = s.pending ∧ (releasePasses s).draws = s.draws ∧
    (releasePasses s).cp = s.cp ∧ (releasePasses s).device = s.device ∧
    (releasePasses s).cfg = s.cfg ∧ (releasePasses s).sbc = s.sbc ∧
    (releasePasses s).boards = s.boards ∧ (releasePasses s).llu = s.llu ∧
    (releasePasses s).bu = s.bu ∧ (releasePasses s).blc = s.blc ∧ (releasePasses s).trt = s.trt ∧
    (releasePasses s).tb = s.tb := by
  unfold releasePasses forEach
  generalize List.finRange _ = l
  induction l generalizing s with
  | nil => simp
  | cons i l ih =>
    simp only [List.foldl_cons, ih]
    simp

@[simp] theorem startReleasing_frame (l : LeverId) :
    (startReleasing l s).pending = s.pending ∧ (startReleasing l s).draws = s.draws ∧
    (startReleasing l s).cp = s.cp ∧ (startReleasing l s).device = s.device ∧
    (startReleasing l s).cfg = s.cfg ∧ (startReleasing l s).sbc = s.sbc ∧
    (startReleasing l s).boards = s.boards ∧ (startReleasing l s).llu = s.llu ∧
    (startReleasing l s).bu = s.bu ∧ (startReleasing l s).blc = s.blc ∧
    (startReleasing l s).trt = s.trt ∧ (startReleasing l s).tb = s.tb := by
  simp [startReleasing]

@[simp] theorem returnDecision_frame (l : LeverId) :
    (returnDecision l s).pending = s.pending ∧ (returnDecision l s).draws = s.draws ∧
    (returnDecision l s).cp = s.cp ∧ (returnDecision l s).device = s.device ∧
    (returnDecision l s).cfg = s.cfg ∧ (returnDecision l s).sbc = s.sbc ∧
    (returnDecision l s).boards = s.boards ∧ (returnDecision l s).llu = s.llu ∧
    (returnDecision l s).bu = s.bu ∧ (returnDecision l s).blc = s.blc ∧
    (returnDecision l s).trt = s.trt ∧ (returnDecision l s).tb = s.tb := by
  unfold returnDecision
  (repeat' split) <;> simp

@[simp] theorem routeReturned_frame (l : LeverId) :
    (routeReturned l s).pending = s.pending ∧ (routeReturned l s).draws = s.draws ∧
    (routeReturned l s).cp = s.cp ∧ (routeReturned l s).device = s.device ∧
    (routeReturned l s).cfg = s.cfg ∧ (routeReturned l s).sbc = s.sbc ∧
    (routeReturned l s).boards = s.boards ∧ (routeReturned l s).llu = s.llu ∧
    (routeReturned l s).bu = s.bu ∧ (routeReturned l s).blc = s.blc ∧
    (routeReturned l s).trt = s.trt ∧ (routeReturned l s).tb = s.tb := by
  unfold routeReturned
  (repeat' split) <;> simp

@[simp] theorem routeOccupation_frame (t : TrackId) :
    (routeOccupation t s).pending = s.pending ∧ (routeOccupation t s).draws = s.draws ∧
    (routeOccupation t s).cp = s.cp ∧ (routeOccupation t s).device = s.device ∧
    (routeOccupation t s).cfg = s.cfg ∧ (routeOccupation t s).sbc = s.sbc ∧
    (routeOccupation t s).boards = s.boards ∧ (routeOccupation t s).llu = s.llu ∧
    (routeOccupation t s).bu = s.bu ∧ (routeOccupation t s).blc = s.blc ∧
    (routeOccupation t s).trt = s.trt ∧ (routeOccupation t s).tb = s.tb := by
  unfold routeOccupation forEach
  generalize List.finRange _ = l
  induction l generalizing s with
  | nil => simp
  | cons i l ih =>
    simp only [List.foldl_cons, ih]
    (repeat' split) <;> simp

@[simp] theorem restoreNotice_frame :
    (restoreNotice s).pending = s.pending ∧ (restoreNotice s).draws = s.draws ∧
    (restoreNotice s).cp = s.cp ∧ (restoreNotice s).device = s.device ∧
    (restoreNotice s).cfg = s.cfg ∧ (restoreNotice s).sbc = s.sbc ∧
    (restoreNotice s).boards = s.boards ∧ (restoreNotice s).tcm = s.tcm ∧
    (restoreNotice s).llu = s.llu ∧ (restoreNotice s).ht = s.ht ∧ (restoreNotice s).bu = s.bu ∧
    (restoreNotice s).blc = s.blc ∧ (restoreNotice s).trt = s.trt ∧
    (restoreNotice s).tb = s.tb := by
  unfold restoreNotice forEach
  generalize List.finRange _ = l
  induction l generalizing s with
  | nil => simp
  | cons i l ih =>
    simp only [List.foldl_cons, ih]
    (repeat' split) <;> simp


/-! ### Train records -/

@[simp] theorem latchTrain_frame (r : TrainId) :
    (latchTrain r s).pending = s.pending ∧ (latchTrain r s).draws = s.draws ∧
    (latchTrain r s).cp = s.cp ∧ (latchTrain r s).device = s.device ∧
    (latchTrain r s).cfg = s.cfg ∧ (latchTrain r s).sbc = s.sbc ∧
    (latchTrain r s).boards = s.boards ∧ (latchTrain r s).tcm = s.tcm ∧
    (latchTrain r s).llu = s.llu ∧ (latchTrain r s).ht = s.ht ∧ (latchTrain r s).ru = s.ru ∧
    (latchTrain r s).bu = s.bu ∧ (latchTrain r s).blc = s.blc ∧ (latchTrain r s).trt = s.trt ∧
    (latchTrain r s).tb = s.tb := by
  simp [latchTrain]

@[simp] theorem latchChange_frame (r : TrainId) :
    (latchChange r s).pending = s.pending ∧ (latchChange r s).draws = s.draws ∧
    (latchChange r s).cp = s.cp ∧ (latchChange r s).device = s.device ∧
    (latchChange r s).cfg = s.cfg ∧ (latchChange r s).sbc = s.sbc ∧
    (latchChange r s).boards = s.boards ∧ (latchChange r s).tcm = s.tcm ∧
    (latchChange r s).llu = s.llu ∧ (latchChange r s).ht = s.ht ∧ (latchChange r s).ru = s.ru ∧
    (latchChange r s).bu = s.bu ∧ (latchChange r s).blc = s.blc ∧ (latchChange r s).trt = s.trt ∧
    (latchChange r s).tb = s.tb := by
  unfold latchChange
  (repeat' split) <;> simp

@[simp] theorem judgeOffer_frame (c : ReceivedCode) :
    (judgeOffer c s).state.pending = s.pending ∧ (judgeOffer c s).state.draws = s.draws ∧
    (judgeOffer c s).state.cp = s.cp ∧ (judgeOffer c s).state.device = s.device ∧
    (judgeOffer c s).state.cfg = s.cfg ∧ (judgeOffer c s).state.sbc = s.sbc ∧
    (judgeOffer c s).state.boards = s.boards ∧ (judgeOffer c s).state.tcm = s.tcm ∧
    (judgeOffer c s).state.llu = s.llu ∧ (judgeOffer c s).state.ht = s.ht ∧
    (judgeOffer c s).state.ru = s.ru ∧ (judgeOffer c s).state.bu = s.bu ∧
    (judgeOffer c s).state.blc = s.blc ∧ (judgeOffer c s).state.tb = s.tb := by
  unfold judgeOffer
  (repeat' split) <;> simp [Judgement.outOfTurn]

@[simp] theorem judgeEntering_frame (c : ReceivedCode) :
    (judgeEntering c s).state.pending = s.pending ∧ (judgeEntering c s).state.draws = s.draws ∧
    (judgeEntering c s).state.cp = s.cp ∧ (judgeEntering c s).state.device = s.device ∧
    (judgeEntering c s).state.cfg = s.cfg ∧ (judgeEntering c s).state.sbc = s.sbc ∧
    (judgeEntering c s).state.boards = s.boards ∧ (judgeEntering c s).state.tcm = s.tcm ∧
    (judgeEntering c s).state.llu = s.llu ∧ (judgeEntering c s).state.ht = s.ht ∧
    (judgeEntering c s).state.ru = s.ru ∧ (judgeEntering c s).state.bu = s.bu ∧
    (judgeEntering c s).state.au = s.au ∧ (judgeEntering c s).state.tb = s.tb := by
  unfold judgeEntering
  (repeat' split) <;> simp [Judgement.outOfTurn]

@[simp] theorem judgeOutOfSection_frame (c : ReceivedCode) :
    (judgeOutOfSection c s).state.pending = s.pending ∧
    (judgeOutOfSection c s).state.draws = s.draws ∧ (judgeOutOfSection c s).state.cp = s.cp ∧
    (judgeOutOfSection c s).state.device = s.device ∧ (judgeOutOfSection c s).state.cfg = s.cfg ∧
    (judgeOutOfSection c s).state.sbc = s.sbc ∧ (judgeOutOfSection c s).state.boards = s.boards ∧
    (judgeOutOfSection c s).state.tcm = s.tcm ∧ (judgeOutOfSection c s).state.llu = s.llu ∧
    (judgeOutOfSection c s).state.ru = s.ru ∧ (judgeOutOfSection c s).state.bu = s.bu ∧
    (judgeOutOfSection c s).state.au = s.au ∧ (judgeOutOfSection c s).state.tb = s.tb := by
  unfold judgeOutOfSection
  (repeat' split) <;> simp [Judgement.outOfTurn]

@[simp] theorem judgeCancel_frame (c : ReceivedCode) :
    (judgeCancel c s).state.pending = s.pending ∧ (judgeCancel c s).state.draws = s.draws ∧
    (judgeCancel c s).state.cp = s.cp ∧ (judgeCancel c s).state.device = s.device ∧
    (judgeCancel c s).state.cfg = s.cfg ∧ (judgeCancel c s).state.sbc = s.sbc ∧
    (judgeCancel c s).state.boards = s.boards ∧ (judgeCancel c s).state.tcm = s.tcm ∧
    (judgeCancel c s).state.llu = s.llu ∧ (judgeCancel c s).state.ru = s.ru ∧
    (judgeCancel c s).state.bu = s.bu ∧ (judgeCancel c s).state.au = s.au ∧
    (judgeCancel c s).state.tb = s.tb := by
  unfold judgeCancel
  (repeat' split) <;>
    simp [Judgement.outOfTurn, retireClearing, *]

@[simp] theorem judgeMeaning_frame (c : ReceivedCode) :
    (judgeMeaning c s).state.pending = s.pending ∧ (judgeMeaning c s).state.draws = s.draws ∧
    (judgeMeaning c s).state.cp = s.cp ∧ (judgeMeaning c s).state.device = s.device ∧
    (judgeMeaning c s).state.cfg = s.cfg ∧ (judgeMeaning c s).state.sbc = s.sbc ∧
    (judgeMeaning c s).state.boards = s.boards ∧ (judgeMeaning c s).state.tcm = s.tcm ∧
    (judgeMeaning c s).state.llu = s.llu ∧ (judgeMeaning c s).state.ru = s.ru ∧
    (judgeMeaning c s).state.bu = s.bu ∧ (judgeMeaning c s).state.tb = s.tb := by
  unfold judgeMeaning
  (repeat' split) <;> simp [Judgement.noEffect]

@[simp] theorem takeReceivedCode_frame (c : ReceivedCode) :
    (takeReceivedCode c s).1.pending = s.pending ∧ (takeReceivedCode c s).1.draws = s.draws ∧
    (takeReceivedCode c s).1.cp = s.cp ∧ (takeReceivedCode c s).1.device = s.device ∧
    (takeReceivedCode c s).1.cfg = s.cfg ∧ (takeReceivedCode c s).1.sbc = s.sbc ∧
    (takeReceivedCode c s).1.boards = s.boards ∧ (takeReceivedCode c s).1.tcm = s.tcm ∧
    (takeReceivedCode c s).1.llu = s.llu ∧ (takeReceivedCode c s).1.ru = s.ru ∧
    (takeReceivedCode c s).1.bu = s.bu ∧ (takeReceivedCode c s).1.tb = s.tb := by
  unfold takeReceivedCode
  dsimp only
  (repeat' split) <;> simp [Judgement.noEffect]

@[simp] theorem withdrawAcceptance_frame (x : Line) (r : TrainId) :
    (withdrawAcceptance x r s).pending = s.pending ∧ (withdrawAcceptance x r s).draws = s.draws ∧
    (withdrawAcceptance x r s).cp = s.cp ∧ (withdrawAcceptance x r s).device = s.device ∧
    (withdrawAcceptance x r s).cfg = s.cfg ∧ (withdrawAcceptance x r s).sbc = s.sbc ∧
    (withdrawAcceptance x r s).boards = s.boards ∧ (withdrawAcceptance x r s).tcm = s.tcm ∧
    (withdrawAcceptance x r s).llu = s.llu ∧ (withdrawAcceptance x r s).ru = s.ru ∧
    (withdrawAcceptance x r s).bu = s.bu ∧ (withdrawAcceptance x r s).tb = s.tb := by
  simp [withdrawAcceptance]

@[simp] theorem acceptOutbound_frame (x : Line) (r : TrainId) :
    (acceptOutbound x r s).pending = s.pending ∧ (acceptOutbound x r s).draws = s.draws ∧
    (acceptOutbound x r s).cp = s.cp ∧ (acceptOutbound x r s).device = s.device ∧
    (acceptOutbound x r s).cfg = s.cfg ∧ (acceptOutbound x r s).sbc = s.sbc ∧
    (acceptOutbound x r s).boards = s.boards ∧ (acceptOutbound x r s).tcm = s.tcm ∧
    (acceptOutbound x r s).llu = s.llu ∧ (acceptOutbound x r s).ru = s.ru ∧
    (acceptOutbound x r s).bu = s.bu ∧ (acceptOutbound x r s).tb = s.tb := by
  simp [acceptOutbound]

@[simp] theorem judgeAdoption_frame (x : Line) (i : Instrument) :
    (judgeAdoption x i s).pending = s.pending ∧ (judgeAdoption x i s).draws = s.draws ∧
    (judgeAdoption x i s).cp = s.cp ∧ (judgeAdoption x i s).device = s.device ∧
    (judgeAdoption x i s).cfg = s.cfg ∧ (judgeAdoption x i s).sbc = s.sbc ∧
    (judgeAdoption x i s).boards = s.boards ∧ (judgeAdoption x i s).tcm = s.tcm ∧
    (judgeAdoption x i s).llu = s.llu ∧ (judgeAdoption x i s).ru = s.ru ∧
    (judgeAdoption x i s).bu = s.bu ∧ (judgeAdoption x i s).tb = s.tb := by
  unfold judgeAdoption
  dsimp only
  (repeat' split) <;> simp

@[simp] theorem enterSection_frame (x : Line) (r : TrainId) :
    (enterSection x r s).pending = s.pending ∧ (enterSection x r s).draws = s.draws ∧
    (enterSection x r s).cp = s.cp ∧ (enterSection x r s).device = s.device ∧
    (enterSection x r s).cfg = s.cfg ∧ (enterSection x r s).sbc = s.sbc ∧
    (enterSection x r s).boards = s.boards ∧ (enterSection x r s).tcm = s.tcm ∧
    (enterSection x r s).llu = s.llu ∧ (enterSection x r s).ru = s.ru ∧
    (enterSection x r s).tb = s.tb := by
  unfold enterSection
  dsimp only
  (repeat' split) <;> simp

@[simp] theorem entryOccupied_frame (x : Line) (t : TrackId) :
    (entryOccupied x t s).pending = s.pending ∧ (entryOccupied x t s).draws = s.draws ∧
    (entryOccupied x t s).cp = s.cp ∧ (entryOccupied x t s).device = s.device ∧
    (entryOccupied x t s).cfg = s.cfg ∧ (entryOccupied x t s).sbc = s.sbc ∧
    (entryOccupied x t s).boards = s.boards ∧ (entryOccupied x t s).tcm = s.tcm ∧
    (entryOccupied x t s).llu = s.llu ∧ (entryOccupied x t s).ru = s.ru ∧
    (entryOccupied x t s).tb = s.tb := by
  unfold entryOccupied
  (repeat' split) <;> simp

@[simp] theorem arriveUnannounced_frame (x : Line) (r : TrainId) :
    (arriveUnannounced x r s).pending = s.pending ∧ (arriveUnannounced x r s).draws = s.draws ∧
    (arriveUnannounced x r s).cp = s.cp ∧ (arriveUnannounced x r s).device = s.device ∧
    (arriveUnannounced x r s).cfg = s.cfg ∧ (arriveUnannounced x r s).sbc = s.sbc ∧
    (arriveUnannounced x r s).boards = s.boards ∧ (arriveUnannounced x r s).tcm = s.tcm ∧
    (arriveUnannounced x r s).llu = s.llu ∧ (arriveUnannounced x r s).ht = s.ht ∧
    (arriveUnannounced x r s).ru = s.ru ∧ (arriveUnannounced x r s).bu = s.bu ∧
    (arriveUnannounced x r s).tb = s.tb := by
  simp [arriveUnannounced]

@[simp] theorem berthOccupied_frame (x : Line) (t : TrackId) :
    (berthOccupied x t s).pending = s.pending ∧ (berthOccupied x t s).draws = s.draws ∧
    (berthOccupied x t s).cp = s.cp ∧ (berthOccupied x t s).device = s.device ∧
    (berthOccupied x t s).cfg = s.cfg ∧ (berthOccupied x t s).sbc = s.sbc ∧
    (berthOccupied x t s).boards = s.boards ∧ (berthOccupied x t s).tcm = s.tcm ∧
    (berthOccupied x t s).llu = s.llu ∧ (berthOccupied x t s).ht = s.ht ∧
    (berthOccupied x t s).ru = s.ru ∧ (berthOccupied x t s).bu = s.bu ∧
    (berthOccupied x t s).tb = s.tb := by
  unfold berthOccupied
  (repeat' split) <;> simp

@[simp] theorem trainOccupation_frame (t : TrackId) :
    (trainOccupation t s).pending = s.pending ∧ (trainOccupation t s).draws = s.draws ∧
    (trainOccupation t s).cp = s.cp ∧ (trainOccupation t s).device = s.device ∧
    (trainOccupation t s).cfg = s.cfg ∧ (trainOccupation t s).sbc = s.sbc ∧
    (trainOccupation t s).boards = s.boards ∧ (trainOccupation t s).tcm = s.tcm ∧
    (trainOccupation t s).llu = s.llu ∧ (trainOccupation t s).ru = s.ru ∧
    (trainOccupation t s).tb = s.tb := by
  unfold trainOccupation
  exact ⟨forEachLine_field State.pending (fun x s => by dsimp only; (repeat' split) <;> simp) s,
    forEachLine_field State.draws (fun x s => by dsimp only; (repeat' split) <;> simp) s,
    forEachLine_field State.cp (fun x s => by dsimp only; (repeat' split) <;> simp) s,
    forEachLine_field State.device (fun x s => by dsimp only; (repeat' split) <;> simp) s,
    forEachLine_field State.cfg (fun x s => by dsimp only; (repeat' split) <;> simp) s,
    forEachLine_field State.sbc (fun x s => by dsimp only; (repeat' split) <;> simp) s,
    forEachLine_field State.boards (fun x s => by dsimp only; (repeat' split) <;> simp) s,
    forEachLine_field State.tcm (fun x s => by dsimp only; (repeat' split) <;> simp) s,
    forEachLine_field State.llu (fun x s => by dsimp only; (repeat' split) <;> simp) s,
    forEachLine_field State.ru (fun x s => by dsimp only; (repeat' split) <;> simp) s,
    forEachLine_field State.tb (fun x s => by dsimp only; (repeat' split) <;> simp) s⟩

@[simp] theorem arriveInbound_frame (x : Line) (r : TrainId) :
    (arriveInbound x r s).pending = s.pending ∧ (arriveInbound x r s).draws = s.draws ∧
    (arriveInbound x r s).cp = s.cp ∧ (arriveInbound x r s).device = s.device ∧
    (arriveInbound x r s).cfg = s.cfg ∧ (arriveInbound x r s).sbc = s.sbc ∧
    (arriveInbound x r s).boards = s.boards ∧ (arriveInbound x r s).tcm = s.tcm ∧
    (arriveInbound x r s).llu = s.llu ∧ (arriveInbound x r s).ru = s.ru ∧
    (arriveInbound x r s).bu = s.bu ∧ (arriveInbound x r s).blc = s.blc ∧
    (arriveInbound x r s).au = s.au ∧ (arriveInbound x r s).tb = s.tb := by
  unfold arriveInbound
  simp [retireClearing]

@[simp] theorem berthCleared_frame (x : Line) :
    (berthCleared x s).pending = s.pending ∧ (berthCleared x s).draws = s.draws ∧
    (berthCleared x s).cp = s.cp ∧ (berthCleared x s).device = s.device ∧
    (berthCleared x s).cfg = s.cfg ∧ (berthCleared x s).sbc = s.sbc ∧
    (berthCleared x s).boards = s.boards ∧ (berthCleared x s).tcm = s.tcm ∧
    (berthCleared x s).llu = s.llu ∧ (berthCleared x s).ru = s.ru ∧ (berthCleared x s).bu = s.bu ∧
    (berthCleared x s).blc = s.blc ∧ (berthCleared x s).tb = s.tb := by
  unfold berthCleared
  (repeat' split) <;> simp

@[simp] theorem trainClearance_frame (t : TrackId) :
    (trainClearance t s).pending = s.pending ∧ (trainClearance t s).draws = s.draws ∧
    (trainClearance t s).cp = s.cp ∧ (trainClearance t s).device = s.device ∧
    (trainClearance t s).cfg = s.cfg ∧ (trainClearance t s).sbc = s.sbc ∧
    (trainClearance t s).boards = s.boards ∧ (trainClearance t s).tcm = s.tcm ∧
    (trainClearance t s).llu = s.llu ∧ (trainClearance t s).ru = s.ru ∧
    (trainClearance t s).bu = s.bu ∧ (trainClearance t s).blc = s.blc ∧
    (trainClearance t s).tb = s.tb := by
  unfold trainClearance
  exact ⟨forEachLine_field State.pending (fun x s => by (repeat' split) <;> simp) s,
    forEachLine_field State.draws (fun x s => by (repeat' split) <;> simp) s,
    forEachLine_field State.cp (fun x s => by (repeat' split) <;> simp) s,
    forEachLine_field State.device (fun x s => by (repeat' split) <;> simp) s,
    forEachLine_field State.cfg (fun x s => by (repeat' split) <;> simp) s,
    forEachLine_field State.sbc (fun x s => by (repeat' split) <;> simp) s,
    forEachLine_field State.boards (fun x s => by (repeat' split) <;> simp) s,
    forEachLine_field State.tcm (fun x s => by (repeat' split) <;> simp) s,
    forEachLine_field State.llu (fun x s => by (repeat' split) <;> simp) s,
    forEachLine_field State.ru (fun x s => by (repeat' split) <;> simp) s,
    forEachLine_field State.bu (fun x s => by (repeat' split) <;> simp) s,
    forEachLine_field State.blc (fun x s => by (repeat' split) <;> simp) s,
    forEachLine_field State.tb (fun x s => by (repeat' split) <;> simp) s⟩

@[simp] theorem lapseInbound_frame (r : TrainId) :
    (lapseInbound r s).pending = s.pending ∧ (lapseInbound r s).draws = s.draws ∧
    (lapseInbound r s).cp = s.cp ∧ (lapseInbound r s).device = s.device ∧
    (lapseInbound r s).cfg = s.cfg ∧ (lapseInbound r s).sbc = s.sbc ∧
    (lapseInbound r s).boards = s.boards ∧ (lapseInbound r s).tcm = s.tcm ∧
    (lapseInbound r s).llu = s.llu ∧ (lapseInbound r s).ht = s.ht ∧ (lapseInbound r s).ru = s.ru ∧
    (lapseInbound r s).bu = s.bu ∧ (lapseInbound r s).tb = s.tb := by
  unfold lapseInbound
  (repeat' split) <;> simp

@[simp] theorem dropOutbound_frame (r : TrainId) (b : Bool) :
    (dropOutbound r b s).pending = s.pending ∧ (dropOutbound r b s).draws = s.draws ∧
    (dropOutbound r b s).cp = s.cp ∧ (dropOutbound r b s).device = s.device ∧
    (dropOutbound r b s).cfg = s.cfg ∧ (dropOutbound r b s).sbc = s.sbc ∧
    (dropOutbound r b s).boards = s.boards ∧ (dropOutbound r b s).tcm = s.tcm ∧
    (dropOutbound r b s).llu = s.llu ∧ (dropOutbound r b s).ru = s.ru ∧
    (dropOutbound r b s).bu = s.bu ∧ (dropOutbound r b s).au = s.au ∧
    (dropOutbound r b s).tb = s.tb := by
  unfold dropOutbound
  (repeat' split) <;> simp

@[simp] theorem offerOn_frame (x : Line) (r : TrainId) (c : CodeId) :
    (offerOn x r c s).pending = s.pending ∧ (offerOn x r c s).draws = s.draws ∧
    (offerOn x r c s).cp = s.cp ∧ (offerOn x r c s).device = s.device ∧
    (offerOn x r c s).cfg = s.cfg ∧ (offerOn x r c s).sbc = s.sbc ∧
    (offerOn x r c s).boards = s.boards ∧ (offerOn x r c s).tcm = s.tcm ∧
    (offerOn x r c s).llu = s.llu ∧ (offerOn x r c s).ru = s.ru ∧
    (offerOn x r c s).tb = s.tb := by
  simp [offerOn]

@[simp] theorem acceptOn_frame (x : Line) (r : TrainId) (d : Option Description) (g : List Nat) :
    (acceptOn x r d g s).pending = s.pending ∧ (acceptOn x r d g s).draws = s.draws ∧
    (acceptOn x r d g s).cp = s.cp ∧ (acceptOn x r d g s).device = s.device ∧
    (acceptOn x r d g s).cfg = s.cfg ∧ (acceptOn x r d g s).sbc = s.sbc ∧
    (acceptOn x r d g s).boards = s.boards ∧ (acceptOn x r d g s).tcm = s.tcm ∧
    (acceptOn x r d g s).llu = s.llu ∧ (acceptOn x r d g s).ht = s.ht ∧
    (acceptOn x r d g s).ru = s.ru ∧ (acceptOn x r d g s).tb = s.tb := by
  simp [acceptOn]

@[simp] theorem giveBackSection_frame (x : Line) (r : TrainId) (c : CodeId) :
    (giveBackSection x r c s).pending = s.pending ∧ (giveBackSection x r c s).draws = s.draws ∧
    (giveBackSection x r c s).cp = s.cp ∧ (giveBackSection x r c s).device = s.device ∧
    (giveBackSection x r c s).cfg = s.cfg ∧ (giveBackSection x r c s).sbc = s.sbc ∧
    (giveBackSection x r c s).boards = s.boards ∧ (giveBackSection x r c s).tcm = s.tcm ∧
    (giveBackSection x r c s).llu = s.llu ∧ (giveBackSection x r c s).ht = s.ht ∧
    (giveBackSection x r c s).ru = s.ru ∧ (giveBackSection x r c s).tb = s.tb := by
  simp [giveBackSection]


/-! ### Track circuits -/

@[simp] theorem stepCircuits_frame :
    (stepCircuits s).pending = s.pending ∧ (stepCircuits s).draws = s.draws ∧
    (stepCircuits s).cp = s.cp ∧ (stepCircuits s).device = s.device ∧
    (stepCircuits s).cfg = s.cfg ∧ (stepCircuits s).sbc = s.sbc ∧
    (stepCircuits s).boards = s.boards ∧ (stepCircuits s).llu = s.llu ∧
    (stepCircuits s).ht = s.ht ∧ (stepCircuits s).ru = s.ru ∧ (stepCircuits s).bu = s.bu ∧
    (stepCircuits s).blc = s.blc ∧ (stepCircuits s).trt = s.trt ∧ (stepCircuits s).au = s.au ∧
    (stepCircuits s).tb = s.tb := by
  simp [stepCircuits]

@[simp] theorem setTrackFault_frame (t : TrackId) :
    (setTrackFault t s).pending = s.pending ∧ (setTrackFault t s).draws = s.draws ∧
    (setTrackFault t s).cp = s.cp ∧ (setTrackFault t s).device = s.device ∧
    (setTrackFault t s).cfg = s.cfg ∧ (setTrackFault t s).sbc = s.sbc ∧
    (setTrackFault t s).boards = s.boards ∧ (setTrackFault t s).llu = s.llu ∧
    (setTrackFault t s).ht = s.ht ∧ (setTrackFault t s).ru = s.ru ∧
    (setTrackFault t s).bu = s.bu ∧ (setTrackFault t s).blc = s.blc ∧
    (setTrackFault t s).trt = s.trt ∧ (setTrackFault t s).tb = s.tb := by
  simp [setTrackFault]

@[simp] theorem neighbourChecks_frame (b : State) :
    (neighbourChecks b s).pending = s.pending ∧ (neighbourChecks b s).draws = s.draws ∧
    (neighbourChecks b s).cp = s.cp ∧ (neighbourChecks b s).device = s.device ∧
    (neighbourChecks b s).cfg = s.cfg ∧ (neighbourChecks b s).sbc = s.sbc ∧
    (neighbourChecks b s).boards = s.boards ∧ (neighbourChecks b s).llu = s.llu ∧
    (neighbourChecks b s).ht = s.ht ∧ (neighbourChecks b s).ru = s.ru ∧
    (neighbourChecks b s).bu = s.bu ∧ (neighbourChecks b s).blc = s.blc ∧
    (neighbourChecks b s).trt = s.trt ∧ (neighbourChecks b s).tb = s.tb := by
  unfold neighbourChecks
  exact ⟨forEach_field State.pending (fun i s => by (repeat' split) <;> simp) s,
    forEach_field State.draws (fun i s => by (repeat' split) <;> simp) s,
    forEach_field State.cp (fun i s => by (repeat' split) <;> simp) s,
    forEach_field State.device (fun i s => by (repeat' split) <;> simp) s,
    forEach_field State.cfg (fun i s => by (repeat' split) <;> simp) s,
    forEach_field State.sbc (fun i s => by (repeat' split) <;> simp) s,
    forEach_field State.boards (fun i s => by (repeat' split) <;> simp) s,
    forEach_field State.llu (fun i s => by (repeat' split) <;> simp) s,
    forEach_field State.ht (fun i s => by (repeat' split) <;> simp) s,
    forEach_field State.ru (fun i s => by (repeat' split) <;> simp) s,
    forEach_field State.bu (fun i s => by (repeat' split) <;> simp) s,
    forEach_field State.blc (fun i s => by (repeat' split) <;> simp) s,
    forEach_field State.trt (fun i s => by (repeat' split) <;> simp) s,
    forEach_field State.tb (fun i s => by (repeat' split) <;> simp) s⟩

@[simp] theorem writeLamps_frame :
    (writeLamps s).pending = s.pending ∧ (writeLamps s).draws = s.draws ∧
    (writeLamps s).cp = s.cp ∧ (writeLamps s).device = s.device ∧ (writeLamps s).cfg = s.cfg ∧
    (writeLamps s).boards = s.boards ∧ (writeLamps s).tcm = s.tcm ∧ (writeLamps s).llu = s.llu ∧
    (writeLamps s).ht = s.ht ∧ (writeLamps s).ru = s.ru ∧ (writeLamps s).bu = s.bu ∧
    (writeLamps s).blc = s.blc ∧ (writeLamps s).trt = s.trt ∧ (writeLamps s).au = s.au ∧
    (writeLamps s).tb = s.tb := by
  simp [writeLamps]

@[simp] theorem occupationEvents_frame (b a : State) :
    (occupationEvents b a s).pending = s.pending ∧ (occupationEvents b a s).draws = s.draws ∧
    (occupationEvents b a s).cp = s.cp ∧ (occupationEvents b a s).device = s.device ∧
    (occupationEvents b a s).cfg = s.cfg ∧ (occupationEvents b a s).sbc = s.sbc ∧
    (occupationEvents b a s).boards = s.boards ∧ (occupationEvents b a s).llu = s.llu ∧
    (occupationEvents b a s).tb = s.tb := by
  unfold occupationEvents forEach
  split
  · rename_i h
    clear h
    generalize List.finRange _ = l
    induction l generalizing s with
    | nil => simp
    | cons i l ih =>
      simp only [List.foldl_cons, ih]
      (repeat' split) <;> simp
  · simp

@[simp] theorem takeTrackPart_frame :
    (takeTrackPart s).pending = s.pending ∧ (takeTrackPart s).draws = s.draws ∧
    (takeTrackPart s).cp = s.cp ∧ (takeTrackPart s).device = s.device ∧
    (takeTrackPart s).cfg = s.cfg ∧ (takeTrackPart s).boards = s.boards ∧
    (takeTrackPart s).llu = s.llu ∧ (takeTrackPart s).tb = s.tb := by
  simp [takeTrackPart]

@[simp] theorem trackWithdrawn_frame :
    (trackWithdrawn s).pending = s.pending ∧ (trackWithdrawn s).draws = s.draws ∧
    (trackWithdrawn s).cp = s.cp ∧ (trackWithdrawn s).device = s.device ∧
    (trackWithdrawn s).cfg = s.cfg ∧ (trackWithdrawn s).boards = s.boards ∧
    (trackWithdrawn s).llu = s.llu ∧ (trackWithdrawn s).ht = s.ht ∧ (trackWithdrawn s).ru = s.ru ∧
    (trackWithdrawn s).bu = s.bu ∧ (trackWithdrawn s).blc = s.blc ∧
    (trackWithdrawn s).trt = s.trt ∧ (trackWithdrawn s).au = s.au ∧
    (trackWithdrawn s).tb = s.tb := by
  simp [trackWithdrawn]

@[simp] theorem clearDue_frame :
    (clearDue s).pending = s.pending ∧ (clearDue s).draws = s.draws ∧ (clearDue s).cp = s.cp ∧
    (clearDue s).device = s.device ∧ (clearDue s).cfg = s.cfg ∧ (clearDue s).boards = s.boards ∧
    (clearDue s).llu = s.llu ∧ (clearDue s).ht = s.ht ∧ (clearDue s).ru = s.ru ∧
    (clearDue s).bu = s.bu ∧ (clearDue s).blc = s.blc ∧ (clearDue s).trt = s.trt ∧
    (clearDue s).au = s.au ∧ (clearDue s).tb = s.tb := by
  simp [clearDue]

@[simp] theorem clearanceEvents_frame (b : State) :
    (clearanceEvents b s).pending = s.pending ∧ (clearanceEvents b s).draws = s.draws ∧
    (clearanceEvents b s).cp = s.cp ∧ (clearanceEvents b s).device = s.device ∧
    (clearanceEvents b s).cfg = s.cfg ∧ (clearanceEvents b s).sbc = s.sbc ∧
    (clearanceEvents b s).boards = s.boards ∧ (clearanceEvents b s).llu = s.llu ∧
    (clearanceEvents b s).bu = s.bu ∧ (clearanceEvents b s).blc = s.blc ∧
    (clearanceEvents b s).tb = s.tb := by
  unfold clearanceEvents forEach
  split
  · rename_i h
    clear h
    generalize List.finRange _ = l
    induction l generalizing s with
    | nil => simp
    | cons i l ih =>
      simp only [List.foldl_cons, ih]
      (repeat' split) <;> simp
  · simp


/-! ### Levers -/

@[simp] theorem refuse_frame (l : LeverId) (why : RefusalReason) :
    (refuse l why s).pending = s.pending ∧ (refuse l why s).draws = s.draws ∧
    (refuse l why s).cp = s.cp ∧ (refuse l why s).device = s.device ∧
    (refuse l why s).cfg = s.cfg ∧ (refuse l why s).sbc = s.sbc ∧
    (refuse l why s).boards = s.boards ∧ (refuse l why s).tcm = s.tcm ∧
    (refuse l why s).ht = s.ht ∧ (refuse l why s).ru = s.ru ∧ (refuse l why s).bu = s.bu ∧
    (refuse l why s).blc = s.blc ∧ (refuse l why s).trt = s.trt ∧ (refuse l why s).tb = s.tb := by
  unfold refuse
  dsimp only
  (repeat' split) <;> simp

@[simp] theorem leverFault_frame (l : LeverId) (f : LeverFault) :
    (leverFault l f s).pending = s.pending ∧ (leverFault l f s).draws = s.draws ∧
    (leverFault l f s).cp = s.cp ∧ (leverFault l f s).device = s.device ∧
    (leverFault l f s).cfg = s.cfg ∧ (leverFault l f s).sbc = s.sbc ∧
    (leverFault l f s).boards = s.boards ∧ (leverFault l f s).tcm = s.tcm ∧
    (leverFault l f s).ht = s.ht ∧ (leverFault l f s).ru = s.ru ∧ (leverFault l f s).bu = s.bu ∧
    (leverFault l f s).blc = s.blc ∧ (leverFault l f s).trt = s.trt ∧
    (leverFault l f s).tb = s.tb := by
  simp [leverFault]

@[simp] theorem giveGrant_frame (l : LeverId) (p : EndPos) :
    (giveGrant l p s).pending = s.pending ∧ (giveGrant l p s).draws = s.draws ∧
    (giveGrant l p s).cp = s.cp ∧ (giveGrant l p s).device = s.device ∧
    (giveGrant l p s).cfg = s.cfg ∧ (giveGrant l p s).sbc = s.sbc ∧
    (giveGrant l p s).boards = s.boards ∧ (giveGrant l p s).tcm = s.tcm ∧
    (giveGrant l p s).ht = s.ht ∧ (giveGrant l p s).ru = s.ru ∧ (giveGrant l p s).bu = s.bu ∧
    (giveGrant l p s).blc = s.blc ∧ (giveGrant l p s).trt = s.trt ∧ (giveGrant l p s).au = s.au ∧
    (giveGrant l p s).tb = s.tb := by
  simp [giveGrant]

@[simp] theorem askRoute_frame (l : LeverId) (p : EndPos) :
    (askRoute l p s).pending = s.pending ∧ (askRoute l p s).draws = s.draws ∧
    (askRoute l p s).cp = s.cp ∧ (askRoute l p s).device = s.device ∧
    (askRoute l p s).cfg = s.cfg ∧ (askRoute l p s).sbc = s.sbc ∧
    (askRoute l p s).boards = s.boards ∧ (askRoute l p s).bu = s.bu ∧
    (askRoute l p s).blc = s.blc ∧ (askRoute l p s).trt = s.trt ∧ (askRoute l p s).tb = s.tb := by
  have h := routeRequest_frame s l
  unfold askRoute
  split
  · split <;> (rename_i e; simp only [e] at h; simp [h])
  · simp

@[simp] theorem seekGrant_frame (l : LeverId) (p : EndPos) :
    (seekGrant l p s).pending = s.pending ∧ (seekGrant l p s).draws = s.draws ∧
    (seekGrant l p s).cp = s.cp ∧ (seekGrant l p s).device = s.device ∧
    (seekGrant l p s).cfg = s.cfg ∧ (seekGrant l p s).sbc = s.sbc ∧
    (seekGrant l p s).boards = s.boards ∧ (seekGrant l p s).bu = s.bu ∧
    (seekGrant l p s).blc = s.blc ∧ (seekGrant l p s).trt = s.trt ∧
    (seekGrant l p s).tb = s.tb := by
  unfold seekGrant
  (repeat' split) <;> simp

@[simp] theorem seekAtEnd_frame (l : LeverId) :
    (seekAtEnd l s).pending = s.pending ∧ (seekAtEnd l s).draws = s.draws ∧
    (seekAtEnd l s).cp = s.cp ∧ (seekAtEnd l s).device = s.device ∧ (seekAtEnd l s).cfg = s.cfg ∧
    (seekAtEnd l s).sbc = s.sbc ∧ (seekAtEnd l s).boards = s.boards ∧ (seekAtEnd l s).bu = s.bu ∧
    (seekAtEnd l s).blc = s.blc ∧ (seekAtEnd l s).trt = s.trt ∧ (seekAtEnd l s).tb = s.tb := by
  unfold seekAtEnd
  (repeat' split) <;> simp

@[simp] theorem withdrawGrant_frame (l : LeverId) (p : EndPos) :
    (withdrawGrant l p s).pending = s.pending ∧ (withdrawGrant l p s).draws = s.draws ∧
    (withdrawGrant l p s).cp = s.cp ∧ (withdrawGrant l p s).device = s.device ∧
    (withdrawGrant l p s).cfg = s.cfg ∧ (withdrawGrant l p s).sbc = s.sbc ∧
    (withdrawGrant l p s).boards = s.boards ∧ (withdrawGrant l p s).tcm = s.tcm ∧
    (withdrawGrant l p s).bu = s.bu ∧ (withdrawGrant l p s).blc = s.blc ∧
    (withdrawGrant l p s).trt = s.trt ∧ (withdrawGrant l p s).au = s.au ∧
    (withdrawGrant l p s).tb = s.tb := by
  unfold withdrawGrant notice
  dsimp only
  (repeat' split) <;> simp

@[simp] theorem withdrawFor_frame (l : LeverId) (p : EndPos) (why : RefusalReason) :
    (withdrawFor l p why s).pending = s.pending ∧ (withdrawFor l p why s).draws = s.draws ∧
    (withdrawFor l p why s).cp = s.cp ∧ (withdrawFor l p why s).device = s.device ∧
    (withdrawFor l p why s).cfg = s.cfg ∧ (withdrawFor l p why s).sbc = s.sbc ∧
    (withdrawFor l p why s).boards = s.boards ∧ (withdrawFor l p why s).tcm = s.tcm ∧
    (withdrawFor l p why s).bu = s.bu ∧ (withdrawFor l p why s).blc = s.blc ∧
    (withdrawFor l p why s).trt = s.trt ∧ (withdrawFor l p why s).tb = s.tb := by
  simp [withdrawFor]

@[simp] theorem retestGrant_frame (l : LeverId) (p : EndPos) :
    (retestGrant l p s).pending = s.pending ∧ (retestGrant l p s).draws = s.draws ∧
    (retestGrant l p s).cp = s.cp ∧ (retestGrant l p s).device = s.device ∧
    (retestGrant l p s).cfg = s.cfg ∧ (retestGrant l p s).sbc = s.sbc ∧
    (retestGrant l p s).boards = s.boards ∧ (retestGrant l p s).tcm = s.tcm ∧
    (retestGrant l p s).bu = s.bu ∧ (retestGrant l p s).blc = s.blc ∧
    (retestGrant l p s).trt = s.trt ∧ (retestGrant l p s).tb = s.tb := by
  unfold retestGrant
  (repeat' split) <;> simp

@[simp] theorem noticeReturned_frame (l : LeverId) (p : EndPos) :
    (noticeReturned l p s).pending = s.pending ∧ (noticeReturned l p s).draws = s.draws ∧
    (noticeReturned l p s).cp = s.cp ∧ (noticeReturned l p s).device = s.device ∧
    (noticeReturned l p s).cfg = s.cfg ∧ (noticeReturned l p s).sbc = s.sbc ∧
    (noticeReturned l p s).boards = s.boards ∧ (noticeReturned l p s).llu = s.llu ∧
    (noticeReturned l p s).bu = s.bu ∧ (noticeReturned l p s).blc = s.blc ∧
    (noticeReturned l p s).trt = s.trt ∧ (noticeReturned l p s).tb = s.tb := by
  unfold noticeReturned notice
  (repeat' split) <;> simp

@[simp] theorem arriveAt_frame (l : LeverId) (p e : EndPos) :
    (arriveAt l p e s).pending = s.pending ∧ (arriveAt l p e s).draws = s.draws ∧
    (arriveAt l p e s).cp = s.cp ∧ (arriveAt l p e s).device = s.device ∧
    (arriveAt l p e s).cfg = s.cfg ∧ (arriveAt l p e s).sbc = s.sbc ∧
    (arriveAt l p e s).boards = s.boards ∧ (arriveAt l p e s).bu = s.bu ∧
    (arriveAt l p e s).blc = s.blc ∧ (arriveAt l p e s).trt = s.trt ∧
    (arriveAt l p e s).tb = s.tb := by
  simp [arriveAt]

@[simp] theorem beginStroke_frame (l : LeverId) (p : EndPos) :
    (beginStroke l p s).pending = s.pending ∧ (beginStroke l p s).draws = s.draws ∧
    (beginStroke l p s).cp = s.cp ∧ (beginStroke l p s).device = s.device ∧
    (beginStroke l p s).cfg = s.cfg ∧ (beginStroke l p s).sbc = s.sbc ∧
    (beginStroke l p s).boards = s.boards ∧ (beginStroke l p s).tcm = s.tcm ∧
    (beginStroke l p s).ht = s.ht ∧ (beginStroke l p s).bu = s.bu ∧
    (beginStroke l p s).blc = s.blc ∧ (beginStroke l p s).trt = s.trt ∧
    (beginStroke l p s).au = s.au ∧ (beginStroke l p s).tb = s.tb := by
  unfold beginStroke notice
  dsimp only
  (repeat' split) <;> simp

@[simp] theorem leaveOrigin_frame (l : LeverId) (p : EndPos) :
    (leaveOrigin l p s).pending = s.pending ∧ (leaveOrigin l p s).draws = s.draws ∧
    (leaveOrigin l p s).cp = s.cp ∧ (leaveOrigin l p s).device = s.device ∧
    (leaveOrigin l p s).cfg = s.cfg ∧ (leaveOrigin l p s).sbc = s.sbc ∧
    (leaveOrigin l p s).boards = s.boards ∧ (leaveOrigin l p s).bu = s.bu ∧
    (leaveOrigin l p s).blc = s.blc ∧ (leaveOrigin l p s).trt = s.trt ∧
    (leaveOrigin l p s).tb = s.tb := by
  unfold leaveOrigin
  (repeat' split) <;> simp

@[simp] theorem unreleasedDeparture_frame (l : LeverId) (p : EndPos) :
    (unreleasedDeparture l p s).pending = s.pending ∧
    (unreleasedDeparture l p s).draws = s.draws ∧ (unreleasedDeparture l p s).cp = s.cp ∧
    (unreleasedDeparture l p s).device = s.device ∧ (unreleasedDeparture l p s).cfg = s.cfg ∧
    (unreleasedDeparture l p s).sbc = s.sbc ∧ (unreleasedDeparture l p s).boards = s.boards ∧
    (unreleasedDeparture l p s).bu = s.bu ∧ (unreleasedDeparture l p s).blc = s.blc ∧
    (unreleasedDeparture l p s).trt = s.trt ∧ (unreleasedDeparture l p s).tb = s.tb := by
  unfold unreleasedDeparture notice
  dsimp only
  (repeat' split) <;> simp

@[simp] theorem contactEffect_frame (l : LeverId) :
    (contactEffect l s).pending = s.pending ∧ (contactEffect l s).draws = s.draws ∧
    (contactEffect l s).cp = s.cp ∧ (contactEffect l s).device = s.device ∧
    (contactEffect l s).cfg = s.cfg ∧ (contactEffect l s).sbc = s.sbc ∧
    (contactEffect l s).boards = s.boards ∧ (contactEffect l s).bu = s.bu ∧
    (contactEffect l s).blc = s.blc ∧ (contactEffect l s).trt = s.trt ∧
    (contactEffect l s).tb = s.tb := by
  unfold contactEffect notice
  dsimp only
  (repeat' split) <;> simp

@[simp] theorem contactFault_frame (l : LeverId) :
    (contactFault l s).pending = s.pending ∧ (contactFault l s).draws = s.draws ∧
    (contactFault l s).cp = s.cp ∧ (contactFault l s).device = s.device ∧
    (contactFault l s).cfg = s.cfg ∧ (contactFault l s).sbc = s.sbc ∧
    (contactFault l s).boards = s.boards ∧ (contactFault l s).bu = s.bu ∧
    (contactFault l s).blc = s.blc ∧ (contactFault l s).trt = s.trt ∧
    (contactFault l s).tb = s.tb := by
  unfold contactFault
  (repeat' split) <;> simp

@[simp] theorem judgeNotGranted_frame (m : Continuity) (l : LeverId) :
    (judgeNotGranted m l s).pending = s.pending ∧ (judgeNotGranted m l s).draws = s.draws ∧
    (judgeNotGranted m l s).cp = s.cp ∧ (judgeNotGranted m l s).device = s.device ∧
    (judgeNotGranted m l s).cfg = s.cfg ∧ (judgeNotGranted m l s).sbc = s.sbc ∧
    (judgeNotGranted m l s).boards = s.boards ∧ (judgeNotGranted m l s).bu = s.bu ∧
    (judgeNotGranted m l s).blc = s.blc ∧ (judgeNotGranted m l s).trt = s.trt ∧
    (judgeNotGranted m l s).tb = s.tb := by
  unfold judgeNotGranted
  (repeat' split) <;> simp

@[simp] theorem judgeLever_frame (m : Continuity) (l : LeverId) :
    (judgeLever m l s).pending = s.pending ∧ (judgeLever m l s).draws = s.draws ∧
    (judgeLever m l s).cp = s.cp ∧ (judgeLever m l s).device = s.device ∧
    (judgeLever m l s).cfg = s.cfg ∧ (judgeLever m l s).sbc = s.sbc ∧
    (judgeLever m l s).boards = s.boards ∧ (judgeLever m l s).bu = s.bu ∧
    (judgeLever m l s).blc = s.blc ∧ (judgeLever m l s).trt = s.trt ∧
    (judgeLever m l s).tb = s.tb := by
  unfold judgeLever
  (repeat' split) <;> simp

@[simp] theorem evaluateLever_frame (m : Continuity) (l : LeverId) :
    (evaluateLever m l s).pending = s.pending ∧ (evaluateLever m l s).draws = s.draws ∧
    (evaluateLever m l s).cp = s.cp ∧ (evaluateLever m l s).device = s.device ∧
    (evaluateLever m l s).cfg = s.cfg ∧ (evaluateLever m l s).sbc = s.sbc ∧
    (evaluateLever m l s).boards = s.boards ∧ (evaluateLever m l s).bu = s.bu ∧
    (evaluateLever m l s).blc = s.blc ∧ (evaluateLever m l s).trt = s.trt ∧
    (evaluateLever m l s).tb = s.tb := by
  unfold evaluateLever
  (repeat' split) <;> simp

@[simp] theorem closingCheck_frame (l : LeverId) :
    (closingCheck l s).pending = s.pending ∧ (closingCheck l s).draws = s.draws ∧
    (closingCheck l s).cp = s.cp ∧ (closingCheck l s).device = s.device ∧
    (closingCheck l s).cfg = s.cfg ∧ (closingCheck l s).sbc = s.sbc ∧
    (closingCheck l s).boards = s.boards ∧ (closingCheck l s).tcm = s.tcm ∧
    (closingCheck l s).bu = s.bu ∧ (closingCheck l s).blc = s.blc ∧
    (closingCheck l s).trt = s.trt ∧ (closingCheck l s).tb = s.tb := by
  unfold closingCheck
  (repeat' split) <;> simp

@[simp] theorem writeMagnets_frame :
    (writeMagnets s).pending = s.pending ∧ (writeMagnets s).draws = s.draws ∧
    (writeMagnets s).cp = s.cp ∧ (writeMagnets s).device = s.device ∧
    (writeMagnets s).cfg = s.cfg ∧ (writeMagnets s).boards = s.boards ∧
    (writeMagnets s).tcm = s.tcm ∧ (writeMagnets s).llu = s.llu ∧ (writeMagnets s).ht = s.ht ∧
    (writeMagnets s).ru = s.ru ∧ (writeMagnets s).bu = s.bu ∧ (writeMagnets s).blc = s.blc ∧
    (writeMagnets s).trt = s.trt ∧ (writeMagnets s).au = s.au ∧ (writeMagnets s).tb = s.tb := by
  simp [writeMagnets]

@[simp] theorem restoreRelease_frame (l : LeverId) :
    (restoreRelease l s).pending = s.pending ∧ (restoreRelease l s).draws = s.draws ∧
    (restoreRelease l s).cp = s.cp ∧ (restoreRelease l s).device = s.device ∧
    (restoreRelease l s).cfg = s.cfg ∧ (restoreRelease l s).sbc = s.sbc ∧
    (restoreRelease l s).boards = s.boards ∧ (restoreRelease l s).tcm = s.tcm ∧
    (restoreRelease l s).ht = s.ht ∧ (restoreRelease l s).ru = s.ru ∧
    (restoreRelease l s).bu = s.bu ∧ (restoreRelease l s).blc = s.blc ∧
    (restoreRelease l s).trt = s.trt ∧ (restoreRelease l s).au = s.au ∧
    (restoreRelease l s).tb = s.tb := by
  unfold restoreRelease
  (repeat' split) <;> simp

@[simp] theorem restoreDeparture_frame (l : LeverId) :
    (restoreDeparture l s).pending = s.pending ∧ (restoreDeparture l s).draws = s.draws ∧
    (restoreDeparture l s).cp = s.cp ∧ (restoreDeparture l s).device = s.device ∧
    (restoreDeparture l s).cfg = s.cfg ∧ (restoreDeparture l s).sbc = s.sbc ∧
    (restoreDeparture l s).boards = s.boards ∧ (restoreDeparture l s).bu = s.bu ∧
    (restoreDeparture l s).blc = s.blc ∧ (restoreDeparture l s).trt = s.trt ∧
    (restoreDeparture l s).tb = s.tb := by
  unfold restoreDeparture
  (repeat' split) <;> simp

@[simp] theorem restoreUnseen_frame (l : LeverId) :
    (restoreUnseen l s).pending = s.pending ∧ (restoreUnseen l s).draws = s.draws ∧
    (restoreUnseen l s).cp = s.cp ∧ (restoreUnseen l s).device = s.device ∧
    (restoreUnseen l s).cfg = s.cfg ∧ (restoreUnseen l s).sbc = s.sbc ∧
    (restoreUnseen l s).boards = s.boards ∧ (restoreUnseen l s).tcm = s.tcm ∧
    (restoreUnseen l s).ht = s.ht ∧ (restoreUnseen l s).ru = s.ru ∧
    (restoreUnseen l s).bu = s.bu ∧ (restoreUnseen l s).blc = s.blc ∧
    (restoreUnseen l s).trt = s.trt ∧ (restoreUnseen l s).au = s.au ∧
    (restoreUnseen l s).tb = s.tb := by
  unfold restoreUnseen
  (repeat' split) <;> simp

@[simp] theorem restoreContacts_frame (l : LeverId) :
    (restoreContacts l s).pending = s.pending ∧ (restoreContacts l s).draws = s.draws ∧
    (restoreContacts l s).cp = s.cp ∧ (restoreContacts l s).device = s.device ∧
    (restoreContacts l s).cfg = s.cfg ∧ (restoreContacts l s).sbc = s.sbc ∧
    (restoreContacts l s).boards = s.boards ∧ (restoreContacts l s).bu = s.bu ∧
    (restoreContacts l s).blc = s.blc ∧ (restoreContacts l s).trt = s.trt ∧
    (restoreContacts l s).tb = s.tb := by
  unfold restoreContacts
  (repeat' split) <;> simp

@[simp] theorem restoreReturned_frame (l : LeverId) :
    (restoreReturned l s).pending = s.pending ∧ (restoreReturned l s).draws = s.draws ∧
    (restoreReturned l s).cp = s.cp ∧ (restoreReturned l s).device = s.device ∧
    (restoreReturned l s).cfg = s.cfg ∧ (restoreReturned l s).sbc = s.sbc ∧
    (restoreReturned l s).boards = s.boards ∧ (restoreReturned l s).llu = s.llu ∧
    (restoreReturned l s).bu = s.bu ∧ (restoreReturned l s).blc = s.blc ∧
    (restoreReturned l s).trt = s.trt ∧ (restoreReturned l s).tb = s.tb := by
  unfold restoreReturned notice
  (repeat' split) <;> simp

@[simp] theorem restoreDeparturePass_frame :
    (forEach 40 restoreDeparture s).pending = s.pending ∧
    (forEach 40 restoreDeparture s).draws = s.draws ∧ (forEach 40 restoreDeparture s).cp = s.cp ∧
    (forEach 40 restoreDeparture s).device = s.device ∧
    (forEach 40 restoreDeparture s).cfg = s.cfg ∧ (forEach 40 restoreDeparture s).sbc = s.sbc ∧
    (forEach 40 restoreDeparture s).boards = s.boards ∧
    (forEach 40 restoreDeparture s).bu = s.bu ∧ (forEach 40 restoreDeparture s).blc = s.blc ∧
    (forEach 40 restoreDeparture s).trt = s.trt ∧ (forEach 40 restoreDeparture s).tb = s.tb := by
  unfold forEach
  generalize List.finRange _ = l
  induction l generalizing s with
  | nil => simp
  | cons i l ih => simp only [List.foldl_cons, ih]; simp

@[simp] theorem restoreContactsPass_frame :
    (forEach 40 restoreContacts s).pending = s.pending ∧
    (forEach 40 restoreContacts s).draws = s.draws ∧ (forEach 40 restoreContacts s).cp = s.cp ∧
    (forEach 40 restoreContacts s).device = s.device ∧
    (forEach 40 restoreContacts s).cfg = s.cfg ∧ (forEach 40 restoreContacts s).sbc = s.sbc ∧
    (forEach 40 restoreContacts s).boards = s.boards ∧ (forEach 40 restoreContacts s).bu = s.bu ∧
    (forEach 40 restoreContacts s).blc = s.blc ∧ (forEach 40 restoreContacts s).trt = s.trt ∧
    (forEach 40 restoreContacts s).tb = s.tb := by
  unfold forEach
  generalize List.finRange _ = l
  induction l generalizing s with
  | nil => simp
  | cons i l ih => simp only [List.foldl_cons, ih]; simp

@[simp] theorem restoreReleasePass_frame :
    (forEach 40 restoreRelease s).pending = s.pending ∧
    (forEach 40 restoreRelease s).draws = s.draws ∧ (forEach 40 restoreRelease s).cp = s.cp ∧
    (forEach 40 restoreRelease s).device = s.device ∧ (forEach 40 restoreRelease s).cfg = s.cfg ∧
    (forEach 40 restoreRelease s).sbc = s.sbc ∧ (forEach 40 restoreRelease s).boards = s.boards ∧
    (forEach 40 restoreRelease s).tcm = s.tcm ∧ (forEach 40 restoreRelease s).ht = s.ht ∧
    (forEach 40 restoreRelease s).ru = s.ru ∧ (forEach 40 restoreRelease s).bu = s.bu ∧
    (forEach 40 restoreRelease s).blc = s.blc ∧ (forEach 40 restoreRelease s).trt = s.trt ∧
    (forEach 40 restoreRelease s).au = s.au ∧ (forEach 40 restoreRelease s).tb = s.tb := by
  unfold forEach
  generalize List.finRange _ = l
  induction l generalizing s with
  | nil => simp
  | cons i l ih => simp only [List.foldl_cons, ih]; simp

@[simp] theorem restoreUnseenPass_frame :
    (forEach 40 restoreUnseen s).pending = s.pending ∧
    (forEach 40 restoreUnseen s).draws = s.draws ∧ (forEach 40 restoreUnseen s).cp = s.cp ∧
    (forEach 40 restoreUnseen s).device = s.device ∧ (forEach 40 restoreUnseen s).cfg = s.cfg ∧
    (forEach 40 restoreUnseen s).sbc = s.sbc ∧ (forEach 40 restoreUnseen s).boards = s.boards ∧
    (forEach 40 restoreUnseen s).tcm = s.tcm ∧ (forEach 40 restoreUnseen s).ht = s.ht ∧
    (forEach 40 restoreUnseen s).ru = s.ru ∧ (forEach 40 restoreUnseen s).bu = s.bu ∧
    (forEach 40 restoreUnseen s).blc = s.blc ∧ (forEach 40 restoreUnseen s).trt = s.trt ∧
    (forEach 40 restoreUnseen s).au = s.au ∧ (forEach 40 restoreUnseen s).tb = s.tb := by
  unfold forEach
  generalize List.finRange _ = l
  induction l generalizing s with
  | nil => simp
  | cons i l ih => simp only [List.foldl_cons, ih]; simp

@[simp] theorem restoreReturnedPass_frame :
    (forEach 40 restoreReturned s).pending = s.pending ∧
    (forEach 40 restoreReturned s).draws = s.draws ∧ (forEach 40 restoreReturned s).cp = s.cp ∧
    (forEach 40 restoreReturned s).device = s.device ∧
    (forEach 40 restoreReturned s).cfg = s.cfg ∧ (forEach 40 restoreReturned s).sbc = s.sbc ∧
    (forEach 40 restoreReturned s).boards = s.boards ∧
    (forEach 40 restoreReturned s).llu = s.llu ∧ (forEach 40 restoreReturned s).bu = s.bu ∧
    (forEach 40 restoreReturned s).blc = s.blc ∧ (forEach 40 restoreReturned s).trt = s.trt ∧
    (forEach 40 restoreReturned s).tb = s.tb := by
  unfold forEach
  generalize List.finRange _ = l
  induction l generalizing s with
  | nil => simp
  | cons i l ih => simp only [List.foldl_cons, ih]; simp

@[simp] theorem restoredSteps_frame :
    (restoredSteps s).pending = s.pending ∧ (restoredSteps s).draws = s.draws ∧
    (restoredSteps s).cp = s.cp ∧ (restoredSteps s).device = s.device ∧
    (restoredSteps s).cfg = s.cfg ∧ (restoredSteps s).sbc = s.sbc ∧
    (restoredSteps s).boards = s.boards ∧ (restoredSteps s).bu = s.bu ∧
    (restoredSteps s).blc = s.blc ∧ (restoredSteps s).trt = s.trt ∧
    (restoredSteps s).tb = s.tb := by
  unfold restoredSteps notice
  dsimp only
  (repeat' split) <;> simp

@[simp] theorem evaluatePass_frame (m : Continuity) :
    (forEach 40 (evaluateLever m) s).pending = s.pending ∧
    (forEach 40 (evaluateLever m) s).draws = s.draws ∧
    (forEach 40 (evaluateLever m) s).cp = s.cp ∧
    (forEach 40 (evaluateLever m) s).device = s.device ∧
    (forEach 40 (evaluateLever m) s).cfg = s.cfg ∧ (forEach 40 (evaluateLever m) s).sbc = s.sbc ∧
    (forEach 40 (evaluateLever m) s).boards = s.boards ∧
    (forEach 40 (evaluateLever m) s).bu = s.bu ∧ (forEach 40 (evaluateLever m) s).blc = s.blc ∧
    (forEach 40 (evaluateLever m) s).trt = s.trt ∧
    (forEach 40 (evaluateLever m) s).tb = s.tb := by
  unfold forEach
  generalize List.finRange _ = l
  induction l generalizing s with
  | nil => simp
  | cons i l ih => simp only [List.foldl_cons, ih]; simp

@[simp] theorem closingPass_frame :
    (forEach 40 closingCheck s).pending = s.pending ∧
    (forEach 40 closingCheck s).draws = s.draws ∧ (forEach 40 closingCheck s).cp = s.cp ∧
    (forEach 40 closingCheck s).device = s.device ∧ (forEach 40 closingCheck s).cfg = s.cfg ∧
    (forEach 40 closingCheck s).sbc = s.sbc ∧ (forEach 40 closingCheck s).boards = s.boards ∧
    (forEach 40 closingCheck s).tcm = s.tcm ∧ (forEach 40 closingCheck s).bu = s.bu ∧
    (forEach 40 closingCheck s).blc = s.blc ∧ (forEach 40 closingCheck s).trt = s.trt ∧
    (forEach 40 closingCheck s).tb = s.tb := by
  unfold forEach
  generalize List.finRange _ = l
  induction l generalizing s with
  | nil => simp
  | cons i l ih => simp only [List.foldl_cons, ih]; simp

@[simp] theorem takeLeverPart_frame (m : Continuity) :
    (takeLeverPart m s).pending = s.pending ∧ (takeLeverPart m s).draws = s.draws ∧
    (takeLeverPart m s).cp = s.cp ∧ (takeLeverPart m s).device = s.device ∧
    (takeLeverPart m s).cfg = s.cfg ∧ (takeLeverPart m s).boards = s.boards ∧
    (takeLeverPart m s).bu = s.bu ∧ (takeLeverPart m s).blc = s.blc ∧
    (takeLeverPart m s).trt = s.trt ∧ (takeLeverPart m s).tb = s.tb := by
  unfold takeLeverPart notice
  dsimp only
  (repeat' split) <;> simp

@[simp] theorem becomeUnseen_frame (l : LeverId) :
    (becomeUnseen l s).pending = s.pending ∧ (becomeUnseen l s).draws = s.draws ∧
    (becomeUnseen l s).cp = s.cp ∧ (becomeUnseen l s).device = s.device ∧
    (becomeUnseen l s).cfg = s.cfg ∧ (becomeUnseen l s).sbc = s.sbc ∧
    (becomeUnseen l s).boards = s.boards ∧ (becomeUnseen l s).tcm = s.tcm ∧
    (becomeUnseen l s).ht = s.ht ∧ (becomeUnseen l s).bu = s.bu ∧ (becomeUnseen l s).blc = s.blc ∧
    (becomeUnseen l s).trt = s.trt ∧ (becomeUnseen l s).au = s.au ∧
    (becomeUnseen l s).tb = s.tb := by
  unfold becomeUnseen notice
  dsimp only
  (repeat' split) <;> simp

@[simp] theorem withdrawLever_frame (l : LeverId) :
    (withdrawLever l s).pending = s.pending ∧ (withdrawLever l s).draws = s.draws ∧
    (withdrawLever l s).cp = s.cp ∧ (withdrawLever l s).device = s.device ∧
    (withdrawLever l s).cfg = s.cfg ∧ (withdrawLever l s).sbc = s.sbc ∧
    (withdrawLever l s).boards = s.boards ∧ (withdrawLever l s).tcm = s.tcm ∧
    (withdrawLever l s).ht = s.ht ∧ (withdrawLever l s).bu = s.bu ∧
    (withdrawLever l s).blc = s.blc ∧ (withdrawLever l s).trt = s.trt ∧
    (withdrawLever l s).au = s.au ∧ (withdrawLever l s).tb = s.tb := by
  unfold withdrawLever
  dsimp only
  (repeat' split) <;> simp

@[simp] theorem leverWithdrawn_frame :
    (leverWithdrawn s).pending = s.pending ∧ (leverWithdrawn s).draws = s.draws ∧
    (leverWithdrawn s).cp = s.cp ∧ (leverWithdrawn s).device = s.device ∧
    (leverWithdrawn s).cfg = s.cfg ∧ (leverWithdrawn s).sbc = s.sbc ∧
    (leverWithdrawn s).boards = s.boards ∧ (leverWithdrawn s).tcm = s.tcm ∧
    (leverWithdrawn s).ht = s.ht ∧ (leverWithdrawn s).bu = s.bu ∧ (leverWithdrawn s).blc = s.blc ∧
    (leverWithdrawn s).trt = s.trt ∧ (leverWithdrawn s).au = s.au ∧
    (leverWithdrawn s).tb = s.tb := by
  unfold leverWithdrawn forEach
  generalize List.finRange _ = l
  induction l generalizing s with
  | nil => simp
  | cons i l ih =>
    simp only [List.foldl_cons, ih]
    simp


/-! ### The scan and the events of a line -/

@[simp] theorem deliverArrival_frame (m : Continuity) :
    (deliverArrival m s).pending = s.pending ∧ (deliverArrival m s).draws = s.draws ∧
    (deliverArrival m s).cp = s.cp ∧ (deliverArrival m s).device = s.device ∧
    (deliverArrival m s).cfg = s.cfg ∧ (deliverArrival m s).boards = s.boards ∧
    (deliverArrival m s).tb = s.tb := by
  simp [deliverArrival]

@[simp] theorem loseScan_frame :
    (loseScan s).pending = s.pending ∧ (loseScan s).draws = s.draws ∧ (loseScan s).cp = s.cp ∧
    (loseScan s).device = s.device ∧ (loseScan s).cfg = s.cfg ∧ (loseScan s).boards = s.boards ∧
    (loseScan s).ht = s.ht ∧ (loseScan s).bu = s.bu ∧ (loseScan s).blc = s.blc ∧
    (loseScan s).trt = s.trt ∧ (loseScan s).au = s.au ∧ (loseScan s).tb = s.tb := by
  simp [loseScan]

@[simp] theorem handOver_frame (x : Line) (c : Assembly) (h : Heard) (b : Bool) :
    (handOver x c h b s).1.pending = s.pending ∧ (handOver x c h b s).1.draws = s.draws ∧
    (handOver x c h b s).1.cp = s.cp ∧ (handOver x c h b s).1.device = s.device ∧
    (handOver x c h b s).1.cfg = s.cfg ∧ (handOver x c h b s).1.sbc = s.sbc ∧
    (handOver x c h b s).1.boards = s.boards ∧ (handOver x c h b s).1.tcm = s.tcm ∧
    (handOver x c h b s).1.llu = s.llu ∧ (handOver x c h b s).1.ru = s.ru ∧
    (handOver x c h b s).1.bu = s.bu ∧ (handOver x c h b s).1.tb = s.tb := by
  unfold handOver
  (repeat' split) <;> simp

@[simp] theorem keepRecognised_frame (x : Line) (g : List Nat) (h : Heard) :
    (keepRecognised x g h s).pending = s.pending ∧ (keepRecognised x g h s).draws = s.draws ∧
    (keepRecognised x g h s).cp = s.cp ∧ (keepRecognised x g h s).device = s.device ∧
    (keepRecognised x g h s).cfg = s.cfg ∧ (keepRecognised x g h s).sbc = s.sbc ∧
    (keepRecognised x g h s).boards = s.boards ∧ (keepRecognised x g h s).tcm = s.tcm ∧
    (keepRecognised x g h s).llu = s.llu ∧ (keepRecognised x g h s).ht = s.ht ∧
    (keepRecognised x g h s).ru = s.ru ∧ (keepRecognised x g h s).blc = s.blc ∧
    (keepRecognised x g h s).trt = s.trt ∧ (keepRecognised x g h s).au = s.au ∧
    (keepRecognised x g h s).tb = s.tb := by
  unfold keepRecognised
  (repeat' split) <;> simp

@[simp] theorem endCode_frame (x : Line) (c : Assembly) :
    (endCode x c s).pending = s.pending ∧ (endCode x c s).draws = s.draws ∧
    (endCode x c s).cp = s.cp ∧ (endCode x c s).device = s.device ∧ (endCode x c s).cfg = s.cfg ∧
    (endCode x c s).sbc = s.sbc ∧ (endCode x c s).boards = s.boards ∧
    (endCode x c s).tcm = s.tcm ∧ (endCode x c s).llu = s.llu ∧ (endCode x c s).ru = s.ru ∧
    (endCode x c s).tb = s.tb := by
  simp [endCode]

@[simp] theorem completeSend_frame (x : Line) (d : Send) :
    (completeSend x d s).pending = s.pending ∧ (completeSend x d s).draws = s.draws ∧
    (completeSend x d s).cp = s.cp ∧ (completeSend x d s).device = s.device ∧
    (completeSend x d s).cfg = s.cfg ∧ (completeSend x d s).sbc = s.sbc ∧
    (completeSend x d s).boards = s.boards ∧ (completeSend x d s).tcm = s.tcm ∧
    (completeSend x d s).llu = s.llu ∧ (completeSend x d s).ht = s.ht ∧
    (completeSend x d s).ru = s.ru ∧ (completeSend x d s).blc = s.blc ∧
    (completeSend x d s).tb = s.tb := by
  unfold completeSend takeSendCompleted
  dsimp only
  (repeat' split) <;> simp

@[simp] theorem adopt_frame (x : Line) (i : Instrument) :
    (adopt x i s).pending = s.pending ∧ (adopt x i s).draws = s.draws ∧ (adopt x i s).cp = s.cp ∧
    (adopt x i s).device = s.device ∧ (adopt x i s).cfg = s.cfg ∧ (adopt x i s).sbc = s.sbc ∧
    (adopt x i s).boards = s.boards ∧ (adopt x i s).tcm = s.tcm ∧ (adopt x i s).llu = s.llu ∧
    (adopt x i s).ru = s.ru ∧ (adopt x i s).bu = s.bu ∧ (adopt x i s).tb = s.tb := by
  unfold adopt
  dsimp only
  (repeat' split) <;> simp

@[simp] theorem invalidReading_frame (x : Line) :
    (invalidReading x s).pending = s.pending ∧ (invalidReading x s).draws = s.draws ∧
    (invalidReading x s).cp = s.cp ∧ (invalidReading x s).device = s.device ∧
    (invalidReading x s).cfg = s.cfg ∧ (invalidReading x s).sbc = s.sbc ∧
    (invalidReading x s).boards = s.boards ∧ (invalidReading x s).tcm = s.tcm ∧
    (invalidReading x s).llu = s.llu ∧ (invalidReading x s).ru = s.ru ∧
    (invalidReading x s).bu = s.bu ∧ (invalidReading x s).trt = s.trt ∧
    (invalidReading x s).tb = s.tb := by
  simp [invalidReading]

@[simp] theorem settle_frame (x : Line) (r : RawReading) :
    (settle x r s).pending = s.pending ∧ (settle x r s).draws = s.draws ∧
    (settle x r s).cp = s.cp ∧ (settle x r s).device = s.device ∧ (settle x r s).cfg = s.cfg ∧
    (settle x r s).sbc = s.sbc ∧ (settle x r s).boards = s.boards ∧ (settle x r s).tcm = s.tcm ∧
    (settle x r s).llu = s.llu ∧ (settle x r s).ru = s.ru ∧ (settle x r s).bu = s.bu ∧
    (settle x r s).tb = s.tb := by
  unfold settle
  dsimp only
  (repeat' split) <;> simp

end Sys2Proof.Machine
end

