-- ==== Sys2Proof/Tests/Slice0.lean ====
section
/-! SUPPORT. The model's own tests: the well-formedness smoke, request frames written out from the byte
layouts, one step of each command with results taken from the rules, and for each statement a witness
that its hypotheses can be met. -/

set_option Elab.async false

namespace Sys2Proof.Tests

open Sys2Proof Sys2Proof.Machine

/-! ### Well-formedness -/

/-- A list of `n` equal elements. -/
def many {α : Type} (n : Nat) (v : α) : List α := List.replicate n v

/-- Every check of WellFormed refuses a term that breaks it and nothing else. -/
theorem test_wellFormed_refuses :
    ([.loadSlots 256 0 [], .loadSlots 8 256 [], .loadSlots 8 0 [⟨256, 0, 0, 0⟩],
      .loadSlots 8 0 [⟨0, 256, 0, 0⟩], .loadSlots 8 0 [⟨0, 0, 256, 0⟩],
      .loadSlots 8 0 [⟨0, 0, 0, 256⟩], .loadSlots 8 0 (many 15 ⟨0, 0, 0, 0⟩),
      .loadLever 256 0 10 [] [], .loadLever 1 256 10 [] [], .loadLever 1 0 65536 [] [],
      .loadLever 1 0 10 [⟨256, 1⟩] [], .loadLever 1 0 10 [] [⟨0, 256⟩],
      .loadLever 1 0 10 (many 14 ⟨0, 1⟩) (many 14 ⟨0, 1⟩),
      .loadRoute 256 [] [] [] 0, .loadRoute 1 [⟨256, 0, 1⟩] [] [] 0,
      .loadRoute 1 [⟨1, 256, 1⟩] [] [] 0, .loadRoute 1 [⟨1, 0, 256⟩] [] [] 0,
      .loadRoute 1 [] [256] [] 0, .loadRoute 1 [] [] [256] 0, .loadRoute 1 [] [] [] 65536,
      .loadRoute 1 [] (many 55 1) [] 0,
      .loadTrack 256 1 [], .loadTrack 1 256 [], .loadTrack 1 1 [256], .loadTrack 1 1 (many 58 2),
      .loadLine 256 1 1 2 1 [] [] 100, .loadLine 0 256 1 2 1 [] [] 100,
      .loadLine 0 1 256 2 1 [] [] 100, .loadLine 0 1 1 256 1 [] [] 100,
      .loadLine 0 1 1 2 256 [] [] 100, .loadLine 0 1 1 2 1 [⟨256, 1⟩] [] 100,
      .loadLine 0 1 1 2 1 [] [⟨256, 0⟩] 100, .loadLine 0 1 1 2 1 [] [⟨1, 256⟩] 100,
      .loadLine 0 1 1 2 1 [] [] 65536, .loadLine 0 1 1 2 1 (many 26 ⟨0, 1⟩) [] 100,
      .loadCode 256 [] [] 0 0 0, .loadCode 0 [256] [0] 0 0 0, .loadCode 0 [1] [256] 0 0 0,
      .loadCode 0 [] [] 256 0 0, .loadCode 0 [] [] 0 256 0, .loadCode 0 [] [] 0 0 256,
      .loadCode 0 (many 28 1) (many 27 0) 0 0 0,
      .loadTiming ⟨65536, 0, 0, 0, 0, 0, 0, 0, 0⟩, .loadTiming ⟨0, 65536, 0, 0, 0, 0, 0, 0, 0⟩,
      .loadTiming ⟨0, 0, 65536, 0, 0, 0, 0, 0, 0⟩, .loadTiming ⟨0, 0, 0, 65536, 0, 0, 0, 0, 0⟩,
      .loadTiming ⟨0, 0, 0, 0, 65536, 0, 0, 0, 0⟩, .loadTiming ⟨0, 0, 0, 0, 0, 65536, 0, 0, 0⟩,
      .loadTiming ⟨0, 0, 0, 0, 0, 0, 65536, 0, 0⟩, .loadTiming ⟨0, 0, 0, 0, 0, 0, 0, 65536, 0⟩,
      .loadTiming ⟨0, 0, 0, 0, 0, 0, 0, 0, 65536⟩,
      .loadAttention 256 0 0, .loadAttention 1 256 0, .loadAttention 1 0 256,
      .readLever 256, .readTrack 256, .readRoute 256, .readHold 256, .listHolds 256 0,
      .listHolds 0 256, .readLine 256, .readCode 256, .readTrain 256, .clearMark 256,
      .placeBar 256 0 0, .placeBar 1 256 0, .removeBar 256, .timedRelease 256,
      .createTrain 256 none, .setDestination 256 0, .setDestination 1 256, .retireTrain 256,
      .offer 256 0, .offer 1 256, .accept 256 none, .acknowledge 256, .sendCode 256 0,
      .sendCode 0 256, .tailSeen 256, .outOfSection 256, .cancelOffer 256, .restoreLine 256,
      .releaseCode 256, .clearAttention 256, .setClock 16777216] : List Instr).all
      (fun i => !i.wellFormed) = true := by decide +kernel

/-- The longest layouts that fit the 60 argument bytes are well formed. -/
theorem test_wellFormed_admits :
    ([.loadSlots 8 0 (many 14 ⟨0, 0, 0, 0⟩), .loadLever 1 0 10 (many 13 ⟨0, 1⟩) (many 14 ⟨0, 1⟩),
      .loadRoute 1 [] (many 54 1) [] 65535, .loadTrack 1 1 (many 57 2),
      .loadLine 0 1 1 2 1 (many 25 ⟨0, 1⟩) [] 100, .loadCode 0 (many 27 1) (many 27 0) 0 0 0,
      .setClock 16777215, .fullReset, .portSelection []] : List Instr).all
      Instr.wellFormed = true := by decide +kernel

/-! ### Decoding -/

/-- The opcode table gives no row any bits: no word spells a command. -/
theorem test_no_word_spells_a_command : decodeTableWord 8 1 = none ∧ decodeTableWord 16 0 = none := by
  decide

/-- A word that spells no command leaves the queue alone. -/
theorem test_withFetchWord_leaves_the_state :
    (State.reset.withFetchWord 8 1).pending = [] := by decide +kernel

/-- R180, R187 to R189: one frame of each family of requests, byte by byte from the layouts. -/
theorem test_frames_decode :
    -- LOAD_SLOTS: frame length 16, first slot 5, one entry LEVER_N L3 and MAGNET L3
    checkFrame [1, 7, 16, 5, 1, 1, 3, 1, 3] = .request (.loadSlots 16 5 [⟨1, 3, 1, 3⟩]) ∧
    -- LOAD_LEVER: L2 SIGNAL, 300 tenths, leave NORMAL: L1 at REVERSE; leave REVERSE: none
    checkFrame [2, 8, 2, 0, 1, 44, 1, 1, 1, 0] =
      .request (.loadLever 2 0 300 [⟨1, 1⟩] []) ∧
    -- LOAD_ROUTE: L1, one points entry L5 REVERSE T2, circuits T2 T3, approach T1, 1200
    checkFrame [3, 12, 1, 1, 5, 1, 2, 2, 2, 3, 1, 1, 4, 176] =
      .request (.loadRoute 1 [⟨5, 1, 2⟩] [2, 3] [1] 1200) ∧
    checkFrame [4, 4, 7, 20, 1, 6] = .request (.loadTrack 7 20 [6]) ∧
    checkFrame [5, 13, 1, 2, 3, 4, 5, 1, 2, 9, 1, 6, 0, 4, 176] =
      .request (.loadLine 1 2 3 4 5 [⟨2, 9⟩] [⟨6, 0⟩] 1200) ∧
    checkFrame [6, 10, 4, 2, 3, 5, 2, 0, 1, 1, 9, 1] =
      .request (.loadCode 4 [3, 5] [0, 1] 1 9 1) ∧
    checkFrame [7, 18, 0, 20, 0, 4, 0, 80, 0, 100, 1, 44, 0, 24, 0, 40, 0, 160, 7, 8] =
      .request (.loadTiming ⟨20, 4, 80, 100, 300, 24, 40, 160, 1800⟩) ∧
    checkFrame [8, 3, 4, 1, 7] = .request (.loadAttention 4 1 7) ∧
    checkFrame [16, 0] = .request .scanStart ∧ checkFrame [17, 0] = .request .scanStop ∧
    checkFrame [20, 0] = .request .enterService ∧ checkFrame [21, 0] = .request .restart ∧
    checkFrame [32, 0] = .request .readStatus ∧ checkFrame [36, 1, 71] = .request (.readHold 71) ∧
    checkFrame [37, 2, 0, 16] = .request (.listHolds 0 16) ∧
    checkFrame [48, 1, 3] = .request (.clearMark 3) ∧
    checkFrame [49, 3, 1, 1, 200] = .request (.placeBar 1 1 200) ∧
    checkFrame [52, 2, 1, 0] = .request (.createTrain 1 none) ∧
    checkFrame [56, 6, 3, 1, 65, 66, 67, 68] = .request (.accept 3 (some ⟨65, 66, 67, 68⟩)) ∧
    checkFrame [58, 2, 0, 31] = .request (.sendCode 0 31) ∧
    checkFrame [66, 3, 1, 0, 2] = .request (.setClock 65538) := by decide +kernel

/-- R178: each of the four checks refuses a frame, and bytes after the frame are disregarded. -/
theorem test_frames_refused :
    checkFrame [] = .badFrame ∧ checkFrame [16] = .badFrame ∧ checkFrame [36, 1] = .badFrame ∧
    checkFrame (36 :: 61 :: many 61 0) = .badFrame ∧ checkFrame [9, 0] = .badRequest ∧
    checkFrame [42, 0] = .badRequest ∧ checkFrame [67, 0] = .badRequest ∧
    checkFrame [36, 0] = .badFrame ∧ checkFrame [36, 2, 1, 1] = .badFrame ∧
    checkFrame [52, 2, 1, 2] = .badFrame ∧ checkFrame [4, 3, 1, 1, 1] = .badFrame ∧
    checkFrame [16, 0, 9, 9] = .request .scanStart := by decide +kernel

/-! ### States -/

/-- A field of the state after a command. -/
def after {α : Type} (i : Instr) (s : State) (f : State → α) : Option α :=
  match exec i s with
  | .next t => some (f t)
  | .fault _ => none
  | .refused _ => none

/-- A state made with the tables changed. -/
def withCfg (f : ConfigStore → ConfigStore) (s : State) : State := { s with cfg := f s.cfg }

/-- A state made with the Scan Bus Controller changed. -/
def withSbc (f : ScanBus → ScanBus) (s : State) : State := { s with sbc := f s.sbc }

/-- A state made with the Time Base changed. -/
def withTb (f : TimeBase → TimeBase) (s : State) : State := { s with tb := f s.tb }

/-- The code table of the tests: one sendable entry for each meaning that the rules send. -/
def codes : Vector (Option CodeEntry) 32 :=
  ((((((Vector.replicate 32 none).set 0 (some ⟨[⟨1, true⟩], .callAttention, none, true⟩)).set 1
    (some ⟨[⟨4, true⟩], .offer, some 1, true⟩)).set 2 (some ⟨[⟨2, true⟩], .entering, none, true⟩)).set
    3 (some ⟨[⟨2, true⟩, ⟨1, true⟩], .outOfSection, none, true⟩)).set 4
    (some ⟨[⟨3, true⟩, ⟨5, true⟩], .cancel, none, true⟩)).set 5
    (some ⟨[⟨6, true⟩], .obstructionDanger, none, false⟩)

/-- A line of the tests. -/
def line (starter home : LeverId) (entry berth : TrackId) : LineConfig :=
  ⟨true, some starter, some entry, some home, some berth, [.trackClear 10], [(10, .normal)], 1200⟩

/-- The tables of the tests: every circuit configured; levers L1 to L10 SIGNAL, the others POINTS;
a route for L1; lines A, B, C. -/
def tables : ConfigStore :=
  { ConfigStore.reset with
    frameLength := 16
    slots := ((((Vector.replicate 192 ⟨.none, .none⟩).set 0 ⟨.leverN 0, .magnet 0⟩).set 1
      ⟨.catch_ 0, .trackLamp 1⟩).set 2 ⟨.track 1, .none⟩).set 3 ⟨.leverR 0, .none⟩
    levers := Vector.ofFn fun l => ⟨true, if l.val < 10 then .signal else .points, 300, [], []⟩
    routes := ConfigStore.reset.routes.set 0
      ⟨true, [⟨12, .normal, 1⟩], [1, 2], [0], 1200⟩
    tracks := Vector.replicate 32 ⟨true, 20, []⟩
    lines := ⟨line 0 3 0 3, line 1 4 1 4, line 2 5 2 5⟩
    codes := codes }

/-- CONFIG with the tables loaded and the scan RUNNING. -/
def ready : State :=
  { State.reset with
    cfg := tables
    sbc := { ScanBus.reset with scan := .running, lengthInForce := 16, nextSync := some 4 }
    tcm := Vector.replicate 32 { Track.reset with state := .clear }
    llu := Vector.replicate 40 { Lever.reset with position := .normal }
    tb := ⟨100, 0, 7, 0⟩ }

/-- SERVICE with the three block holds. -/
def box : State :=
  { ready with
    device := .service
    ht := (((Vector.replicate 72 none).set 64 (some ⟨.block .a, 0, .normal, 5⟩)).set 65
      (some ⟨.block .b, 1, .normal, 5⟩)).set 66 (some ⟨.block .c, 2, .normal, 5⟩) }

/-- A train record of the tests. -/
def train (inb : Inbound) (x : Option Line) (outb : Outbound) (d : Destination) : Train :=
  { Train.fresh 1 none with
    arrivalLine := x, inbound := inb, outbound := outb, destination := d
    offerHeard := x.map fun _ => [4] }

/-- A state with one train record, in record 1, and the line's copies of its halves. -/
def withTrain (v : Train) (s : State) : State := s.updRecord 0 (some v)

/-! ### One step of each command -/

/-- R185: a full reset leaves CONFIG with the scan STOPPED. -/
theorem test_fullReset :
    after .fullReset box (fun t => (t.device, t.sbc.scan, t.ht[(64 : HoldId)])) =
      some (.config, .stopped, none) := by decide +kernel

/-- The inputs of a line at rest. -/
def quiet : LineInputs := ⟨false, false, false⟩

/-- R164: the tick after phase 19 is a tenth boundary. -/
theorem test_tick_boundary :
    after (.tick quiet quiet quiet) (withTb (fun b => { b with tickPhase := 19 }) box)
      (fun t => (t.tb.tickCount, t.tb.tickPhase, t.tb.boundariesDue)) = some (101, 0, 1) := by
  decide +kernel

/-- R102: the second sample that agrees is an edge, at the tick of the first. -/
theorem test_tick_edge :
    after (.tick ⟨true, false, false⟩ quiet quiet)
      (box.updBell .a fun b => { b with candidate := some 100 })
      (fun t => (t.bu.a.level, t.bu.a.pulse, t.bu.a.candidate)) = some (true, some 100, none) := by
  decide +kernel

/-- R165: the boundary after 16,777,215 takes the clock to 0. -/
theorem test_tenthBoundary :
    after .tenthBoundary (withTb (fun b => { b with clock := 16777215, boundariesDue := 1 }) box)
      (fun t => (t.tb.clock, t.tb.boundariesDue)) = some (0, 0) := by decide +kernel

/-- R7, R8: the frame that opens carries the marker in its last slot and raises the counter. -/
theorem test_frameOpen :
    after .frameOpen ready (fun t =>
      (t.sbc.frameCounter, t.sbc.nextSync, t.sbc.frame.map fun f => f.copy)) =
      some (1, some 8, some (many 15 false ++ [true])) := by decide +kernel

/-- A frame of the tests in progress. -/
def frame : Frame := ⟨16, tables.slots, false, []⟩

/-- R11, R22, R39: a good frame in RUNNING: T1 reads down, T2 reads up, L1 stands at N. -/
theorem test_frameJudge_good :
    after (.frameJudge 5) (withSbc (fun b => { b with frame := some frame }) ready)
      (fun t => (t.tcm[(0 : TrackId)].state, t.tcm[(0 : TrackId)].mark,
        t.tcm[(1 : TrackId)].state, t.llu[(0 : LeverId)].position)) =
      some (.occupied, true, .clear, .normal) := by decide +kernel

/-- R27, R28: T1 and T6 drop with no listed neighbour occupied, T5 lists none: two flags, the source
latched twice, the last detail left. -/
theorem test_neighbourCheck :
    after (.frameJudge 5) (withSbc (fun b => { b with frame := some frame }) (withCfg (fun c =>
      { c with tracks := (c.tracks.set 0 ⟨true, 20, [1]⟩).set 5 ⟨true, 20, [1]⟩ }) ready))
      (fun t => ([0, 4, 5].map fun c : TrackId => t.tcm[c].fault, t.au[(2 : SourceId)])) =
      some ([true, false, true], ⟨false, 0, true, some (.circuit 5), true⟩) := by decide +kernel

/-- R12: the third bad frame in RUNNING takes the scan to LOST. -/
theorem test_frameJudge_bad :
    after (.frameJudge 0) (withSbc
      (fun b => { b with frame := some frame, expected := true, badRun := 2 }) ready)
      (fun t => (t.sbc.scan, t.tcm[(1 : TrackId)].state, t.sbc.badRun)) =
      some (.lost, .unknown, 3) := by decide +kernel

/-- R23: a pickup timer that is due makes its circuit CLEAR. -/
theorem test_pickupExpiry :
    after .pickupExpiry (ready.updTrack 3 fun r => { r with state := .pickupTiming, timer := some 0 })
      (fun t => (t.tcm[(3 : TrackId)].state, t.tcm[(3 : TrackId)].changed)) = some (.clear, 7) := by
  decide +kernel

/-- A lever of the tests in STROKE with its timer due. -/
def stroking : State :=
  box.updLever 4 fun r => { r with release := .stroke .normal, strokeTimer := some 0 }

/-- R49: a stroke timeout latches LEVER_FAULT and the lever stays in STROKE. -/
theorem test_strokeTimeout :
    after (.strokeTimeout 4) stroking (fun t =>
      (t.llu[(4 : LeverId)].release, t.llu[(4 : LeverId)].lastFault, t.sourcePending 1)) =
      some (.stroke .normal, some (.strokeTimeout, 7), true) := by decide +kernel

/-- A route of the tests: L1's, with one hold on L13. -/
def routed (st : RouteState) (timer : Option RouteTimer) : State :=
  (box.updHold 0 (some ⟨.route 0 1, 12, .normal, 5⟩)).updRoute 0 fun r =>
    { r with state := st, timer := timer, entries := [⟨false, some 0⟩] }

/-- R88: the approach expiry frees the route. -/
theorem test_approachExpiry :
    after (.approachExpiry 0) (routed .approachLocked (some ⟨.approach, 0⟩))
      (fun t => (t.ru[(0 : LeverId)].state, t.ht[(0 : HoldId)])) = some (.idle, none) := by
  decide +kernel

/-- R97: the emergency expiry frees the route and latches ROUTE. -/
theorem test_emergencyExpiry :
    after (.emergencyExpiry 0) (routed .timedRelease (some ⟨.emergency, 0⟩))
      (fun t => (t.ru[(0 : LeverId)].state, t.ht[(0 : HoldId)], t.sourcePending 3)) =
      some (.idle, none, true) := by decide +kernel

/-- A code of the tests on line A whose end tick has come. -/
def heard (groups : List Nat) (s : State) : State :=
  s.updBell .a fun b => { b with code := some ⟨groups, false, false, false, 90, 100⟩ }

/-- R106, R112, R149: CALL_ATTENTION is recognised, stored in buffer 0 and in turn. -/
theorem test_codeEnd_recognised :
    after (.codeEnd .a) (heard [1] box) (fun t =>
      (t.bu.a.buffer0.map fun c => (c.heard, c.outOfTurn), t.bu.a.turn, t.blc.a.count)) =
      some (some (.recognised 0 .callAttention none, false), true, 0) := by decide +kernel

/-- R130: a code that matches no entry is irregular and steps the count by 8. -/
theorem test_codeEnd_unrecognised :
    after (.codeEnd .a) (heard [9] box) (fun t => (t.bu.a.lastRecognised, t.blc.a.count)) =
      some (none, 8) := by decide +kernel

/-- A send of the tests on line A that has ended, of an ENTERING. -/
def sending : State :=
  (box.setOwed .a true).updBell .a fun b => { b with sender := some ⟨10, [2], some 2, some .entering, 88⟩ }

/-- R116, R121, R152: the send ends, its groups are expected, and the ENTERING is no longer owed. -/
theorem test_sendCompletion :
    after (.sendCompletion .a) sending
      (fun t => (t.bu.a.sender, t.bu.a.expected, t.trt.owed.a)) =
      some (none, some ⟨[2], 300⟩, false) := by decide +kernel

/-- R117: sampling resumes with a wire that stands high as a candidate. -/
theorem test_blankingEnd :
    after (.blankingEnd .a true) (box.updBell .a fun b => { b with blankUntil := some 100 })
      (fun t => (t.bu.a.blankUntil, t.bu.a.candidate, t.bu.a.level)) =
      some (none, some 100, false) := by decide +kernel

/-- R121, R122: a deadline that passes sets UNACKNOWLEDGED and latches LINE_A. -/
theorem test_repetitionDeadlineExpiry :
    after (.repetitionDeadlineExpiry .a)
      (box.updBell .a fun b => { b with expected := some ⟨[2], 0⟩ })
      (fun t => (t.bu.a.expected, t.bu.a.unacknowledged, t.sourcePending 9)) =
      some (none, true, true) := by decide +kernel

/-- An offer of the tests made to line A, and the state in which its OUT instrument is due to settle. -/
def offered : State :=
  withTrain (train .cleared none .offered (.line .a)) (box.updLine .a fun b =>
    { b with standing := .offered, candidate := some (.positive, 40) })

/-- R128, R151, R136: CLEAR settles on an offered train: ACCEPTED, and the block hold is retired. -/
theorem test_instrumentSettling :
    after (.instrumentSettling .a) offered (fun t =>
      (t.blc.a.settled, t.blc.a.standing, t.outboundOf 0, t.ht[(64 : HoldId)])) =
      some (.positive, .accepted, .accepted, none) := by decide +kernel

/-- R133: the end of the quiet wait sets the count to 0. -/
theorem test_quietWaitEnd :
    after (.quietWaitEnd .b) (box.updLine .b fun b => { b with count := 255, quiet := some 100 })
      (fun t => (t.blc.b.count, t.blc.b.quiet, t.sourcePending 10)) = some (0, none, true) := by
  decide +kernel

/-- R159: an outbound lapse of a train that has arrived: the half ends and the record stays. -/
theorem test_lapseExpiry :
    after (.lapseExpiry 0 .outbound)
      (withTrain { train .arrived (some .a) .offered (.line .b) with outLapse := some 0 } box)
      (fun t => (t.trt.records[(0 : TrainId)].map fun v => (v.outbound, v.destination, v.lapsed),
        t.sourcePending 12)) = some (some (.none, .undecided, true), true) := by
  decide +kernel

/-- The bits of a run of bytes on MOSI. -/
def wire (bs : List Byte) : List Bool := bitsOf bs

/-- R176: an IDLE selection stores whole bytes, drops a part byte and drives 0. -/
theorem test_portSelection :
    after (.portSelection (wire [16, 0] ++ [true])) ready
      (fun t => (t.cp.request, t.cp.miso)) = some ([16, 0], many 17 false) := by decide +kernel

/-- R176: a REPLY_READY selection drives the reply, most significant bit first. -/
theorem test_portSelection_reply :
    after (.portSelection (wire [0])) { ready with cp := ⟨.replyReady, none, [], [5, 1, 16], []⟩ }
      (fun t => (t.cp.request, t.cp.miso)) = some ([], byteBits 5) := by decide +kernel

/-- R177, R178: the deselection carries the stored SET_CLOCK out. -/
theorem test_portDeselection :
    after .portDeselection { ready with cp := ⟨.idle, some .idle, [66, 3, 0, 1, 2], [], []⟩ }
      (fun t => (t.tb.clock, t.cp.state, t.cp.reply)) =
      some (258, .replyReady, [0, 4, 66, 0, 0, 7]) := by decide +kernel

/-- R179: an unknown request is answered BAD_REQUEST with its number. -/
theorem test_portDeselection_bad :
    after .portDeselection { ready with cp := ⟨.idle, some .idle, [200, 0], [], []⟩ }
      (fun t => t.cp.reply) = some [3, 2, 200, 200] := by decide +kernel

/-- R4: a run is written from its first slot on. -/
theorem test_loadSlots :
    after (.loadSlots 192 190 [⟨4, 32, 2, 1⟩, ⟨3, 40, 0, 0⟩]) ready (fun t =>
      (t.cfg.frameLength, t.cfg.slots[(190 : SlotId)], t.cfg.slots[(191 : SlotId)], t.cp.reply)) =
      some (192, ⟨.track 31, .trackLamp 0⟩, ⟨.catch_ 39, .none⟩, [0, 1, 1]) := by decide +kernel

/-- R37: the stroke timeout is clamped, and a condition may not name the lever itself. -/
theorem test_loadLever :
    after (.loadLever 40 1 9 [⟨2, 32⟩] []) ready
      (fun t => t.cfg.levers[(39 : LeverId)]) =
      some ⟨true, .points, 10, [.trackClear 31], []⟩ ∧
    after (.loadLever 40 1 9 [⟨0, 40⟩] []) ready (fun t => t.cp.reply) = some [4, 2, 2, 4] := by
  decide +kernel

/-- R80: a route replaced whole; a circuit named twice is refused. -/
theorem test_loadRoute :
    after (.loadRoute 2 [⟨20, 1, 8⟩] [8, 9] [7] 9999) ready
      (fun t => t.cfg.routes[(1 : LeverId)]) = some ⟨true, [⟨19, .reverse, 7⟩], [7, 8], [6], 2550⟩ ∧
    after (.loadRoute 2 [] [8, 8] [] 0) ready (fun t => t.cp.reply) = some [4, 2, 3, 3] := by
  decide +kernel

/-- R19, R20: a neighbour given twice is kept once; a circuit in PICKUP_TIMING waits the new delay. -/
theorem test_loadTrack :
    after (.loadTrack 4 0 [1, 1, 2]) (ready.updTrack 3 fun r => { r with state := .pickupTiming })
      (fun t => (t.cfg.tracks[(3 : TrackId)], t.tcm[(3 : TrackId)].timer)) =
      some (⟨true, 1, [0, 1]⟩, some 1) := by decide +kernel

/-- R124: the lapse is clamped, and the home may not be the starter. -/
theorem test_loadLine :
    after (.loadLine 2 1 2 3 4 [] [⟨11, 0⟩] 9) ready (fun t => t.cfg.lines.c) =
      some ⟨true, some 0, some 1, some 2, some 3, [], [(10, .normal)], 100⟩ ∧
    after (.loadLine 2 1 2 1 4 [] [] 9) ready (fun t => t.cp.reply) = some [4, 2, 5, 4] := by
  decide +kernel

/-- R107: a pattern of no groups empties its entry; an OFFER needs a class. -/
theorem test_loadCode :
    after (.loadCode 0 [] [] 0 0 1) ready (fun t => t.cfg.codes[(0 : CodeId)]) = some none ∧
    after (.loadCode 0 [1] [0] 1 0 1) ready (fun t => t.cp.reply) = some [4, 2, 6, 5] := by
  decide +kernel

/-- R3, R181: a period of 12 is raised to 15; END_GAP is at least GROUP_GAP and 40. -/
theorem test_loadTiming :
    after (.loadTiming ⟨12, 4, 80, 400, 100, 24, 40, 160, 1800⟩) ready
      (fun t => (t.cfg.timing.requestedPeriod, t.cfg.timing.endGap, t.cp.reply.take 7)) =
      some (15, 440, [0, 19, 7, 0, 15, 0, 4]) := by decide +kernel

/-- R173: the priority of a fixed source is disregarded; that of any other lies in 0 to 7. -/
theorem test_loadAttention :
    after (.loadAttention 1 1 9) ready (fun t => t.au[(0 : SourceId)]) =
      some ⟨true, 0, false, none, false⟩ ∧
    after (.loadAttention 3 1 8) ready (fun t => t.cp.reply) = some [4, 2, 8, 3] := by
  decide +kernel

/-- R15: SCAN_START arranges the first frame for the next tick. -/
theorem test_scanStart :
    after .scanStart State.reset (fun t => (t.sbc.scan, t.sbc.nextSync, t.cp.reply)) =
      some (.starting, some 1, [0, 1, 16]) := by decide +kernel

/-- R16: SCAN_STOP takes every circuit to UNKNOWN and waits for the closing sync. -/
theorem test_scanStop :
    after .scanStop ready (fun t => (t.sbc.scan, t.tcm[(5 : TrackId)].state, t.cp.state)) =
      some (.stopped, .unknown, .executing) := by decide +kernel

/-- A SCAN_STOP of the tests that waits in a phase. -/
def stopping (p : StopPhase) : State :=
  withSbc (fun b => { b with scan := .stopped, stop := p }) { ready with cp := ⟨.executing, none, [], [], []⟩ }

/-- R16: the closing frame shifts zeros. -/
theorem test_closingFrame :
    after .closingFrame (stopping .closingFrame) (fun t =>
      (t.sbc.frame.map fun f => (f.copy, f.unjudged), t.sbc.stop)) =
      some (some (many 16 false, true), .closingSync) := by decide +kernel

/-- R16: the closing sync forms the reply and idles the bus; SFS is high for one slot time with SCK_S
low. -/
theorem test_closingSync :
    after .closingSync (stopping .closingSync) (fun t =>
      (t.sbc.nextSync, t.cp.state, t.cp.reply)) = some (none, .replyReady, [0, 1, 17]) ∧
    after .closingSync (stopping .closingSync) (fun t =>
      (t.sfsIn 0, t.sfsIn 1, t.sckRuns, t.sdoIn 0)) = some (true, false, false, false) := by
  decide +kernel

/-- R182: ENTER_SERVICE is refused while the tables are not consistent: slot, then circuit T1. -/
theorem test_enterService_refused :
    after .enterService ready (fun t => (t.device, t.cp.reply)) =
      some (.config, [11, 3, 20, 1, 1]) := by decide +kernel

/-- Tables that pass the consistency check: three starters, three homes, three berths and entries. -/
def soundTables : ConfigStore :=
  { ConfigStore.reset with
    frameLength := 33
    slots := Vector.ofFn fun k =>
      if h : k.val < 24 then
        let l : LeverId := ⟨k.val / 4, by omega⟩
        if k.val % 4 = 0 then ⟨.leverN l, .magnet l⟩ else if k.val % 4 = 1 then ⟨.leverR l, .none⟩
        else if k.val % 4 = 2 then ⟨.catch_ l, .none⟩ else ⟨.none, .none⟩
      else if h : k.val < 30 then ⟨.track ⟨k.val - 24, by omega⟩, .none⟩ else ⟨.none, .none⟩
    levers := Vector.ofFn fun l => ⟨decide (l.val < 6), .signal, 300, [], []⟩
    tracks := Vector.ofFn fun t => ⟨decide (t.val < 6), 20, []⟩
    lines := ⟨⟨true, some 0, some 0, some 3, some 3, [], [], 1200⟩,
      ⟨true, some 1, some 1, some 4, some 4, [], [], 1200⟩,
      ⟨true, some 2, some 2, some 5, some 5, [], [], 1200⟩⟩
    codes := ((((((((Vector.replicate 32 none).set 0 (some ⟨[⟨1, true⟩], .callAttention, none, true⟩)).set
      1 (some ⟨[⟨4, true⟩], .offer, some 1, true⟩)).set 2 (some ⟨[⟨2, true⟩], .entering, none, true⟩)).set
      3 (some ⟨[⟨2, true⟩, ⟨1, true⟩], .outOfSection, none, true⟩)).set 4
      (some ⟨[⟨3, true⟩, ⟨5, true⟩], .cancel, none, true⟩)).set 5
      (some ⟨[⟨6, true⟩], .obstructionDanger, none, true⟩)).set 6
      (some ⟨[⟨2, true⟩, ⟨2, true⟩], .obstructionRemoved, none, true⟩)) }

/-- A CONFIG state from which the box may enter SERVICE. -/
def sound : State := { ready with cfg := soundTables }

/-- R77, R183: ENTER_SERVICE makes the three block holds. -/
theorem test_enterService :
    after .enterService sound (fun t => (t.device, t.ht[(65 : HoldId)], t.cp.reply)) =
      some (.service, some ⟨.block .b, 1, .normal, 7⟩, [0, 1, 20]) := by decide +kernel

/-- R184: RESTART returns to CONFIG and empties the Hold Table. -/
theorem test_restart :
    after .restart box (fun t => (t.device, t.ht[(64 : HoldId)], t.sbc.scan)) =
      some (.config, none, .running) := by decide +kernel

/-- R198: the summary: SERVICE, RUNNING, 16 slots, 20 ms, 64 and 5 entries free, all block holds live,
9 records free, clock 7. -/
theorem test_readStatus :
    after .readStatus box (fun t => t.cp.reply) =
      some ([0, 25, 32, 1, 2, 16, 20, 0, 0, 0, 0, 64, 5, 7, 9, 0, 0, 0, 0, 0, 0, 0, 0, 0, 7, 0, 0] :
        List Byte) := by decide +kernel

/-- R192: a lever whose stamps are all present has no byte left open. -/
theorem test_readLever :
    after (.readLever 5) (stroking.updLever 4 fun r =>
        { r with
          strokeTimer := some 258, lastStroke := some (true, 1), lastFault := some (.unreleased, 3)
          lastRefusal := some ⟨.condition 13, 2, true⟩ }) (fun t => t.cp.reply) =
      some ([0, 23, 33, 5, 1, 0, 0, 2, 0, 0, 1, 2, 1, 0, 0, 1, 131, 13, 0, 0, 2, 3, 0, 0, 3] :
        List Byte) := by decide +kernel

/-- R195: T2 stands CLEAR, its input slot is 2 and its delay 20. -/
theorem test_readTrack :
    after (.readTrack 2) ready (fun t => t.cp.reply) =
      some ([0, 11, 34, 2, 1, 3, 2, 20, 0, 0, 0, 0, 0] : List Byte) := by decide +kernel

/-- R196: the route of L1 in SERVICE, with one points entry, two route circuits and one approach
circuit. -/
theorem test_readRoute :
    after (.readRoute 1) (routed .set none) (fun t => t.cp.reply) =
      some ([0, 30, 35, 1, 1, 2, 1, 0, 0, 0, 255, 0, 0, 0, 4, 176, 1, 13, 0, 2, 0, 0, 2, 2, 3, 0, 3, 3, 0,
        1, 1, 3] : List Byte) := by decide +kernel

/-- R191: a block hold. -/
theorem test_readHold :
    after (.readHold 66) box (fun t => t.cp.reply) =
      some ([0, 14, 36, 66, 2, 3, 0, 2, 0, 0, 0, 0, 5, 1, 1, 0] : List Byte) := by decide +kernel

/-- R76: all holds from 65 on. -/
theorem test_listHolds :
    after (.listHolds 0 65) box (fun t => t.cp.reply) =
      some ([0, 5, 37, 0, 2, 65, 66] : List Byte) := by decide +kernel

/-- R193: the bytes of a line record that the rule gives: health, wait, flags, hold number. -/
theorem test_readLine :
    after (.readLine 0) (box.updLine .a fun b => { b with count := 255, quiet := some 102 })
      (fun t => (t.cp.reply.take 16, (t.cp.reply.drop 16).take 3)) =
      some (([0, 42, 38, 0, 0, 0, 0, 255, 0, 255, 2, 0, 2, 128, 0, 64] : List Byte),
        ([0, 0, 5] : List Byte)) := by decide +kernel

/-- A received code of the tests, stored in buffer 0 of line A. -/
def stored : State :=
  box.updBell .a fun b =>
    { b with
      buffer0 := some ⟨[3, 1], .recognised 3 .outOfSection none, false, false, true, false, 9⟩
      turn := true, overrun := true }

/-- R197: a stored code, up to the bytes after its groups. -/
theorem test_readCode :
    after (.readCode 0) stored (fun t => t.cp.reply.take 15) =
      some ([0, 17, 39, 0, 1, 20, 3, 3, 0, 0, 0, 9, 2, 3, 1] : List Byte) := by decide +kernel

/-- R194: a train record, up to the description that is absent. -/
theorem test_readTrain :
    after (.readTrain 1) (withTrain (train .offered (some .a) .none .undecided) box)
      (fun t => (t.cp.reply.take 5, (t.cp.reply.drop 9).take 6)) =
      some (([0, 42, 40, 1, 1] : List Byte), ([0, 1, 0, 0, 0, 0] : List Byte)) := by decide +kernel

/-- R190: the live records in ascending order. -/
theorem test_listTrains :
    after .listTrains (withTrain (train .offered (some .a) .none .undecided) box)
      (fun t => t.cp.reply) = some ([0, 9, 41, 8, 0, 1, 1, 1, 0, 0, 0] : List Byte) := by
  decide +kernel

/-- R35: CLEAR_MARK reports what it clears. -/
theorem test_clearMark :
    after (.clearMark 32) (ready.updTrack 31 fun r => { r with mark := true, fault := true })
      (fun t => (t.tcm[(31 : TrackId)].mark, t.tcm[(31 : TrackId)].fault, t.cp.reply)) =
      some (false, false, [0, 2, 48, 3]) := by decide +kernel

/-- R73: a bar takes the lowest free shared entry. -/
theorem test_placeBar :
    after (.placeBar 7 1 200) box (fun t => (t.ht[(0 : HoldId)], t.cp.reply)) =
      some (some ⟨.bar 200, 6, .reverse, 7⟩, [0, 2, 49, 0]) := by decide +kernel

/-- R74: a bar removed is answered with what it was; a block hold is no bar. -/
theorem test_removeBar :
    after (.removeBar 71) (box.updHold 71 (some ⟨.bar 9, 6, .reverse, 7⟩))
      (fun t => (t.ht[(71 : HoldId)], t.cp.reply)) = some (none, [0, 4, 50, 7, 1, 9]) ∧
    after (.removeBar 64) box (fun t => t.cp.reply) = some [8, 1, 50] := by decide +kernel

/-- R96: TIMED_RELEASE starts the emergency timer and answers its time. -/
theorem test_timedRelease :
    after (.timedRelease 1) (routed .sequenceFault none)
      (fun t => (t.ru[(0 : LeverId)].state, t.ru[(0 : LeverId)].timer, t.cp.reply)) =
      some (.timedRelease, some ⟨.emergency, 1800⟩, [0, 3, 51, 7, 8]) := by decide +kernel

/-- R160: the lowest free shared record becomes live. -/
theorem test_createTrain :
    after (.createTrain 15 none) (withTrain (train .offered (some .a) .none .undecided) box)
      (fun t => ((t.trt.records[(1 : TrainId)]).map fun v => v.trainClass, t.cp.reply)) =
      some (some 15, [0, 2, 52, 2]) := by decide +kernel

/-- R160, R161: a train cleared in, bound for this box, is retired. -/
theorem test_setDestination :
    after (.setDestination 1 1) (withTrain (train .cleared (some .a) .none .undecided) box)
      (fun t => (t.trt.records[(0 : TrainId)], t.cp.reply)) = some (none, [0, 2, 53, 1]) := by
  decide +kernel

/-- R161: a record with an active half is not retired by request. -/
theorem test_retireTrain :
    after (.retireTrain 1) (withTrain (train .cleared (some .a) .none .undecided) box)
      (fun t => (t.trt.records[(0 : TrainId)], t.cp.reply)) = some (none, [0, 1, 54]) ∧
    after (.retireTrain 1) (withTrain (train .arrived (some .a) .none .undecided) box)
      (fun t => t.cp.reply) = some [5, 1, 54] := by decide +kernel

/-- R115, R150: OFFER sends entry C1 of four beats: 4 ON and 3 INTRA, 216 ticks. -/
theorem test_offer :
    after (.offer 1 1) (withTrain (train .none none .none .undecided) box)
      (fun t => (t.outboundOf 0, t.blc.b.standing, t.cp.reply)) =
      some (.offered, .offered, [0, 4, 55, 1, 0, 216]) := by decide +kernel

/-- R153: ACCEPT makes its clearing hold, sends the groups heard and shows CLEAR. -/
theorem test_accept :
    after (.accept 1 none) (withTrain (train .offered (some .a) .none .undecided) box)
      (fun t => (t.ht[(0 : HoldId)], t.blc.a.inInstrument, t.cp.reply)) =
      some (some ⟨.clearing .a, 10, .normal, 7⟩, .clear, [0, 5, 56, 1, 0, 0, 216]) := by
  decide +kernel

/-- R120: ACKNOWLEDGE sends the groups heard: 2-1 is 3 ON, 1 INTRA and 1 GROUP, 272 ticks. -/
theorem test_acknowledge :
    after (.acknowledge 0) (box.updBell .a fun b => { b with lastRecognised := some ⟨[2, 1], 3⟩ })
      (fun t => (t.bu.a.sender.map fun d => d.start, t.cp.reply)) =
      some (some 101, [0, 6, 57, 2, 2, 1, 1, 16]) := by decide +kernel

/-- R119: an ENTERING that the line does not owe, and an entry that is not sendable, are refused. -/
theorem test_sendCode :
    after (.sendCode 0 0) box (fun t => (t.bu.a.sender.map fun d => d.length, t.cp.reply)) =
      some (some 24, [0, 3, 58, 0, 24]) ∧
    after (.sendCode 0 2) box (fun t => t.cp.reply) = some [4, 2, 58, 2] ∧
    after (.sendCode 0 5) box (fun t => t.cp.reply) = some [4, 2, 58, 2] := by decide +kernel

/-- R156: the unseen arrival. -/
theorem test_tailSeen :
    after (.tailSeen 1) (withTrain (train .inSection (some .a) .none .undecided) box)
      (fun t => (t.inboundOf 0, (t.trt.records[(0 : TrainId)]).map fun v => v.tailSeen, t.cp.reply)) =
      some (.arrived, some true, [0, 1, 59]) := by decide +kernel

/-- A train of the tests that has arrived complete from line A. -/
def arrived : State :=
  withTrain { train .arrived (some .a) .none .localBox with tailSeen := true } (box.updLine .a fun b =>
    { b with inInstrument := .onLine })

/-- R157, R161: the section is given back and the train, bound for this box, is retired. -/
theorem test_outOfSection :
    after (.outOfSection 1) arrived
      (fun t => (t.blc.a.inInstrument, t.trt.records[(0 : TrainId)], t.cp.reply)) =
      some (.blocked, none, [0, 4, 60, 1, 16, 1]) := by decide +kernel

/-- R158: CANCEL_OFFER withdraws the offer and gives the standing NONE. -/
theorem test_cancelOffer :
    after (.cancelOffer 1) offered (fun t => (t.outboundOf 0, t.blc.a.standing, t.cp.reply)) =
      some (.none, .none, [0, 1, 61]) := by decide +kernel

/-- R132: the quiet wait ends 2000 ticks after the request; an ACTIVE line is refused. -/
theorem test_restoreLine :
    after (.restoreLine 0) (box.updLine .a fun b => { b with count := 255 })
      (fun t => (t.blc.a.quiet, t.cp.reply)) = some (some 2100, [0, 3, 62, 7, 208]) ∧
    after (.restoreLine 0) box (fun t => t.cp.reply) = some [5, 1, 62] := by decide +kernel

/-- R114: the release frees the buffer and reports OVERRUN. -/
theorem test_releaseCode :
    after (.releaseCode 0) stored (fun t => (t.bu.a.buffer0, t.bu.a.overrun, t.cp.reply)) =
      some (none, false, [0, 3, 63, 0, 1]) := by decide +kernel

/-- A state of the tests with POOL pending for the host, enabled. -/
def pooled : State :=
  box.updSource 5 fun r => { r with enabled := true, priority := 2, pending := true, detail := some .host }

/-- R172: the one active source, its detail, and the flags of all fourteen. -/
theorem test_nextAttention :
    after .nextAttention pooled (fun t => t.cp.reply) =
      some ([0, 8, 64, 6, 3, 0, 0, 1, 0, 32] : List Byte) := by decide +kernel

/-- R174: a clear reports the record and clears it. -/
theorem test_clearAttention :
    after (.clearAttention 6) pooled (fun t => (t.sourcePending 5, t.cp.reply)) =
      some (false, [0, 6, 65, 6, 1, 3, 0, 0]) := by decide +kernel

/-- R167: the reply carries the value overwritten; 16,777,216 is refused. -/
theorem test_setClock :
    after (.setClock 16777215) box (fun t => (t.tb.clock, t.cp.reply)) =
      some (16777215, [0, 4, 66, 0, 0, 7]) ∧
    after (.setClock 16777216) box (fun t => t.cp.reply) = some [4, 2, 66, 1] := by decide +kernel

/-! ### Witnesses: states that meet the hypotheses of the statements -/

theorem free {s : State} (h : s.cp.state = .idle) : s.portFree := fun e => by
  rw [h] at e; cases e

theorem box_records (r : TrainId) : box.trt.records[r] = none := by
  revert r; decide +kernel

theorem withTrain_live {v t : Train} {s : State} (hs : ∀ r : TrainId, s.trt.records[r] = none)
    {r : TrainId} : (withTrain v s).trt.records[r] = some t ↔ r = 0 ∧ t = v := by
  simp only [withTrain, State.updRecord_trt, tableUpdate_get]
  by_cases h : r = 0
  · subst h; simp [eq_comm]
  · simp only [Ne.symm h, h, if_false, false_and, iff_false]
    rw [hs r]; nofun

/-- One train record meets the law for halves. -/
theorem halves_one {v : Train} {s : State} (hs : ∀ r : TrainId, s.trt.records[r] = none) :
    HalvesLaw (withTrain v s) where
  inbound x q r := by
    rintro ⟨t, ht, -⟩ ⟨u, hu, -⟩
    rw [((withTrain_live hs).mp ht).1, ((withTrain_live hs).mp hu).1]
  outbound x q r := by
    rintro ⟨t, ht, -⟩ ⟨u, hu, -⟩
    rw [((withTrain_live hs).mp ht).1, ((withTrain_live hs).mp hu).1]

/-- No train record meets the law for halves. -/
theorem halves_none {s : State} (hs : ∀ r : TrainId, s.trt.records[r] = none) : HalvesLaw s where
  inbound x q r := by rintro ⟨t, ht, -⟩; rw [hs q] at ht; cases ht
  outbound x q r := by rintro ⟨t, ht, -⟩; rw [hs q] at ht; cases ht

theorem unbound_of {ht : Vector (Option Hold) 72} {l : LeverId} {p : EndPos}
    (h : bindingHold ht l p = none) (i : HoldId) (hold : Hold) (e : ht[i] = some hold) :
    ¬(hold.lever = l ∧ hold.position = p) := by
  rintro ⟨rfl, rfl⟩
  have := lowest_eq_none.mp h i
  rw [e] at this
  simp [holdBinds] at this

/-- StepTakesTheFrontCommand -/
theorem witness_step : ({ box with pending := [.restart, .scanStop] } : State).pending =
    .restart :: [.scanStop] ∧ box.pending = [] := ⟨rfl, rfl⟩

/-- TickCountsTimeAndSamplesTheLines: the first and the last phase. -/
theorem witness_tick : ready.tb.tickPhase ≤ 19 ∧
    (withTb (fun b => { b with tickPhase := 19 }) ready).tb.tickPhase ≤ 19 := by decide +kernel

/-- TickSamplesTheBellWire: a blanked line; a wire that agrees; a new candidate; a rising edge; falling
edges after a pulse of 3 ticks and of 4, the least width. -/
theorem witness_bellSample :
    let line (f : BellUnit → BellUnit) := ((box.updBell .a f).bu.get .a)
    (line fun b => { b with blankUntil := some 5 }).blankUntil ≠ none ∧
    (box.bu.get .a).blankUntil = none ∧ quiet.bellIn = (box.bu.get .a).level ∧
    true ≠ (box.bu.get .a).level ∧ (box.bu.get .a).candidate = none ∧
    (line fun b => { b with candidate := some 100 }).candidate = some 100 ∧
    (line fun b => { b with level := true, candidate := some 100, pulse := some 97 }).pulse =
      some 97 ∧ ((100 : Tick) - 97).toNat < box.cfg.timing.minBeat ∧
    box.cfg.timing.minBeat ≤ ((100 : Tick) - 96).toNat := by decide +kernel

/-- BeatsAreGroupedByTheirGap: gaps of 99 and 100 ticks, groups of 8 and 9 beats, codes of 5 and 6
groups, and a code beyond its sixth group. -/
theorem witness_beats :
    let code (gs : List Nat) (beyond : Bool) : Assembly := ⟨gs, beyond, false, false, 0, 0⟩
    (code [8] false).groups = [] ++ [8] ∧ ((99 : Tick) - 0).toNat < Timing.reset.groupGap ∧
    (code [2, 9] false).groups = [2] ++ [9] ∧ Timing.reset.groupGap ≤ ((100 : Tick) - 0).toNat ∧
    (code (many 5 1) false).groups.length < 6 ∧ (code (many 6 1) false).groups.length = 6 ∧
    (code (many 6 1) true).beyond = true := by decide +kernel

/-- TickSamplesTheInstrumentWire: a reading that agrees; a run of 39; a new candidate. -/
theorem witness_instrumentSample :
    (RawReading.none = (box.blc.get .a).settled) ∧ RawReading.positive ≠ (box.blc.get .a).settled ∧
    ((box.updLine .a fun b => { b with candidate := some (.positive, 39) }).blc.get .a).candidate =
      some (.positive, 39) ∧ 39 < 40 ∧ (box.blc.get .a).candidate = none := by decide +kernel

/-- BoundaryRaisesTheClockAndCountsTimers: one boundary due. -/
theorem witness_boundary : 0 < (withTb (fun b => { b with boundariesDue := 1 }) box).tb.boundariesDue := by
  decide +kernel

/-- SetClockOverwritesTheClockOnly -/
theorem witness_setClock : box.portFree ∧ 16777215 ≤ 16777215 ∧ 16777215 < 16777216 :=
  ⟨free rfl, by decide, by decide⟩

/-- FrameOpensWithItsCopyAndMarker: frames of 16 slots, and of the least and the greatest length. -/
theorem witness_frameOpen :
    ready.sbc.scan ≠ .stopped ∧ ready.sbc.frame = none ∧ ready.sbc.nextSync = some 4 ∧
    reached ready.tb.tickCount 4 = true ∧ 8 ≤ ready.cfg.frameLength ∧
    ready.cfg.frameLength ≤ 192 ∧
    (withCfg (fun c => { c with frameLength := 8 }) ready).cfg.frameLength = 8 ∧
    (withCfg (fun c => { c with frameLength := 192 }) ready).cfg.frameLength = 192 := by
  decide +kernel

/-- FramesWithoutArrivalChangeOnlyTheirCounts: an unjudged frame; a bad second frame in RUNNING; a good
seventh frame in LOST; a function carried by slot 2, and one carried by none. -/
theorem witness_frameWithout :
    let judged (f : ScanBus → ScanBus) := withSbc f (withSbc (fun b => { b with frame := some frame }) ready)
    (withSbc (fun b => { b with frame := some { frame with unjudged := true } }) ready).sbc.frame =
      some { frame with unjudged := true } ∧
    (judged fun b => { b with badRun := 1, expected := true }).sbc.frame = some frame ∧
    frame.unjudged = false ∧ (0 : BitVec 192).getLsbD (frame.length - 1) ≠ true ∧
    (judged fun b => { b with badRun := 1, expected := true }).sbc.badRun ≠ 2 ∧
    (0 : BitVec 192).getLsbD (frame.length - 1) = ready.sbc.expected ∧
    (judged fun b => { b with scan := .lost, goodRun := 6 }).sbc.scan = .lost ∧
    (judged fun b => { b with scan := .lost, goodRun := 6 }).sbc.goodRun ≠ 7 ∧
    ((2 : SlotId).val + 1 < frame.length ∧ frame.slots[(2 : SlotId)].input = .track 1) ∧
    (∀ j : SlotId, j.val < 2 → frame.slots[j].input ≠ .track 1) ∧
    ∀ k : SlotId, k.val + 1 < frame.length → frame.slots[k].input ≠ .track 9 := by
  decide +kernel

/-- ThirdBadFrameLosesTheScan -/
theorem witness_thirdBad :
    let s := withSbc (fun b => { b with frame := some frame, expected := true, badRun := 2 }) stroking
    s.sbc.frame = some frame ∧ frame.unjudged = false ∧
    (0 : BitVec 192).getLsbD (frame.length - 1) ≠ s.sbc.expected ∧ s.sbc.scan = .running ∧
    s.sbc.badRun = 2 ∧ s.cfg.levers[(4 : LeverId)].configured = true ∧
    s.llu[(4 : LeverId)].release ≠ .notGranted ∧
    -- a SIGNAL lever GRANTED from NORMAL with its route GRANTED
    (let u := (routed .granted none).updLever 0 fun r => { r with release := .granted .normal }
     u.device = .service ∧ u.cfg.levers[(0 : LeverId)].configured = true ∧
      u.cfg.levers[(0 : LeverId)].kind = .signal ∧
      u.llu[(0 : LeverId)].release = .granted .normal ∧
      u.ru[(0 : LeverId)].state = .granted) := by decide +kernel

/-- GoodFrameDeliversTheArrival: in SERVICE, with a bound lever GRANTED. -/
theorem witness_goodFrame :
    let s := withSbc (fun b => { b with frame := some frame })
      (box.updLever 0 fun r => { r with release := .granted .normal, grip := .spent })
    s.sbc.frame = some frame ∧ frame.unjudged = false ∧
    (5 : BitVec 192).getLsbD (frame.length - 1) = s.sbc.expected ∧ s.sbc.scan = .running ∧
    s.cfg.tracks[(1 : TrackId)].configured = true ∧ s.cfg.levers[(0 : LeverId)].configured = true := by
  decide +kernel

/-- GoodFrameDeliversTheArrival: the eighth good frame in STARTING and in LOST; after the loss L1 has stood
at N with its route RELEASING, L2 has left N, L3 was unseen. -/
theorem witness_eighthFrame :
    let s (scan : ScanState) := withSbc
      (fun b => { b with frame := some frame, scan := scan, goodRun := 7 })
      ((routed .releasing none).updLever 2 fun r => { r with unseen := true })
    (s .starting).sbc.frame = some frame ∧ (s .lost).sbc.frame = some frame ∧
    (5 : BitVec 192).getLsbD (frame.length - 1) = (s .lost).sbc.expected ∧
    (s .starting).sbc.scan = .starting ∧ (s .lost).sbc.scan = .lost ∧ (s .lost).sbc.goodRun = 7 ∧
    (s .lost).device = .service ∧ (s .lost).llu[(2 : LeverId)].unseen = true ∧
    ((s .lost).llu[(1 : LeverId)].unseen = false ∧
      (s .lost).llu[(1 : LeverId)].position = EndPos.normal.toPosition ∧
      frame.inputBit 5 (.leverN 1) = false ∧ frame.inputBit 5 (.leverR 1) = false) ∧
    ((s .lost).ru[(0 : LeverId)].state = .releasing ∧
      (s .lost).llu[(0 : LeverId)].position = .normal ∧ frame.inputBit 5 (.leverN 0) = true ∧
      frame.inputBit 5 (.leverR 0) = false) := by decide +kernel

/-- ScanStartArrangesTheFirstFrame -/
theorem witness_scanStart :
    State.reset.portFree ∧ ready.portFree ∧ State.reset.device = .config ∧
    State.reset.sbc.scan = .stopped ∧ box.device = .service ∧ ready.sbc.scan ≠ .stopped :=
  ⟨free rfl, free rfl, by decide +kernel⟩

/-- ScanStopWithdrawsTheScan: SERVICE, and CONFIG with the scan in each state. -/
theorem witness_scanStop :
    box.portFree ∧ ready.portFree ∧ box.device = .service ∧ State.reset.device = .config ∧
    State.reset.sbc.scan = .stopped ∧ ready.device = .config ∧ ready.sbc.scan = .running ∧
    (withSbc (fun b => { b with scan := .starting }) ready).sbc.scan = .starting ∧
    (withSbc (fun b => { b with scan := .lost }) ready).sbc.scan = .lost :=
  ⟨free rfl, free rfl, by decide +kernel⟩

/-- ClosingFrameAndSyncClearTheBoards -/
theorem witness_closing :
    (stopping .closingFrame).sbc.frame = none ∧ (stopping .closingFrame).sbc.nextSync = some 4 ∧
    reached (stopping .closingFrame).tb.tickCount 4 = true ∧
    (stopping .closingFrame).sbc.stop = .closingFrame ∧
    (stopping .closingSync).sbc.stop = .closingSync ∧
    (stopping .closingSync).sbc.frame = none := by decide +kernel

/-- PickupExpiryClearsEveryDueCircuit: in CONFIG one circuit due and one not. -/
theorem witness_pickup :
    let s := ready.updTrack 3 fun r => { r with state := .pickupTiming, timer := some 0 }
    s.tcm[(3 : TrackId)].timer = some 0 ∧ s.tcm[(3 : TrackId)].state = .pickupTiming ∧
    ¬(s.tcm[(4 : TrackId)].timer = some 0 ∧ s.tcm[(4 : TrackId)].state = .pickupTiming) ∧
    s.device = .config := by decide +kernel

/-- PickupExpiryClearsEveryDueCircuit: in SERVICE a circuit that is due; a route at its second circuit of
two that has passed it, that may release its first, that is broken, and that waits; and a route whose
approach is locked. -/
theorem witness_release :
    let due := box.updTrack 3 fun r => { r with state := .pickupTiming, timer := some 0 }
    let s (k : Nat) := (routed .releasing none).updRoute 0 fun r => { r with k := k }
    let marked (c : TrackId) := (s 1).updTrack c fun r => { r with mark := true }
    due.device = .service ∧ due.tcm[(3 : TrackId)].timer = some 0 ∧
    (s 3).ru[(0 : LeverId)].state = .releasing ∧
    ((s 3).ru[(0 : LeverId)].k = 2 + 1 ∧ (s 3).cfg.routes[(0 : LeverId)].circuits[2]? = none) ∧
    ((s 1).ru[(0 : LeverId)].k = 0 + 1 ∧
      (s 1).cfg.routes[(0 : LeverId)].circuits[0]? = some 1) ∧
    ((marked 1).tcm[(1 : TrackId)].mark = true ∧ (marked 1).tcm[(1 : TrackId)].state = .clear) ∧
    ((marked 2).tcm[(1 : TrackId)].mark = false ∧
      (marked 2).cfg.routes[(0 : LeverId)].circuits[1]? = some 2 ∧
      (marked 2).tcm[(2 : TrackId)].mark = true ∧ (marked 2).tcm[(2 : TrackId)].state = .clear) ∧
    ((s 1).tcm[(1 : TrackId)].mark = false ∧ (s 1).tcm[(2 : TrackId)].mark = false) ∧
    (∀ l : LeverId, (routed .approachLocked none).ru[l].state = .approachLocked ↔ l = 0) ∧
    ∀ l : LeverId, box.ru[l].state ≠ .approachLocked := by decide +kernel

/-- ClearMarkClearsMarkAndFlag -/
theorem witness_clearMark :
    box.portFree ∧ State.reset.portFree ∧ box.cfg.tracks[(31 : TrackId)].configured = true ∧
    State.reset.cfg.tracks[(0 : TrackId)].configured = false :=
  ⟨free rfl, free rfl, by decide +kernel⟩

/-- StrokeTimeoutLatchesLeverFault -/
theorem witness_strokeTimeout :
    stroking.llu[(4 : LeverId)].strokeTimer = some 0 ∧
    stroking.llu[(4 : LeverId)].release = .stroke .normal := by decide +kernel

/-- StrokeTimeoutLatchesLeverFault: a frame to judge with L1 in any release state, and its inputs: away from
both ends, at R, at N, at both, and at N with the catch gripped. -/
theorem witness_strokes :
    let s (r : Release) := withSbc (fun b => { b with frame := some frame })
      ((routed .granted none).updLever 0 fun v => { v with release := r })
    let found (sdi : BitVec 192) :=
      (frame.inputBit sdi (.leverN 0), frame.inputBit sdi (.leverR 0), frame.inputBit sdi (.catch_ 0))
    (s .notGranted).sbc.frame = some frame ∧ frame.unjudged = false ∧
    ([4, 12, 5, 13, 7] : List (BitVec 192)).all (fun sdi =>
      decide (sdi.getLsbD (frame.length - 1) = (s .notGranted).sbc.expected)) = true ∧
    (s .notGranted).sbc.scan = .running ∧
    (s .notGranted).cfg.levers[(0 : LeverId)].configured = true ∧
    (s .notGranted).llu[(0 : LeverId)].position = EndPos.normal.toPosition ∧
    (s .notGranted).ru[(0 : LeverId)].state = .granted ∧
    ([4, 12, 5, 13, 7] : List (BitVec 192)).map found =
      [(false, false, false), (false, true, false), (true, false, false), (true, true, false),
        (true, false, true)] := by decide +kernel

/-- StrokeTimeoutLatchesLeverFault: after a frame with T2 up and T1 down, a condition that holds and one
that fails. -/
theorem witness_retest :
    after (.frameJudge 7) (withSbc (fun b => { b with frame := some frame })
      (ready.updLever 0 fun v => { v with release := .granted .normal }))
      (fun t => (t.condition t.decoded (.trackClear 1), t.condition t.decoded (.trackClear 0))) =
      some (true, false) := by decide +kernel

/-- GrantNeedsServiceScanConditionsAndNoHold: a points lever that may be granted; a starter bound at
NORMAL and asked at REVERSE; a device in CONFIG. -/
theorem witness_grant :
    box.llu[(12 : LeverId)].release = .notGranted ∧ box.cfg.levers[(12 : LeverId)].kind ≠ .signal ∧
    (∀ (h : HoldId) (hold : Hold), box.ht[h] = some hold →
      ¬(hold.lever = 12 ∧ hold.position = .normal)) ∧
    (box.device = .service ∧ box.sbc.scan = .running ∧
      ∀ c ∈ box.cfg.levers[(12 : LeverId)].leave .normal, box.condition box.decoded c = true) ∧
    box.llu[(0 : LeverId)].release = .notGranted ∧ box.cfg.levers[(0 : LeverId)].kind = .signal ∧
    ready.device ≠ .service :=
  ⟨by decide +kernel, by decide +kernel, unbound_of (by decide +kernel), by decide +kernel⟩

/-- SERVICE with the Hold Table full up to an entry. -/
def holdsUpTo (n : Nat) : State :=
  { box with ht := Vector.ofFn fun h => if h.val < n then some ⟨.bar 9, 6, .normal, 3⟩ else none }

/-- The box with the contacts of L13 at N and L1 at N with its catch gripped. -/
def atEnds (s : State) : State :=
  withSbc (fun b => { b with input := { b.input with
    leverN := (b.input.leverN.set 12 true).set 0 true, catches := b.input.catches.set 0 true } }) s

/-- StrokeTimeoutLatchesLeverFault, GrantNeedsServiceScanConditionsAndNoHold: L1 GRANTED and gripped at N,
bound at NORMAL by the block hold and by none lower, and by no hold; a device in CONFIG, a scan LOST, and
a second condition that fails. -/
theorem witness_tests :
    let s := (atEnds box).updLever 0 fun r => { r with release := .granted .normal }
    let unmet := withCfg (fun c =>
      { c with levers := c.levers.set 0 ⟨true, .signal, 300, [.trackClear 1, .trackClear 0], []⟩ })
      (box.updTrack 0 fun r => { r with state := .occupied })
    (∀ (h : HoldId) (hold : Hold), (s.updHold 64 none).ht[h] = some hold →
      ¬(hold.lever = 0 ∧ hold.position = .normal)) ∧
    s.llu[(0 : LeverId)].release = .granted .normal ∧
    s.cfg.levers[(0 : LeverId)].configured = true ∧ s.decoded 0 = EndPos.normal.toPosition ∧
    s.sbc.input.catches[(0 : LeverId)] = true ∧ s.cfg.levers[(0 : LeverId)].leave .normal = [] ∧
    s.ht[(64 : HoldId)] = some ⟨.block .a, 0, .normal, 5⟩ ∧
    (∀ j : HoldId, j.val < 64 → s.ht[j] = none) ∧ ready.device = .config ∧
    (withSbc (fun b => { b with scan := .lost }) box).sbc.scan ≠ .running ∧
    unmet.cfg.levers[(0 : LeverId)].leave .normal =
      [.trackClear 1] ++ Condition.trackClear 0 :: [] ∧
    unmet.condition unmet.decoded (.trackClear 1) = true ∧
    unmet.condition unmet.decoded (.trackClear 0) = false :=
  ⟨unbound_of (by decide +kernel), by decide +kernel⟩

/-- GrantNeedsServiceScanConditionsAndNoHold: L1, which no hold binds at NORMAL, with its route busy, its
points elsewhere, no room for its hold, and all in place; and L1 at N, which seeks. -/
theorem witness_route :
    let s := box.updHold 64 none
    let full := { atEnds box with ht := (holdsUpTo 64).ht }
    (∀ (h : HoldId) (hold : Hold), s.ht[h] = some hold →
      ¬(hold.lever = 0 ∧ hold.position = .normal)) ∧
    (∀ (h : HoldId) (hold : Hold), full.ht[h] = some hold →
      ¬(hold.lever = 0 ∧ hold.position = .normal)) ∧
    s.llu[(0 : LeverId)].release = .notGranted ∧ s.cfg.levers[(0 : LeverId)].configured = true ∧
    s.cfg.levers[(0 : LeverId)].kind = .signal ∧ s.device = .service ∧ s.sbc.scan = .running ∧
    s.cfg.levers[(0 : LeverId)].leaveNormal = [] ∧
    ((routed .set none).updHold 64 none).ru[(0 : LeverId)].state ≠ .idle ∧
    s.ru[(0 : LeverId)].state = .idle ∧
    s.cfg.routes[(0 : LeverId)].points = [] ++ ⟨12, .normal, 1⟩ :: [] ∧
    s.stands s.decoded 12 .normal = false ∧
    (atEnds s).stands (atEnds s).decoded 12 .normal = true ∧
    full.stands full.decoded 12 .normal = true ∧
    (freeShared full.ht).length < full.cfg.routes[(0 : LeverId)].points.length ∧
    (atEnds s).cfg.routes[(0 : LeverId)].points.length ≤ (freeShared (atEnds s).ht).length ∧
    ((atEnds s).llu[(0 : LeverId)].position = EndPos.normal.toPosition ∧
      (atEnds s).decoded 0 = EndPos.normal.toPosition ∧
      (atEnds s).sbc.input.catches[(0 : LeverId)] = true ∧
      (atEnds s).llu[(0 : LeverId)].catchGripped = false) :=
  ⟨unbound_of (by decide +kernel), unbound_of (by decide +kernel), by decide +kernel⟩

/-- RouteExpiriesFreeTheWholeRoute: a route at each choice of its return to NORMAL, and its escape from
IDLE with its points elsewhere, in place with no room, and in place. -/
theorem witness_return :
    let s := routed .set none
    let full := { atEnds box with ht := (holdsUpTo 64).ht }
    (routed .granted none).ru[(0 : LeverId)].state = .granted ∧
    s.ru[(0 : LeverId)].state = .set ∧ s.ru[(0 : LeverId)].escape = false ∧
    (s.updRoute 0 fun r => { r with escape := true }).ru[(0 : LeverId)].escape = true ∧
    s.cfg.routes[(0 : LeverId)].circuits[0]? = some 1 ∧ s.tcm[(1 : TrackId)].mark = false ∧
    (s.updTrack 1 fun r => { r with mark := true }).tcm[(1 : TrackId)].mark = true ∧
    0 < s.cfg.routes[(0 : LeverId)].approachTime ∧
    s.cfg.routes[(0 : LeverId)].approach = [0] ∧ s.tcm[(0 : TrackId)].state = .clear ∧
    (s.updTrack 0 fun r => { r with state := .occupied }).tcm[(0 : TrackId)].state ≠ .clear ∧
    box.ru[(0 : LeverId)].state = .idle ∧ box.device = .service ∧
    box.cfg.routes[(0 : LeverId)].points = [⟨12, .normal, 1⟩] ∧
    box.stands box.decoded 12 .normal = false ∧ full.stands full.decoded 12 .normal = true ∧
    ¬full.cfg.routes[(0 : LeverId)].points.length ≤ (freeShared full.ht).length ∧
    (atEnds box).stands (atEnds box).decoded 12 .normal = true ∧
    (atEnds box).cfg.routes[(0 : LeverId)].points.length ≤ (freeShared (atEnds box).ht).length := by
  decide +kernel

/-- RouteExpiriesFreeTheWholeRoute: L1 in SERVICE in each state in which its evaluation hands a notice. -/
theorem witness_notices :
    let s (r : Release) (p : Position) (n v : Bool) :=
      withSbc (fun b => { b with input := { b.input with
        leverN := b.input.leverN.set 0 n, leverR := b.input.leverR.set 0 v } })
        (box.updLever 0 fun w => { w with release := r, position := p })
    (s .notGranted .normal true false).device = .service ∧
    (s .notGranted .normal true false).cfg.levers[(0 : LeverId)].configured = true ∧
    (s .notGranted .normal true false).cfg.levers[(0 : LeverId)].kind = .signal ∧
    (s .notGranted .normal true false).sbc.input.catches[(0 : LeverId)] = false ∧
    ((s (.granted .normal) .normal true false).llu[(0 : LeverId)].release = .granted .normal ∧
      (s (.granted .normal) .normal true false).decoded 0 = .normal) ∧
    (s (.granted .normal) .normal false false).decoded 0 = .between ∧
    (s (.granted .normal) .normal false true).decoded 0 = .reverse ∧
    (s (.granted .normal) .normal true true).decoded 0 = .contradictory ∧
    ((s (.stroke .normal) .between true false).llu[(0 : LeverId)].release = .stroke .normal ∧
      (s (.stroke .normal) .between true false).decoded 0 = .normal) ∧
    ((s .notGranted .between true false).llu[(0 : LeverId)].release = .notGranted ∧
      (s .notGranted .between true false).llu[(0 : LeverId)].position = .between) ∧
    (s .notGranted .normal false false).decoded 0 ≠ .normal ∧
    (s .notGranted .reverse true false).llu[(0 : LeverId)].position = .reverse := by
  decide +kernel

/-- RouteExpiriesFreeTheWholeRoute -/
theorem witness_routeExpiries :
    (routed .approachLocked (some ⟨.approach, 0⟩)).ru[(0 : LeverId)].timer = some ⟨.approach, 0⟩ ∧
    (routed .approachLocked (some ⟨.approach, 0⟩)).ru[(0 : LeverId)].state = .approachLocked ∧
    (routed .timedRelease (some ⟨.emergency, 0⟩)).ru[(0 : LeverId)].timer = some ⟨.emergency, 0⟩ ∧
    (routed .timedRelease (some ⟨.emergency, 0⟩)).ru[(0 : LeverId)].state = .timedRelease := by
  decide +kernel

/-- SERVICE with L1 not configured. -/
def bare : State :=
  withCfg (fun c => { c with levers := c.levers.set 0 LeverConfig.reset }) box

/-- TimedReleaseStartsTheEmergencyTimer -/
theorem witness_timedRelease :
    box.portFree ∧ ready.portFree ∧ (routed .set none).portFree ∧ ready.device = .config ∧
    box.device = .service ∧
    ¬(bare.cfg.levers[(0 : LeverId)].configured = true ∧
      bare.cfg.levers[(0 : LeverId)].kind = .signal) ∧
    (routed .set none).cfg.levers[(0 : LeverId)].configured = true ∧
    (routed .set none).cfg.levers[(0 : LeverId)].kind = .signal ∧
    (routed .set none).ru[(0 : LeverId)].state = .set ∧
    (routed .releasing none).ru[(0 : LeverId)].state = .releasing :=
  ⟨free rfl, free rfl, free rfl, by decide +kernel⟩

/-- BarsArePlacedAndRemoved: a free shared entry; the last shared entry; the first reserve entry; no
entry; a bar, and a hold that is no bar. -/
theorem witness_bars :
    box.portFree ∧ ready.portFree ∧
    (∀ reason l p c, box.ht[(64 : HoldId)] ≠ some ⟨.bar reason, l, p, c⟩) ∧
    box.device = .service ∧ ready.device = .config ∧
    bare.cfg.levers[(0 : LeverId)].configured = false ∧
    box.cfg.levers[(6 : LeverId)].configured = true ∧
    (∀ h : HoldId, h.val < 64 ∨ 67 ≤ h.val → (holdsUpTo 72).ht[h] ≠ none) ∧
    (holdsUpTo 63).ht[(63 : HoldId)] = none ∧
    (∀ j : HoldId, j.val < 63 → j.val < 64 ∨ 67 ≤ j.val → (holdsUpTo 63).ht[j] ≠ none) ∧
    (holdsUpTo 67).ht[(67 : HoldId)] = none ∧
    (∀ j : HoldId, j.val < 67 → j.val < 64 ∨ 67 ≤ j.val → (holdsUpTo 67).ht[j] ≠ none) ∧
    (holdsUpTo 72).ht[(71 : HoldId)] = some ⟨.bar 9, 6, .normal, 3⟩ := by
  refine ⟨free rfl, free rfl, fun reason l p c e => ?_, by decide +kernel⟩
  have h : box.ht[(64 : HoldId)] = some ⟨.block .a, 0, .normal, 5⟩ := by decide +kernel
  rw [h] at e
  cases e

/-- HoldsAreReadAndListed -/
theorem witness_holds :
    box.portFree ∧ box.ht[(64 : HoldId)] = some ⟨.block .a, 0, .normal, 5⟩ ∧
    box.ht[(0 : HoldId)] = none := ⟨free rfl, by decide +kernel⟩

theorem mem_filter_finRange {n : Nat} (p : Fin n → Bool) (i : Fin n) :
    i ∈ (List.finRange n).filter p ↔ p i = true := by simp

/-- ReadStatusFollowsItsLayout, AttentionRequestsWorkTheRecords, TrainRecordsAreReadAndListed: the
lists of free entries, free records and active sources exist in every state. -/
theorem witness_lists (s : State) :
    ∃ (shared reserve : List HoldId) (trains live : List TrainId) (active : List SourceId),
      (shared.Nodup ∧ ∀ h, h ∈ shared ↔ h.val < 64 ∧ s.ht[h] = none) ∧
      (reserve.Nodup ∧ ∀ h, h ∈ reserve ↔ 67 ≤ h.val ∧ s.ht[h] = none) ∧
      (trains.Nodup ∧ ∀ r, r ∈ trains ↔ r.val < 9 ∧ s.trt.records[r] = none) ∧
      (live.Pairwise (fun i j => i.val < j.val) ∧ ∀ r, r ∈ live ↔ s.trt.records[r] ≠ none) ∧
      (active.Nodup ∧ ∀ i, i ∈ active ↔ s.au[i].enabled = true ∧ s.sourcePending i = true) := by
  refine ⟨freeShared s.ht, freeReserve s.ht,
    (List.finRange 12).filter fun r => decide (r.val < 9 ∧ s.trt.records[r] = none),
    (List.finRange 12).filter fun r => decide (s.trt.records[r] ≠ none),
    (List.finRange 14).filter fun i => decide (s.au[i].enabled = true ∧ s.sourcePending i = true),
    ⟨freeShared_nodup _, fun _ => mem_freeShared⟩, ⟨freeReserve_nodup _, fun _ => mem_freeReserve⟩,
    ⟨(List.nodup_finRange 12).filter _, fun r => ?_⟩,
    ⟨(List.pairwise_lt_finRange 12).filter _, fun r => ?_⟩,
    ⟨(List.nodup_finRange 14).filter _, fun i => ?_⟩⟩ <;>
    rw [mem_filter_finRange, decide_eq_true_eq]

/-- ReadLeverFollowsItsLayout: a configured lever, and one that is not. -/
theorem witness_readLever :
    box.portFree ∧ bare.portFree ∧ box.cfg.levers[(39 : LeverId)].configured = true ∧
    bare.cfg.levers[(0 : LeverId)].configured = false := ⟨free rfl, free rfl, by decide +kernel⟩

/-- ReadTrackFollowsItsLayout: a circuit with its input slot, one without, and one not configured. -/
theorem witness_readTrack :
    box.portFree ∧ State.reset.portFree ∧ box.cfg.tracks[(1 : TrackId)].configured = true ∧
    ((2 : SlotId).val + 1 < box.cfg.frameLength ∧ box.cfg.slots[(2 : SlotId)].input = .track 1) ∧
    (∀ j : SlotId, j.val < 2 → box.cfg.slots[j].input ≠ .track 1) ∧
    (∀ k : SlotId, k.val + 1 < box.cfg.frameLength → box.cfg.slots[k].input ≠ .track 9) ∧
    State.reset.cfg.tracks[(0 : TrackId)].configured = false :=
  ⟨free rfl, free rfl, by decide +kernel⟩

/-- ReadRouteFollowsItsLayout: the route of a SIGNAL lever, and that of a lever that has none. -/
theorem witness_readRoute :
    box.portFree ∧ (box.cfg.levers[(0 : LeverId)].configured = true ∧
      box.cfg.levers[(0 : LeverId)].kind = .signal) ∧
    ¬(box.cfg.levers[(12 : LeverId)].configured = true ∧
      box.cfg.levers[(12 : LeverId)].kind = .signal) := ⟨free rfl, by decide +kernel⟩

/-- ReadLineFollowsItsLayout: a line with both trains, and a line with none. -/
theorem witness_readLine :
    let s := withTrain (train .offered (some .a) .accepted (.line .b)) box
    s.portFree ∧ HalvesLaw s ∧ inboundOn s 0 .a ∧ (∀ r, ¬outboundOn s r .a) ∧
    outboundOn s 0 .b ∧ ∀ r, ¬inboundOn s r .b := by
  have h : HalvesLaw (withTrain (train .offered (some .a) .accepted (.line .b)) box) :=
    halves_one box_records
  exact ⟨free rfl, h, (inboundTrain_eq_some h).mp (by decide +kernel),
    outboundTrain_eq_none.mp (by decide +kernel), (outboundTrain_eq_some h).mp (by decide +kernel),
    inboundTrain_eq_none.mp (by decide +kernel)⟩

/-- ReceivedCodesAreReadAndReleasedOldestFirst: the older code in buffer 0, in buffer 1, and none. -/
theorem witness_receivedCodes :
    let code : StoredCode := ⟨[1], .unrecognised, false, false, false, false, 0⟩
    let s (b0 b1 : Option StoredCode) (t : Bool) :=
      (box.updBell .a fun b => { b with buffer0 := b0, buffer1 := b1, turn := t }).bu.get .a
    box.portFree ∧ (s (some code) none true).buffer0 = some code ∧
    (s (some code) none true).buffer1 = none ∧ (s (some code) (some code) true).buffer1 = some code ∧
    (s (some code) (some code) true).turn = true ∧ (box.bu.get .a).buffer0 = none ∧
    (box.bu.get .a).buffer1 = none := ⟨free rfl, by decide +kernel⟩

/-- TrainRecordsAreReadAndListed: a live record and a free one. -/
theorem witness_trainRecords :
    let s := withTrain (train .offered (some .a) .none .undecided) box
    s.portFree ∧ s.trt.records[(0 : TrainId)] = some (train .offered (some .a) .none .undecided) ∧
    s.trt.records[(11 : TrainId)] = none := ⟨free rfl, by decide +kernel⟩

/-- A state of the tests with a line's count and its sender set. -/
def lineAt (count : Nat) (busy : Bool) (s : State) : State :=
  (s.updLine .a fun b => { b with count := count }).updBell .a fun b =>
    { b with
      sender := if busy then some ⟨10, [2], none, none, 88⟩ else none
      lastRecognised := some ⟨[2, 1], 3⟩ }

/-- R115: a send of 2 that starts at tick 10: two beats of 24 ticks, 40 apart; the last falls at tick 98. -/
theorem test_bellOut :
    ([9, 10, 33, 34, 73, 74, 97, 98] : List Tick).map (fun now =>
      (withTb (fun b => { b with tickCount := now }) (lineAt 0 true box)).bellOut .a) =
      [false, true, true, false, false, true, true, false] ∧ box.bellOut .a = false := by
  decide +kernel

/-- R115: the lengths of the example box's sendable codes. -/
theorem test_sendLength :
    ([[1], [2], [2, 1], [3, 5], [3, 1], [4], [1, 3, 1], [6], [1, 6]] : List (List Nat)).map
      (sendLength Timing.reset) = [24, 88, 272, 592, 336, 216, 520, 344, 528] := by decide +kernel

/-- HostSendsFollowTheirOrder: an empty entry, an entry not sendable, and a sendable one on a line that
is SUSPENDED, SENDING, and free at the last count that is not SUSPENDED. -/
theorem witness_hostSends :
    box.portFree ∧ ready.portFree ∧ (lineAt 254 true box).portFree ∧ box.device = .service ∧
    ready.device = .config ∧ box.cfg.codes[(31 : CodeId)] = none ∧
    (box.cfg.codes[(5 : CodeId)].map fun e => e.sendable) = some false ∧
    box.cfg.codes[(0 : CodeId)] = some ⟨[⟨1, true⟩], .callAttention, none, true⟩ ∧
    255 ≤ ((lineAt 255 false box).blc.get .a).count ∧ ((lineAt 254 true box).blc.get .a).count < 255 ∧
    ((lineAt 254 true box).bu.get .a).sender ≠ none ∧
    ((lineAt 254 false box).bu.get .a).sender = none ∧ (box.bu.get .a).lastRecognised = none ∧
    ((lineAt 254 false box).bu.get .a).lastRecognised = some ⟨[2, 1], 3⟩ :=
  ⟨free rfl, free rfl, free rfl, by decide +kernel⟩

/-- CodeEndStoresWhatWasHeard: a code that is recognised, with its buffer free and not; CONFIG; a
SUSPENDED line; in SERVICE at the last count that is not SUSPENDED, a recognised code, one that matches
no entry and one that is malformed, with both buffers full. -/
theorem witness_codeEnd :
    let c : Assembly := ⟨[1], false, false, false, 90, 100⟩
    let last := heard [1] (lineAt 254 false box)
    let full := heard [9] (stored.updBell .a fun b => { b with buffer1 := b.buffer0 })
    (∃ e, (heard [1] box).cfg.codes[(0 : CodeId)] = some e ∧ entryHears e c.groups) ∧
    ((heard [1] box).bu.get .a).buffer0 = none ∧ ((heard [1] stored).bu.get .a).turn = true ∧
    ((heard [1] stored).bu.get .a).buffer1 = none ∧ (heard [1] ready).device = .config ∧
    255 ≤ ((heard [1] (lineAt 255 false box)).blc.get .a).count ∧
    ((heard [1] box).bu.get .a).code = some c ∧
    reached (heard [1] box).tb.tickCount c.endTick = true ∧
    last.device = .service ∧ (last.blc.get .a).count < 255 ∧ (last.bu.get .a).code = some c ∧
    (full.bu.get .a).buffer1 ≠ none ∧ (full.bu.get .a).turn = true ∧
    identify full.cfg.codes ⟨[9], false, false, false, 90, 100⟩ = .unrecognised ∧
    identify full.cfg.codes ⟨[9], false, true, false, 90, 100⟩ = .malformed :=
  ⟨entryMatches_iff.mp (by decide +kernel), by decide +kernel⟩

/-- A code of the tests as the Bell Unit of line A hands it over. -/
def received (m : Meaning) : ReceivedCode := ⟨.a, m, some 1, [1], false, 7⟩

/-- ReceivedCodesAreJudgedByTheHalves: each half that a code can find on its line, the line without a
half, a free record, and a table with no record free but the line's own reserve. -/
theorem witness_judged :
    HalvesLaw box ∧ (∀ q, ¬inboundOn box q .a) ∧ (∀ q, ¬outboundOn box q .a) ∧
    (∀ inb outb, HalvesLaw (withTrain (train inb (some .a) outb (.line .a)) box) ∧
      (withTrain (train inb (some .a) outb (.line .a)) box).trt.records[(0 : TrainId)] =
        some (train inb (some .a) outb (.line .a))) ∧
    inboundOn (withTrain (train .offered (some .a) .none .undecided) box) 0 .a ∧
    box.device = .service ∧ ((lineAt 254 false box).blc.get .a).count < 255 ∧
    box.trt.records[(0 : TrainId)] = none ∧ (received .offer).repetition = false := by
  refine ⟨halves_none box_records, inboundTrain_eq_none.mp (by decide +kernel),
    outboundTrain_eq_none.mp (by decide +kernel), fun inb outb => ⟨halves_one box_records, ?_⟩,
    (inboundTrain_eq_some (halves_one box_records)).mp (by decide +kernel), by decide +kernel⟩
  exact (withTrain_live box_records).mpr ⟨rfl, rfl⟩

/-- SERVICE with no train record free below a number. -/
def recordsUpTo (n : Nat) : State :=
  { box with trt := ⟨Vector.ofFn fun r =>
      if r.val < n then some (train .none none .none .undecided) else none, PerLine.same false⟩ }

/-- ReceivedCodesAreJudgedByTheHalves, LocalTrainsAreCreatedDirectedAndRetired: every shared record in
use with the reserves free, and every record in use, with no half on any line. -/
theorem witness_recordPool :
    HalvesLaw (recordsUpTo 9) ∧ HalvesLaw (recordsUpTo 12) ∧ (∀ q, ¬inboundOn (recordsUpTo 9) q .a) ∧
    (∀ q, ¬inboundOn (recordsUpTo 12) q .a) ∧
    (recordsUpTo 9).trt.records[reserveRecord .a] = none ∧
    (∀ p : TrainId, p.val < 9 → (recordsUpTo 9).trt.records[p] ≠ none) ∧
    ∀ q : TrainId, q.val < 9 ∨ q = reserveRecord .a → (recordsUpTo 12).trt.records[q] ≠ none := by
  have none_on (n : Nat) (x : Line) (q : TrainId) : ¬inboundOn (recordsUpTo n) q x ∧
      ¬outboundOn (recordsUpTo n) q x := by
    constructor <;>
    · rintro ⟨t, ht, -, h⟩
      simp only [recordsUpTo, Fin.getElem_fin, Vector.getElem_ofFn] at ht
      split at ht
      · cases ht; simp [train, Train.fresh] at h
      · cases ht
  exact ⟨⟨fun x q r h => absurd h (none_on 9 x q).1, fun x q r h => absurd h (none_on 9 x q).2⟩,
    ⟨fun x q r h => absurd h (none_on 12 x q).1, fun x q r h => absurd h (none_on 12 x q).2⟩,
    fun q => (none_on 9 .a q).1, fun q => (none_on 12 .a q).1, by decide +kernel⟩

theorem sendable {s : State} {m : Meaning} {cls : Option Nat} (c : CodeId)
    (h : entryToSend s.cfg.codes m cls = some c) : ∃ e, lowestSendable s m cls c e :=
  entryToSend_eq_some.mp h

/-- SendCompletionSetsTheExpectation: a send of ENTERING that ends with none pending, and with one
pending on a DOUBTFUL line (count 96) and on an ACTIVE one (count 95). -/
theorem witness_sendCompletion :
    let at_ (n : Nat) := (sending.updBell .a fun b => { b with pendingEntering := true }).updLine .a
      fun b => { b with count := n }
    (∃ e, lowestSendable (at_ 95) .entering none 2 e) ∧
    (sending.bu.get .a).sender = some ⟨10, [2], some 2, some .entering, 88⟩ ∧
    reached sending.tb.tickCount (10 + BitVec.ofNat 32 88) = true ∧
    (sending.bu.get .a).pendingEntering = false ∧ ((at_ 96).bu.get .a).pendingEntering = true ∧
    96 ≤ ((at_ 96).blc.get .a).count ∧ ((at_ 95).blc.get .a).count < 96 :=
  ⟨sendable 2 (by decide +kernel), by decide +kernel⟩

/-- BlankingAndDeadlineComeToTheirEnds -/
theorem witness_blanking :
    let b := (box.updBell .a fun b => { b with blankUntil := some 100 }).bu.get .a
    let e (n : Nat) := (box.updBell .a fun b => { b with expected := some ⟨[2], n⟩ }).bu.get .a
    b.blankUntil = some 100 ∧ reached box.tb.tickCount 100 = true ∧ b.level = false ∧
    b.candidate = none ∧ (e 0).expected = some ⟨[2], 0⟩ ∧ (e 1).expected = some ⟨[2], 0 + 1⟩ := by
  decide +kernel

/-- A state of the tests with a train outbound on line A and a reading due to settle there. -/
def settling (old r : RawReading) (outb : Outbound) (count : Nat) : State :=
  withTrain (train .cleared none outb (.line .a)) (box.updLine .a fun b =>
    { b with settled := old, candidate := some (r, 40), count := count })

/-- SettlingIsAdoptedInService: a run of 40 in CONFIG; readings that leave the state and that change
it, for an outbound half in each state and for none, and on a SUSPENDED line. -/
theorem witness_settling :
    (∀ old r outb n, HalvesLaw (settling old r outb n)) ∧
    (∀ q, ¬outboundOn (settling .none .positive .none 0) q .a) ∧
    ((settling .none .positive .offered 254).blc.get .a).candidate = some (.positive, 40) ∧
    (settling .none .positive .offered 254).device = .service ∧
    outStateOf .none ≠ outStateOf .positive ∧ outStateOf .positive ≠ outStateOf .negative ∧
    outStateOf .none = outStateOf .both ∧
    ((settling .none .positive .offered 254).blc.get .a).count < 255 ∧
    255 ≤ ((settling .none .positive .offered 255).blc.get .a).count ∧
    (settling .positive .negative .accepted 0).trt.records[(0 : TrainId)] =
      some (train .cleared none .accepted (.line .a)) ∧
    ((ready.updLine .a fun b => { b with candidate := some (.both, 40) }).blc.get .a).candidate =
      some (.both, 40) ∧ ready.device = .config :=
  ⟨fun _ _ _ _ => halves_one fun r => box_records r, outboundTrain_eq_none.mp (by decide +kernel),
    by decide +kernel⟩

/-- QuietWaitRestoresASuspendedLine: the counts on both sides of SUSPENDED; a wait that ends on a line
free to be restored to an absent hold, and on one that is not. -/
theorem witness_quietWait :
    let s := box.updLine .a fun b => { b with count := 255, quiet := some 100 }
    let f := s.updLine .a fun b => { b with settled := .positive, standing := .accepted }
    box.portFree ∧ ready.portFree ∧ (lineAt 254 false box).portFree ∧ s.portFree ∧
    ready.device = .config ∧ box.device = .service ∧ ((lineAt 254 false box).blc.get .a).count < 255 ∧
    255 ≤ (s.blc.get .a).count ∧ (s.blc.get .a).quiet = some 100 ∧
    reached s.tb.tickCount 100 = true ∧
    (outStateOf (f.blc.get .a).settled = .clear ∧ (f.blc.get .a).obstruction = false ∧
      (f.blc.get .a).standing = .accepted) ∧ (s.cfg.lines.get .a).starter = some 0 :=
  ⟨free rfl, free rfl, free rfl, free rfl, by decide +kernel⟩

/-- LapseEndsTheOfferedHalf: halves due to lapse, with the record that stays and the one that goes. -/
theorem witness_lapse :
    let v (inb outb) : Train := { train inb (some .a) outb (.line .b) with inLapse := some 0, outLapse := some 0 }
    let s (inb outb) := (withTrain (v inb outb) box).trt.records[(0 : TrainId)]
    s .offered .none = some (v .offered .none) ∧ (v .offered .none).inLapse = some 0 ∧
    (v .offered .none).inbound = .offered ∧ (v .offered .none).arrivalLine ≠ none ∧
    s .offered .inSection = some (v .offered .inSection) ∧
    s .none .offered = some (v .none .offered) ∧ (v .none .offered).outLapse = some 0 ∧
    (v .none .offered).outbound = .offered ∧ s .arrived .offered = some (v .arrived .offered) := by
  decide +kernel

/-- LocalTrainsAreCreatedDirectedAndRetired: the shared records full up to the last, and records that
go and that stay. -/
theorem witness_localTrains :
    let s (inb outb) := withTrain (train inb (some .a) outb .undecided) box
    box.portFree ∧ ready.portFree ∧ (recordsUpTo 8).portFree ∧ ready.device = .config ∧
    box.device = .service ∧ (∀ r : TrainId, r.val < 9 → (recordsUpTo 9).trt.records[r] ≠ none) ∧
    (recordsUpTo 8).trt.records[(8 : TrainId)] = none ∧
    (∀ q : TrainId, q.val < 8 → (recordsUpTo 8).trt.records[q] ≠ none) ∧
    box.trt.records[(11 : TrainId)] = none ∧
    (s .cleared .none).trt.records[(0 : TrainId)] = some (train .cleared (some .a) .none .undecided) ∧
    (s .arrived .offered).trt.records[(0 : TrainId)] =
      some (train .arrived (some .a) .offered .undecided) :=
  ⟨free rfl, free rfl, free rfl, by decide +kernel⟩

/-- OfferIsSentAndMirrored: a record and a line that is free, blocked by its count, and SENDING; a class
with an entry, and one with none. -/
theorem witness_offer :
    let v := train .none none .none .undecided
    let s (n : Nat) (b : Bool) := withTrain v (lineAt n b box)
    (s 254 false).portFree ∧ ready.portFree ∧ (∀ q, ¬outboundOn (s 254 false) q .a) ∧
    (∃ e, lowestSendable (s 254 false) .offer (some 1) 1 e) ∧
    noneSendable (s 254 false) .offer (some 2) ∧ ready.device = .config ∧
    (s 254 false).device = .service ∧ box.trt.records[(0 : TrainId)] = none ∧
    (s 254 false).trt.records[(0 : TrainId)] = some v ∧ 255 ≤ ((s 255 false).blc.get .a).count ∧
    ¬255 ≤ ((s 254 false).blc.get .a).count ∧ v.outbound = .none ∧ ((s 254 true).bu.get .a).sender ≠ none ∧
    ((s 254 false).bu.get .a).sender = none ∧
    ((s 254 false).cfg.lines.get .a).starter = some 0 :=
  ⟨free rfl, free rfl, outboundTrain_eq_none.mp (by decide +kernel),
    sendable 1 (by decide +kernel), entryToSend_eq_none.mp (by decide +kernel), by decide +kernel⟩

/-- CancelOfferWithdrawsTheOutboundHalf -/
theorem witness_cancelOffer :
    let v := train .none (some .b) .accepted (.line .a)
    let s (n : Nat) (b : Bool) := withTrain v (lineAt n b box)
    (s 254 false).portFree ∧ (∃ e, lowestSendable (s 254 false) .cancel none 4 e) ∧
    (s 254 false).device = .service ∧
    (s 254 false).trt.records[(0 : TrainId)] = some v ∧ v.destination = .line .a ∧
    v.outbound = .accepted ∧ 255 ≤ ((s 255 false).blc.get .a).count ∧
    ((s 254 false).blc.get .a).count < 255 ∧
    ((s 254 true).bu.get .a).sender ≠ none ∧
    ((s 254 false).bu.get .a).sender = none ∧ (v.inbound = .none ∧ v.arrivalLine ≠ none) ∧
    (train .none none .none .undecided).outbound ≠ .offered ∧
    (train .none none .none .undecided).outbound ≠ .accepted :=
  ⟨free rfl, sendable 4 (by decide +kernel), by decide +kernel⟩

/-- AcceptCreatesTheClearingHolds: the acceptance taken and refused at each of its orders. -/
theorem witness_accept :
    let v := train .offered (some .a) .none .undecided
    let s := withTrain v box
    let occupied := s.updTrack 10 fun r => { r with state := .occupied }
    let reversed := s.updLever 10 fun r => { r with position := .reverse }
    let full := withTrain v (holdsUpTo 64)
    s.portFree ∧ s.device = .service ∧ s.trt.records[(0 : TrainId)] = some v ∧
    v.inbound = .offered ∧ v.arrivalLine = some .a ∧
    ¬(255 ≤ (s.blc.get .a).count ∨ (s.blc.get .a).inInstrument ≠ .blocked) ∧
    (s.cfg.lines.get .a).conditions = [] ++ Condition.trackClear 10 :: [] ∧
    occupied.condition occupied.recorded (.trackClear 10) = false ∧
    (∀ c ∈ (s.cfg.lines.get .a).conditions, s.condition s.recorded c = true) ∧
    (s.cfg.lines.get .a).clearing = [] ++ ((10 : LeverId), EndPos.normal) :: [] ∧
    reversed.stands reversed.recorded 10 .normal = false ∧
    (∀ e ∈ (s.cfg.lines.get .a).clearing, s.stands s.recorded e.1 e.2 = true) ∧
    (s.cfg.lines.get .a).clearing.length ≤ (freeShared s.ht).length ∧
    ¬(full.cfg.lines.get .a).clearing.length ≤ (freeShared full.ht).length ∧
    (s.bu.get .a).sender = none ∧
    ((withTrain v (lineAt 0 true box)).bu.get .a).sender ≠ none :=
  ⟨free rfl, by decide +kernel⟩

/-- AcceptCreatesTheClearingHolds: no CLEARING hold of the line stands in the box of the tests. -/
theorem witness_acceptNoHold (h : HoldId) (hold : Hold) (e : box.ht[h] = some hold) :
    hold.kind ≠ .clearing .a := by
  have all : ∀ h : HoldId, box.ht[h] = none ∨ ∃ x ∈ [Line.a, .b, .c],
      (box.ht[h].map fun k => k.kind) = some (.block x) := by decide +kernel
  rcases all h with hn | ⟨x, -, hx⟩
  · rw [hn] at e; cases e
  · rw [e] at hx
    simp only [Option.map_some, Option.some.injEq] at hx
    rw [hx]; nofun

/-- TailSeenRecordsTheArrival: each half that the rule distinguishes. -/
theorem witness_tailSeen :
    let s (inb) := withTrain (train inb (some .a) .none .undecided) box
    (s .arrived).portFree ∧ (s .arrived).device = .service ∧
    (s .arrived).trt.records[(0 : TrainId)] = some (train .arrived (some .a) .none .undecided) ∧
    (s .inSection).trt.records[(0 : TrainId)] =
      some (train .inSection (some .a) .none .undecided) ∧
    (train .inSection (some .a) .none .undecided).berthSeen = false ∧
    (box.cfg.lines.get .a).berth = some 3 ∧ box.tcm[(3 : TrackId)].state = .clear ∧
    (box.updTrack 3 fun r => { r with state := .occupied }).tcm[(3 : TrackId)].state ≠ .clear :=
  ⟨free rfl, by decide +kernel⟩

/-- TailSeenRecordsTheArrival: T1, the section entry of A, and T4, its berth, occupied in SERVICE: a train
accepted out to A on an ACTIVE line with its sender idle and SENDING and on a DOUBTFUL one, its block hold
absent, and none accepted; an inbound train in each state that the rule distinguishes, and none; and
T4 due to clear. -/
theorem witness_trackEvents :
    let at_ (s : State) := withSbc (fun b => { b with frame := some frame }) s
    let out (outb : Outbound) (n : Nat) (b : Bool) :=
      withTrain (train .none (some .b) outb (.line .a)) (at_ ((lineAt n b box).updHold 64 none))
    let inb (i : Inbound) := withTrain (train i (some .a) .none .undecided) (at_ box)
    let due (seen : Bool) :=
      withTrain { train .inSection (some .a) .none .undecided with berthSeen := seen }
        (box.updTrack 3 fun r => { r with state := .pickupTiming, timer := some 0 })
    (∀ o n b, HalvesLaw (out o n b)) ∧ (∀ i, HalvesLaw (inb i)) ∧ (∀ seen, HalvesLaw (due seen)) ∧
    (∃ e, lowestSendable (out .accepted 95 false) .entering none 2 e) ∧
    (at_ box).sbc.frame = some frame ∧ frame.unjudged = false ∧
    (5 : BitVec 192).getLsbD (frame.length - 1) = (at_ box).sbc.expected ∧
    (at_ box).sbc.scan = .running ∧ (at_ box).device = .service ∧
    (box.cfg.lines.get .a).entryCircuit = some 0 ∧ (box.cfg.lines.get .a).berth = some 3 ∧
    (box.cfg.tracks[(0 : TrackId)].configured = true ∧ box.tcm[(0 : TrackId)].state = .clear ∧
      frame.inputBit 5 (.track 0) = false) ∧
    (box.cfg.tracks[(3 : TrackId)].configured = true ∧ box.tcm[(3 : TrackId)].state = .clear ∧
      frame.inputBit 5 (.track 3) = false) ∧
    (out .accepted 95 false).trt.records[(0 : TrainId)] =
      some (train .none (some .b) .accepted (.line .a)) ∧
    ((out .accepted 95 false).blc.get .a).count = 95 ∧
    ((out .accepted 96 false).blc.get .a).count = 96 ∧
    ((out .accepted 95 false).bu.get .a).sender = none ∧
    ((out .accepted 95 true).bu.get .a).sender ≠ none ∧
    (out .accepted 95 false).ht[blockEntry .a] = none ∧
    (train .none (some .b) .offered (.line .a)).outbound ≠ .accepted ∧
    (inb .accepted).trt.records[(0 : TrainId)] = some (train .accepted (some .a) .none .undecided) ∧
    (inb .offered).trt.records[(0 : TrainId)] = some (train .offered (some .a) .none .undecided) ∧
    (train .inSection (some .a) .none .undecided).berthSeen = false ∧
    (due true).device = .service ∧ (due true).tcm[(3 : TrackId)].timer = some 0 ∧
    (due true).tcm[(3 : TrackId)].state = .pickupTiming :=
  ⟨fun _ _ _ => halves_one fun r => box_records r, fun _ => halves_one fun r => box_records r,
    fun _ => halves_one fun r => box_records r, sendable 2 (by decide +kernel), by decide +kernel⟩

/-- OutOfSectionGivesTheSectionBack: an arrived train on a line free to send, SENDING and SUSPENDED,
with the home at NORMAL and not, and a half that is not ARRIVED. -/
theorem witness_outOfSection :
    let v : Train := { train .arrived (some .a) .none .localBox with tailSeen := true }
    let s (n : Nat) (b : Bool) := withTrain v (lineAt n b box)
    (s 254 false).portFree ∧ (∃ e, lowestSendable (s 254 false) .outOfSection none 3 e) ∧
    (s 254 false).device = .service ∧
    (s 254 false).trt.records[(0 : TrainId)] = some v ∧ v.inbound = .arrived ∧
    v.tailSeen = true ∧ v.arrivalLine = some .a ∧ (box.cfg.lines.get .a).home = some 3 ∧
    (box.cfg.lines.get .a).berth = some 3 ∧ 255 ≤ ((s 255 false).blc.get .a).count ∧
    ((s 254 false).blc.get .a).count < 255 ∧
    (box.cfg.levers[(3 : LeverId)].configured = true ∧ box.llu[(3 : LeverId)].unseen = false ∧
      box.llu[(3 : LeverId)].position = .normal ∧ box.tcm[(3 : TrackId)].state = .clear) ∧
    (box.updLever 3 fun r => { r with position := .reverse }).llu[(3 : LeverId)].position ≠ .normal ∧
    ((s 254 true).bu.get .a).sender ≠ none ∧ ((s 254 false).bu.get .a).sender = none :=
  ⟨free rfl, sendable 3 (by decide +kernel), by decide +kernel⟩

/-- A state of the tests at the end of a selection. -/
def selected (at_ : PortState) (request : List Byte) : State :=
  { box with cp := ⟨if at_ = .executing then .executing else .idle, some at_, request, [], []⟩ }

/-- R176: MISO is driven during a selection and stands at high impedance after it. -/
theorem test_misoLevels :
    (let s := { box with cp := ⟨.executing, some .executing, [], [], [false, true]⟩ }
     (s.misoPin 0, s.misoPin 1, box.misoPin 0)) = (.low, .high, .highZ) ∧
    after .portDeselection (selected .executing []) (fun t => (t.misoPin 0, t.cp.miso)) =
      some (.highZ, []) := by decide +kernel

/-- PortStoresJudgesAndReplies: every selection and every judgement of a stored frame. -/
theorem witness_port :
    box.cp.selected = none ∧ (selected .executing []).cp.selected = some .executing ∧
    (selected .replyReady []).cp.selected = some .replyReady ∧
    (selected .idle []).cp.selected = some .idle ∧ (selected .idle []).cp.request = [] ∧
    (selected .idle [16]).cp.request = 16 :: [] ∧ (selected .idle [16]).cp.state = .idle ∧
    (selected .idle [36, 2, 1]).cp.request = 36 :: [2, 1] ∧ ([1] : List Byte).length < (2 : Byte).toNat ∧
    60 < (61 : Byte).toNat ∧ (0 : Byte).toNat ≤ ([] : List Byte).length ∧
    (Instr.setClock 258).wellFormed = true ∧
    encodeFrame (.setClock 258) = some (66 :: 3 :: ([0, 1, 2] : List Byte).take 3) := by
  decide +kernel

/-- PortStoresJudgesAndReplies: a known request whose arguments do not fit its layout is the frame of no
command. -/
theorem witness_portNoFit (i : Instr) : encodeFrame i ≠ some ([36, 0] : List Byte) := by
  intro h
  unfold encodeFrame at h
  split at h
  · next n args e =>
    simp only [Option.some.injEq, bytesOne, List.cons_append, List.nil_append,
      List.cons.injEq] at h
    cases i <;> simp only [requestBytes, Option.some.injEq, Prod.mk.injEq, reduceCtorEq] at e <;>
      obtain ⟨rfl, rfl⟩ := e <;>
      simp_all [bytesOne, listBytes, bytesTwo, bytesThree]
  · cases h

/-- RequestFramesRoundTrip -/
theorem witness_roundTrip :
    (Instr.loadTrack 7 20 [6]).wellFormed = true ∧
    encodeFrame (.loadTrack 7 20 [6]) = some [4, 4, 7, 20, 1, 6] ∧
    checkFrame [4, 4, 7, 20, 1, 6, 99] = .request (.loadTrack 7 20 [6]) := by decide +kernel

/-- LoadsReplaceOneRecordOrNothing: lists at their greatest lengths and values at both ends of each
range, and arguments just outside them. -/
theorem witness_loads :
    ready.portFree ∧ box.portFree ∧ ready.device = .config ∧ box.device = .service ∧
    (191 + ([⟨.none, .none⟩] : List SlotEntry).length ≤ 192) ∧
    192 < 191 + ([⟨0, 0, 0, 0⟩, ⟨0, 0, 0, 0⟩] : List RawSlot).length ∧
    ((List.finRange 8).map fun i : Fin 8 =>
      (⟨⟨i.val + 1, by omega⟩, .normal, 0⟩ : PointsEntry).lever).Nodup ∧
    ¬(([⟨5, 0, 1⟩, ⟨5, 1, 2⟩] : List RawPoints).map fun e => e.lever).Nodup ∧
    ([0, 1, 2, 3, 4, 5] : List TrackId).Nodup ∧ ¬([1, 1] : List Nat).Nodup ∧
    (3 : TrackId) ∉ ([0, 1, 2, 4] : List TrackId) ∧ (0 : LeverId) ≠ 39 ∧
    (([(0, .normal), (1, .normal), (2, .reverse), (39, .normal)] :
      List (LeverId × EndPos)).map fun e => e.1).Nodup ∧
    (∀ g ∈ ([⟨1, true⟩, ⟨9, false⟩] : List GroupSpec), 1 ≤ g.count ∧ g.count ≤ 9) ∧
    (Meaning.offer = .offer → 1 ≤ 15 ∧ 15 ≤ 15) :=
  ⟨free rfl, free rfl, by decide +kernel⟩

/-- LoadsReplaceOneRecordOrNothing: a full list of good conditions, and the three bad ones. -/
theorem witness_conditions :
    ¬badConditions 1 (many 12 (rawCondition (.trackClear 31))) ∧
    badConditions 1 (many 13 (rawCondition (.trackClear 31))) ∧ badConditions 1 [⟨3, 1⟩] ∧
    badConditions 1 [⟨1, 1⟩] := by
  refine ⟨?_, .inl (by decide), .inr (.inl ⟨⟨3, 1⟩, by simp, fun v => ?_⟩),
    .inr (.inr ⟨⟨1, 1⟩, by decide⟩)⟩
  · rintro (h | ⟨c, hc, h⟩ | ⟨c, hc, h, -⟩)
    · exact absurd h (by decide)
    · exact h (.trackClear 31) (List.eq_of_mem_replicate hc).symm
    · rw [List.eq_of_mem_replicate hc] at h
      exact absurd h (by decide)
  · cases v with
    | leverAt l p => cases p <;> simp [rawCondition]
    | trackClear t => simp [rawCondition]

/-- LoadTimingClampsItsNineValues: CONFIG, SERVICE, and a code in assembly. -/
theorem witness_loadTiming :
    ready.portFree ∧ box.portFree ∧ box.device = .service ∧ ready.device = .config ∧
    ((heard [1] ready).bu.get .a).code = some ⟨[1], false, false, false, 90, 100⟩ :=
  ⟨free rfl, free rfl, by decide +kernel⟩

/-- AttentionRequestsWorkTheRecords: one active source, which then ranks first; no active source; the
flags of the pending sources. -/
theorem witness_attention :
    pooled.portFree ∧ ready.portFree ∧ ready.device = .config ∧ box.device = .service ∧
    (∀ i : SourceId, i ∈ ([5] : List SourceId) ↔
      pooled.au[i].enabled = true ∧ pooled.sourcePending i = true) ∧
    (∀ i : SourceId, i ∈ ([] : List SourceId) ↔
      box.au[i].enabled = true ∧ box.sourcePending i = true) ∧
    (∀ i : SourceId, (32 : Nat).testBit i.val = pooled.sourcePending i) ∧ 32 < 16384 :=
  ⟨free rfl, free rfl, by decide +kernel⟩

/-- AttentionRequestsWorkTheRecords: a level source that is pending and one that is not, and ATTN high and
low (R169, R171). -/
theorem witness_levels :
    (stored.bu.get .a).buffer0 ≠ none ∧ (stored.bu.get .b).buffer0 = none ∧
    stored.sourceDetail (Source.id (.code .a)) = some (.buffers 1) ∧
    stored.sourceDetail (Source.id (.code .b)) = none ∧ pooled.attn = true ∧ stored.attn = false := by
  decide +kernel

/-- EnterServiceChecksAndStartsTheBox: SERVICE; a scan not RUNNING; tables at fault; a signal lever out
of place with none before it; and a box that may start. -/
theorem witness_enterService :
    sound.portFree ∧ ready.portFree ∧ box.portFree ∧ box.device = .service ∧
    State.reset.device = .config ∧ State.reset.sbc.scan ≠ .running ∧
    ready.cfg.offendingItem = some (.track 0) ∧ sound.device = .config ∧
    sound.sbc.scan = .running ∧ sound.cfg.offendingItem = none ∧
    (∀ l : LeverId, ¬(sound.cfg.levers[l].configured = true ∧
      (sound.llu[l].position = .contradictory ∨
        (sound.cfg.levers[l].kind = .signal ∧ sound.llu[l].position ≠ .normal)))) ∧
    (sound.updLever 5 fun r => { r with position := .between }).llu[(5 : LeverId)].position ≠
      .normal :=
  ⟨free rfl, free rfl, free rfl, by decide +kernel⟩

/-- RestartReturnsToConfig -/
theorem witness_restart : box.portFree ∧ ready.portFree := ⟨free rfl, free rfl⟩

/-! ### The laws hold in states with trains, holds, grants and codes -/

/-- SERVICE with a train accepted in from A and out to B, both lines' copies of it, and the hold of B
absent. -/
def working : State :=
  withTrain (train .accepted (some .a) .accepted (.line .b))
    (((box.updLine .a fun b => { b with inInstrument := .clear }).updLine .b fun b =>
      { b with settled := .positive, standing := .accepted }).updHold 65 none)

theorem working_records (r : TrainId) (t : Train) : working.trt.records[r] = some t ↔
    r = 0 ∧ t = train .accepted (some .a) .accepted (.line .b) :=
  withTrain_live fun r => box_records r

theorem working_inboundIs (x : Line) (st : Inbound) :
    inboundIs working x st ↔ x = .a ∧ st = .accepted := by
  constructor
  · rintro ⟨r, t, h, e, rfl⟩
    obtain ⟨-, rfl⟩ := (working_records r t).mp h
    exact ⟨(Option.some.inj e).symm, rfl⟩
  · rintro ⟨rfl, rfl⟩
    exact ⟨0, _, (working_records 0 _).mpr ⟨rfl, rfl⟩, rfl, rfl⟩

theorem working_outboundIs (x : Line) (st : Outbound) :
    outboundIs working x st ↔ x = .b ∧ st = .accepted := by
  constructor
  · rintro ⟨r, t, h, e, rfl⟩
    obtain ⟨-, rfl⟩ := (working_records r t).mp h
    exact ⟨(Destination.line.inj e).symm, rfl⟩
  · rintro ⟨rfl, rfl⟩
    exact ⟨0, _, (working_records 0 _).mpr ⟨rfl, rfl⟩, rfl, rfl⟩

theorem working_halves : HalvesLaw working := halves_one fun r => box_records r

/-- StepKeepsTheBlockHoldLaw: the law holds where one block hold is absent, and a step is taken. -/
theorem witness_blockHoldLaw : BlockHoldLaw { working with pending := [.quietWaitEnd .c] } ∧
    ∃ t, step { working with pending := [.quietWaitEnd .c] } = .next t := by
  refine ⟨⟨fun h hold e => ?_, fun _ x => ?_, fun _ x => ?_, fun e => ?_⟩, _, rfl⟩
  · have all : ∀ h : HoldId, working.ht[h] = none ∨ (∃ x ∈ [Line.a, .b, .c], h = blockEntry x ∧
        (working.ht[h].map fun k => k.kind) = some (.block x)) := by decide +kernel
    rcases all h with hn | ⟨x, -, hx, hk⟩
    · exact absurd (hn.symm.trans e) nofun
    · have : hold.kind = .block x := by
        have e' : working.ht[h] = some hold := e
        rw [e'] at hk
        exact Option.some.inj hk
      rw [this]; exact hx
  · cases x <;> decide +kernel
  · cases x <;> decide +kernel
  · exact absurd (show working.device = .config from e) (by decide +kernel)

/-- StepKeepsTheInstrumentLaw -/
theorem witness_instrumentLaw : InstrumentLaw { working with pending := [.tailSeen 1] } ∧
    ∃ t, step { working with pending := [.tailSeen 1] } = .next t := by
  refine ⟨⟨⟨fun x q r h k => working_halves.inbound x q r h k,
    fun x q r h k => working_halves.outbound x q r h k⟩, fun x => ?_, fun x => ?_⟩, _, rfl⟩
  · refine Iff.trans ?_ (working_inboundIs x .accepted).symm
    cases x <;> decide +kernel
  · refine Iff.trans ?_ (or_congr (working_inboundIs x .inSection) (working_inboundIs x .arrived)).symm
    cases x <;> decide +kernel

/-- StepKeepsTheStandingLaw -/
theorem witness_standingLaw : StandingLaw { working with pending := [.cancelOffer 1] } ∧
    ∃ t, step { working with pending := [.cancelOffer 1] } = .next t := by
  refine ⟨⟨⟨fun x q r h k => working_halves.inbound x q r h k,
    fun x q r h k => working_halves.outbound x q r h k⟩, fun x => ?_, fun x => ?_, fun x => ?_⟩, _, rfl⟩
  · refine Iff.trans ?_ (working_outboundIs x .offered).symm
    cases x <;> decide +kernel
  · refine Iff.trans ?_ (working_outboundIs x .accepted).symm
    cases x <;> decide +kernel
  · refine Iff.trans ?_ (working_outboundIs x .inSection).symm
    cases x <;> decide +kernel

/-- StepKeepsTheMagnetLaw: a lever in STROKE with its magnet energised, and a frame to judge. -/
theorem witness_magnetLaw :
    let s := { withSbc (fun b => { b with magnets := b.magnets.set 4 true, frame := some frame })
      stroking with pending := [.frameJudge 0] }
    MagnetLaw s ∧ ∃ t, step s = .next t := by
  refine ⟨⟨by decide +kernel, fun e => absurd e (by decide +kernel), by decide +kernel⟩, _, rfl⟩

/-- StepKeepsTheClearanceLaw: a pickup timer that is due. -/
theorem witness_clearanceLaw :
    let s := { ready.updTrack 3 fun r => { r with state := .pickupTiming, timer := some 0 } with
      pending := [.pickupExpiry] }
    ClearanceLaw s ∧ ∃ t, step s = .next t := by
  exact ⟨⟨by decide +kernel, by decide +kernel⟩, _, rfl⟩

/-- StepKeepsIdleRoutesWithoutHolds: a route that holds, about to be released by time. -/
theorem witness_idleRouteLaw :
    let s := { routed .sequenceFault none with pending := [.timedRelease 1] }
    IdleRouteLaw s ∧ ∃ t, step s = .next t := by
  refine ⟨fun h hold l c e k => ?_, _, rfl⟩
  have all : ∀ h : HoldId, (routed .sequenceFault none).ht[h] = none ∨
      (routed .sequenceFault none).ht[h] = some ⟨.route 0 1, 12, .normal, 5⟩ ∨
      ∃ x ∈ [Line.a, .b, .c],
        ((routed .sequenceFault none).ht[h].map fun k => k.kind) = some (.block x) := by
    decide +kernel
  have e' : (routed .sequenceFault none).ht[h] = some hold := e
  rcases all h with hn | hr | ⟨x, -, hx⟩
  · exact absurd (hn.symm.trans e') nofun
  · cases hr.symm.trans e'
    cases k
    decide +kernel
  · rw [e'] at hx
    have : hold.kind = .block x := Option.some.inj hx
    rw [this] at k; cases k

/-- StepKeepsTheBuffersAndTheCount: one code stored, and a count at its top. -/
theorem witness_bufferAndCountLaw :
    let s := { (stored.updLine .b fun b => { b with count := 255 }) with pending := [.releaseCode 0] }
    BufferLaw s ∧ CountLaw s ∧ ∃ t, step s = .next t := by
  refine ⟨fun x => ?_, fun x => ?_, _, rfl⟩ <;> cases x <;> decide +kernel

/-- StepKeepsTheReserveRecords: a train offered on A stands in A's reserve. -/
theorem witness_reserveLaw :
    let s := { box.updRecord 9 (some (train .offered (some .a) .none .undecided)) with
      pending := [.accept 10 none] }
    ReserveLaw s ∧ ∃ t, step s = .next t := by
  refine ⟨fun x t e => ?_, _, rfl⟩
  have all : ∀ x ∈ [Line.a, .b, .c],
      ((box.updRecord 9 (some (train .offered (some .a) .none .undecided))).trt.records[
        reserveRecord x].map fun v => v.arrivalLine) = some (some x) ∨
      (box.updRecord 9 (some (train .offered (some .a) .none .undecided))).trt.records[
        reserveRecord x] = none := by decide +kernel
  have e' : (box.updRecord 9 (some (train .offered (some .a) .none .undecided))).trt.records[
    reserveRecord x] = some t := e
  rcases all x (by cases x <;> simp) with h | h
  · rw [e'] at h; exact Option.some.inj h
  · exact absurd (h.symm.trans e') nofun


end Sys2Proof.Tests
end

/-! The scan bus: what a full reset, the start and the stop of the scan, and the frames do. -/

namespace Sys2Proof.Machine

/-! ### Full reset -/

/-- R173: no source is pending in a part fully reset. -/
theorem sourcePending_of_reset {s : State} (scan : s.sbc.scan = .stopped)
    (bu : s.bu = PerLine.same BellUnit.reset) (blc : s.blc = PerLine.same BlockLine.reset)
    (au : s.au = Vector.replicate 14 SourceRecord.reset) (i : SourceId) :
    s.sourcePending i = false := by
  have quiet : s.au[i].pending = false := by simp [au, SourceRecord.reset]
  unfold State.sourcePending State.level
  simp only [scan, bu, blc, quiet]
  repeat' split
  all_goals rfl

/-- Settles O2: block by block from the full-reset values of the model. -/
theorem fullResetEmptiesEveryBlock : Obligations.FullResetEmptiesEveryBlock := by
  intro s
  refine ⟨_, rfl, rfl, rfl, rfl, ?sbc, ?cfg, rfl, rfl, rfl, ?attn, ?tracks, ?levers, ?holds, ?trains,
    ?lines, ?sources⟩
  case sbc => exact ⟨rfl, rfl, rfl, rfl, rfl, rfl, rfl, rfl, rfl, rfl, rfl, rfl⟩
  case cfg =>
    refine ⟨rfl, rfl, rfl, fun k => ?_, fun c => ?_⟩ <;> simp [State.reset, ConfigStore.reset]
  case attn =>
    simp only [State.attn, State.sourceActive, List.any_eq_false]
    intro i _
    rw [sourcePending_of_reset rfl rfl rfl rfl]
    simp
  case tracks =>
    intro c
    simp [State.reset, ConfigStore.reset, ScanBus.reset, InputImage.reset, Track.reset,
      TrackConfig.reset]
  case levers =>
    intro l
    simp [State.reset, ConfigStore.reset, ScanBus.reset, InputImage.reset, Lever.reset, Route.reset,
      LeverConfig.reset, RouteConfig.reset]
  case holds => intro h; simp [State.reset]
  case trains => intro r; simp [State.reset, TrainTable.reset]
  case lines =>
    intro x
    cases x <;> exact ⟨rfl, rfl, rfl, rfl⟩
  case sources =>
    intro i
    exact ⟨by simp [State.reset, SourceRecord.reset], sourcePending_of_reset rfl rfl rfl rfl i⟩

/-! ### Starting and closing the scan -/

/-- R177: with no request EXECUTING, a request command leaves its owner's state, with its owner's reply
waiting. -/
theorem serve_eq {n : Byte} {take : State → State × Reply} {s t : State} {r : Reply}
    (free : s.portFree) (answer : take s = (t, r)) :
    serve n take s = .next (t.holding (replyBytes r.status.code n r.data)) := by
  rw [serve_of_portFree free, answer]

/-- Settles O14: the two branches of R15. -/
theorem scanStartArrangesTheFirstFrame : Obligations.ScanStartArrangesTheFirstFrame := by
  intro s free
  constructor
  · intro config stopped
    have taken : ¬(s.device = .service ∨ s.sbc.scan ≠ .stopped) := by simp [config, stopped]
    exact serve_eq (take := takeScanStart) free (if_neg taken)
  · intro refused
    exact serve_eq (take := takeScanStart) free (if_pos refused)

/-- A sync is due when its tick has come and no frame is in progress. -/
theorem syncDue_of_reached {s : State} {due : Tick} (idle : s.sbc.frame = none)
    (next : s.sbc.nextSync = some due) (come : reached s.tb.tickCount due = true) :
    syncDue s = true := by
  simp [syncDue, next, come, idle]

/-- R3: the sync after the one that is due comes an effective period later. -/
theorem followingSync_of_next {s : State} {due : Tick} (next : s.sbc.nextSync = some due) :
    followingSync s = some (due + BitVec.ofNat 32 (s.cfg.effectivePeriod / 5)) := by
  simp [followingSync, next, ConfigStore.periodTicks]

/-- Settles O16: the sync is due, so each of the two commands of R16 acts. -/
theorem closingFrameAndSyncClearTheBoards : Obligations.ClosingFrameAndSyncClearTheBoards := by
  intro s due idle next come
  have sync := syncDue_of_reached idle next come
  constructor
  · intro stop
    show execClosingFrame s = _
    simp only [execClosingFrame, sync, stop, openClosingFrame, followingSync_of_next next,
      Boards.sync, decide_true, Bool.and_self, if_true]
  · intro stop
    have run : exec .closingSync s = .next (closeBus s) := by
      show execClosingSync s = _
      simp [execClosingSync, sync, stop]
    have closed : (closeBus s).sbc.frame = none := idle
    have pulse : (closeBus s).sbc.syncPulse = true := rfl
    refine ⟨closeBus s, run, rfl, fun k => ?_, ?_, fun k => ?_⟩
    · simp [State.sfsIn, pulse]
    · simp [State.sckRuns, closed]
    · simp [State.sdoIn, closed]

/-! ### The scan withdrawn -/

/-- R56: a lever in GRANTED or STROKE becomes unseen with its timer abandoned. -/
def Lever.becomesUnseen (r : Lever) : Lever :=
  if r.release = .notGranted then r else { r with unseen := true, strokeTimer := none }

/-- R56: a lever at a scan-withdrawn notice; a SEEKING one is refused with SCAN. -/
def Lever.withdrawn (r : Lever) (cfg : LeverConfig) (clock : Clock) : Lever :=
  if cfg.configured then
    if r.grip = .seeking then { r.becomesUnseen with lastRefusal := some ⟨.scan, clock, false⟩ }
    else r.becomesUnseen
  else r

@[simp] theorem Lever.becomesUnseen_kept (r : Lever) :
    r.becomesUnseen.position = r.position ∧ r.becomesUnseen.catchGripped = r.catchGripped ∧
    r.becomesUnseen.release = r.release ∧ r.becomesUnseen.grip = r.grip := by
  unfold Lever.becomesUnseen
  split <;> simp

@[simp] theorem Lever.withdrawn_kept (r : Lever) (cfg : LeverConfig) (clock : Clock) :
    (r.withdrawn cfg clock).position = r.position ∧
    (r.withdrawn cfg clock).catchGripped = r.catchGripped ∧
    (r.withdrawn cfg clock).release = r.release := by
  unfold Lever.withdrawn
  (repeat' split) <;> simp

/-- R56, R85: a route at a scan-withdrawn notice: in SERVICE a SIGNAL lever GRANTED from NORMAL hands
its left-NORMAL notice, which takes its route from GRANTED to SET. -/
def Route.withdrawn (r : Route) (lever : Lever) (cfg : LeverConfig) (device : Device)
    (clock : Clock) : Route :=
  if device = .service ∧ cfg.configured = true ∧ cfg.kind = .signal ∧
      lever.release = .granted .normal ∧ r.state = .granted then
    { r with state := .set, changed := clock }
  else r

/-- A route that changes state; every other route is as it was. -/
theorem setRouteState_route (l k : LeverId) (st : RouteState) (s : State) :
    (setRouteState l st s).ru[k] =
      if l = k then { s.ru[k] with state := st, changed := s.tb.clock } else s.ru[k] := by
  rw [setRouteState, State.updRoute_ru, tableUpdate_get]

/-- R85: a left-NORMAL notice marked granted touches its own route only. -/
theorem leftNormalGranted_route (l k : LeverId) (s : State) : (leftNormalGranted l s).ru[k] =
    if l = k ∧ s.ru[k].state = .granted then
      { s.ru[k] with state := .set, changed := s.tb.clock }
    else s.ru[k] := by
  unfold leftNormalGranted
  by_cases lk : l = k
  · subst lk
    by_cases granted : s.ru[l].state = .granted
    · rw [if_pos granted, if_pos ⟨rfl, granted⟩, setRouteState_route, if_pos rfl]
    · rw [if_neg granted, if_neg (fun h => granted h.2)]
  · simp only [lk, false_and, if_false]
    split
    · rw [setRouteState_route, if_neg lk]
    · rfl

/-- R56: a lever that becomes unseen touches its own record only. -/
theorem becomeUnseen_lever (l k : LeverId) (s : State) : (becomeUnseen l s).llu[k] =
    if l = k then s.llu[k].becomesUnseen else s.llu[k] := by
  have written : (s.updLever l fun r => { r with unseen := true, strokeTimer := none }).llu[k] =
      if l = k then { s.llu[k] with unseen := true, strokeTimer := none } else s.llu[k] := by
    rw [State.updLever_llu, tableUpdate_get]
  unfold becomeUnseen notice Lever.becomesUnseen
  by_cases lk : l = k
  · subst lk
    rw [if_pos rfl] at written
    cases released : s.llu[l].release with
    | notGranted => simp
    | granted p => dsimp only; (repeat' split) <;> simp_all [-Fin.getElem_fin]
    | stroke p => simpa [-Fin.getElem_fin, released] using written
  · rw [if_neg lk] at written ⊢
    cases released : s.llu[l].release with
    | notGranted => rfl
    | granted p => dsimp only; (repeat' split) <;> simp_all [-Fin.getElem_fin]
    | stroke p => exact written

/-- R56, R85: a lever that becomes unseen hands its left-NORMAL notice to its own route. -/
theorem becomeUnseen_route (l k : LeverId) (s : State) (conf : s.cfg.levers[l].configured = true) :
    (becomeUnseen l s).ru[k] =
    if l = k then s.ru[k].withdrawn s.llu[k] s.cfg.levers[k] s.device s.tb.clock else s.ru[k] := by
  unfold becomeUnseen notice signalNormal State.isSignal
  dsimp only
  by_cases lk : l = k
  · subst lk
    unfold Route.withdrawn
    cases released : s.llu[l].release with
    | notGranted => simp
    | granted p =>
      cases p <;> by_cases signal : s.cfg.levers[l].kind = .signal <;>
        by_cases service : s.device = .service <;>
        simp [-Fin.getElem_fin, conf, signal, service, leftNormalGranted_route]
    | stroke p => simp
  · rw [if_neg lk]
    cases released : s.llu[l].release with
    | notGranted => rfl
    | granted p => dsimp only; (repeat' split) <;> simp [-Fin.getElem_fin, leftNormalGranted_route, lk]
    | stroke p => rfl

/-- R56: a scan-withdrawn notice touches the record of its own lever only. -/
theorem withdrawLever_lever (l k : LeverId) (s : State) : (withdrawLever l s).llu[k] =
    if l = k then s.llu[k].withdrawn s.cfg.levers[k] s.tb.clock else s.llu[k] := by
  have unseen := becomeUnseen_lever l k s
  unfold withdrawLever Lever.withdrawn
  by_cases lk : l = k
  · subst lk
    simp only [if_true] at unseen ⊢
    by_cases conf : s.cfg.levers[l].configured = true
    · by_cases seeks : s.llu[l].grip = .seeking <;>
        simp [-Fin.getElem_fin, conf, unseen, seeks, tableUpdate_get]
    · simp only [conf, if_false, Bool.false_eq_true]
  · rw [if_neg lk] at unseen ⊢
    split
    · dsimp only
      split
      · exact (tableUpdate_get_ne _ _ (Ne.symm lk)).trans unseen
      · exact unseen
    · rfl

/-- R56: a scan-withdrawn notice touches the route of its own lever only. -/
theorem withdrawLever_route (l k : LeverId) (s : State) : (withdrawLever l s).ru[k] =
    if l = k then s.ru[k].withdrawn s.llu[k] s.cfg.levers[k] s.device s.tb.clock else s.ru[k] := by
  unfold withdrawLever
  by_cases conf : s.cfg.levers[l].configured = true
  · rw [if_pos conf, ← becomeUnseen_route l k s conf]
    dsimp only
    split <;> rfl
  · rw [if_neg conf]
    split
    · next lk => subst lk; simp [-Fin.getElem_fin, Route.withdrawn, conf]
    · rfl

/-- R56, R85: every lever and every route after a scan-withdrawn notice. -/
theorem leverWithdrawn_entry (l : LeverId) (s : State) :
    (leverWithdrawn s).llu[l] = s.llu[l].withdrawn s.cfg.levers[l] s.tb.clock ∧
    (leverWithdrawn s).ru[l] =
      s.ru[l].withdrawn s.llu[l] s.cfg.levers[l] s.device s.tb.clock := by
  have pass := forEach_entry (f := withdrawLever) (fun i s => (s.llu[i], s.ru[i]))
    (fun s => (s.cfg, s.device, s.tb))
    (fun i own kept => (own.1.withdrawn kept.1.levers[i] kept.2.2.clock,
      own.2.withdrawn own.1 kept.1.levers[i] kept.2.1 kept.2.2.clock))
    (fun i s => by simp only [withdrawLever_lever, withdrawLever_route, if_true])
    (fun i j s ne => by
      simp only [withdrawLever_lever, withdrawLever_route, if_neg (Ne.symm ne)])
    (fun i s => by simp) s l
  exact Prod.mk.inj pass

/-- R30: a circuit at a scan-withdrawn notice: UNKNOWN, its timer abandoned, its mark and flag kept. -/
@[simp] theorem Track.withdrawn_kept (r : Track) (clock : Clock) :
    (r.withdrawn clock).state = .unknown ∧ (r.withdrawn clock).timer = none ∧
    (r.withdrawn clock).mark = r.mark ∧ (r.withdrawn clock).fault = r.fault := by
  unfold Track.withdrawn
  split
  · next unknown => exact ⟨unknown, rfl, rfl, rfl⟩
  · exact ⟨rfl, rfl, rfl, rfl⟩

section
variable (s : State)

/-- R12, R16: a scan-withdrawn notice writes no more of the Scan Bus Controller than the lamp bits of the
configured circuits. -/
theorem trackWithdrawn_sbc : (trackWithdrawn s).sbc =
    { s.sbc with lamps := tabulate fun c => s.cfg.tracks[c].configured || s.sbc.lamps[c] } :=
  rfl

/-- R30: every lamp bit after a scan-withdrawn notice. -/
theorem trackWithdrawn_lamp (c : TrackId) : (trackWithdrawn s).sbc.lamps[c] =
    (s.cfg.tracks[c].configured || s.sbc.lamps[c]) :=
  tabulate_get _ c

/-- R30: every circuit after a scan-withdrawn notice. -/
theorem trackWithdrawn_circuit (c : TrackId) : (trackWithdrawn s).tcm[c] =
    if s.cfg.tracks[c].configured then s.tcm[c].withdrawn s.tb.clock else s.tcm[c] :=
  tabulate_get _ c

/-- R12, R16, R56: every lever after the two notices of a withdrawal. -/
theorem scanWithdrawn_lever (l : LeverId) : (leverWithdrawn (trackWithdrawn s)).llu[l] =
    s.llu[l].withdrawn s.cfg.levers[l] s.tb.clock := by
  have notices := (leverWithdrawn_entry l (trackWithdrawn s)).1
  simpa [-Fin.getElem_fin] using notices

/-- R12, R16, R85: every route after the two notices of a withdrawal. -/
theorem scanWithdrawn_route (l : LeverId) : (leverWithdrawn (trackWithdrawn s)).ru[l] =
    s.ru[l].withdrawn s.llu[l] s.cfg.levers[l] s.device s.tb.clock := by
  have notices := (leverWithdrawn_entry l (trackWithdrawn s)).2
  simpa [-Fin.getElem_fin] using notices

/-- R85: no route changes in CONFIG. -/
theorem scanWithdrawn_routes (config : s.device = .config) :
    (leverWithdrawn (trackWithdrawn s)).ru = s.ru := by
  refine table_ext fun l => ?_
  rw [scanWithdrawn_route]
  exact if_neg (fun h => by simp [config] at h)

end

/-! ### The judgement of a frame -/

/-- R9: the end of the frame in progress. -/
theorem exec_frameJudge {s : State} {f : Frame} (sdi : BitVec 192) (frame : s.sbc.frame = some f) :
    exec (.frameJudge sdi) s = .next (judgeFrame f sdi s) := by
  show execFrameJudge sdi s = _
  rw [execFrameJudge, frame]

theorem judgeFrame_unjudged {f : Frame} (sdi : BitVec 192) (s : State) (unjudged : f.unjudged = true) :
    judgeFrame f sdi s = s.setSbc { s.sbc with frame := none } :=
  if_pos unjudged

theorem judgeFrame_bad {f : Frame} {sdi : BitVec 192} {s : State} (judged : f.unjudged = false)
    (bad : sdi.getLsbD (f.length - 1) ≠ s.sbc.expected) :
    judgeFrame f sdi s = afterBad (s.setSbc s.sbc.takeBad) := by
  rw [judgeFrame, judged, if_neg Bool.false_ne_true, if_neg bad]

theorem judgeFrame_good {f : Frame} {sdi : BitVec 192} {s : State} (judged : f.unjudged = false)
    (good : sdi.getLsbD (f.length - 1) = s.sbc.expected) :
    judgeFrame f sdi s = afterGood (s.setSbc (s.sbc.takeGood (f.image sdi))) := by
  rw [judgeFrame, judged, if_neg Bool.false_ne_true, if_pos good]

/-- Settles O12: the third bad frame loses the scan, and the loss hands every circuit and every lever
its notice. -/
theorem thirdBadFrameLosesTheScan : Obligations.ThirdBadFrameLosesTheScan := by
  intro s f sdi frame judged bad running second
  have third : (s.setSbc s.sbc.takeBad).sbc.badRun = 3 := by simp [ScanBus.takeBad, second]
  have run : exec (.frameJudge sdi) s = .next (loseScan (s.setSbc s.sbc.takeBad)) := by
    rw [exec_frameJudge sdi frame, judgeFrame_bad judged bad, afterBad, if_pos ⟨running, third⟩]
  refine ⟨_, run, ?_⟩
  unfold loseScan
  refine ⟨?scan, ?frame, ?input, ?badRun, ?goodRun, ?pending, fun l => ?lever,
    fun c => ?circuit, ?frames⟩
  case lever =>
    rw [scanWithdrawn_lever, scanWithdrawn_route]
    simp only [State.setSbc_llu, State.setSbc_ru, State.setSbc_cfg, State.setSbc_tb,
      State.setSbc_device]
    refine ⟨by simp [trackWithdrawn_sbc], by simp, by simp, by simp, fun conf released => ?_,
      fun standing => ?_, fun conf seeks => ?_, fun noticed => if_pos noticed,
      fun quiet => if_neg quiet⟩
    · rw [Lever.withdrawn, if_pos conf, Lever.becomesUnseen, if_neg released]
      split <;> exact ⟨rfl, rfl⟩
    · rw [Lever.withdrawn, Lever.becomesUnseen, if_pos standing]
      (repeat' split) <;> rfl
    · rw [Lever.withdrawn, if_pos conf, if_pos seeks]
  case circuit =>
    simp only [leverWithdrawn_frame, trackWithdrawn_circuit, trackWithdrawn_lamp]
    by_cases conf : s.cfg.tracks[c].configured = true <;>
      simp [-Fin.getElem_fin, conf, ScanBus.takeBad]
  case frames => simp
  all_goals simp [trackWithdrawn_sbc, State.sourcePending, State.level, ScanBus.takeBad, second]

/-! ### Stopping the scan -/

/-- R16 steps 1 to 3, with the scan known: the withdrawal of a scan that ran or was lost. -/
theorem stopScan_withdraws {s : State} (known : s.sbc.scan = .running ∨ s.sbc.scan = .lost) :
    stopScan s = leverWithdrawn (trackWithdrawn (s.setSbc { s.sbc with
      scan := .stopped
      frame := s.sbc.frame.map fun f => { f with unjudged := true }
      stop := .closingFrame })) :=
  if_pos known

/-- Settles O15: the branches of R16 by device and scan state. -/
theorem scanStopWithdrawsTheScan : Obligations.ScanStopWithdrawsTheScan := by
  intro s free
  have run : exec .scanStop s = .next (replyOrWait 17 (takeScanStop s)) := if_neg free
  have unanswered (config : s.device = .config) (scanning : s.sbc.scan ≠ .stopped) :
      takeScanStop s = (stopScan s, none) := by
    simp [takeScanStop, config, scanning]
  rw [run]
  refine ⟨fun service => ?service, fun config stopped => ?stopped, fun config starting => ?starting,
    fun config known => ?withdrawal⟩
  case service => rw [takeScanStop, if_pos service]; rfl
  case stopped => rw [takeScanStop, if_neg (by simp [config]), if_pos stopped]; rfl
  case starting =>
    rw [unanswered config (by simp [starting]), stopScan, if_neg (by simp [starting])]
    rfl
  case withdrawal =>
    have scanning : s.sbc.scan ≠ .stopped := by rcases known with h | h <;> simp [h]
    rw [unanswered config scanning, stopScan_withdraws known]
    refine ⟨_, rfl, ?port, ?scan, ?stop, ?nextSync, ?magnets, ?frame, ?pending,
      fun c conf => ?circuit, fun l => ?lever, ?frames⟩
    case circuit =>
      simp only [replyOrWait, State.setPort_tcm, State.setPort_sbc, leverWithdrawn_frame,
        trackWithdrawn_circuit, trackWithdrawn_lamp]
      simp [-Fin.getElem_fin, conf]
    case lever =>
      simp only [replyOrWait, State.setPort_llu, scanWithdrawn_lever]
      simp
    case frames =>
      have routes := scanWithdrawn_routes (s.setSbc { s.sbc with
        scan := .stopped
        frame := s.sbc.frame.map fun f => { f with unjudged := true }
        stop := .closingFrame }) config
      simpa [replyOrWait] using routes
    all_goals simp [replyOrWait, trackWithdrawn_sbc, State.sourcePending, State.level]

/-! ### A frame without an arrival -/

/-- R11: a bad frame below the third in RUNNING, or in another scan state, has no further effect. -/
theorem afterBad_quiet {s : State} (below : s.sbc.scan = .running → s.sbc.badRun ≠ 3) :
    afterBad s = s :=
  if_neg fun lost => below lost.1 lost.2

/-- R10, R13: a good frame below the eighth in STARTING or LOST has no further effect. -/
theorem afterGood_quiet {s : State} (scan : s.sbc.scan = .starting ∨ s.sbc.scan = .lost)
    (below : s.sbc.goodRun ≠ 8) : afterGood s = s := by
  rcases scan with h | h <;> simp only [afterGood, h, if_neg below]

/-- R14: an input function takes the bit of the lowest slot below the marker slot that carries it. -/
theorem inputBit_of_lowest {f : Frame} {fn : InputFunction} {k : SlotId} (sdi : BitVec 192)
    (below : k.val + 1 < f.length) (carries : f.slots[k].input = fn)
    (first : ∀ j : SlotId, j.val < k.val → f.slots[j].input ≠ fn) :
    f.inputBit sdi fn = sdi.getLsbD k.val := by
  have found : inputSlot f.slots f.length fn = some k :=
    lowest_eq_some.mpr ⟨by simpa using ⟨below, carries⟩, fun j lower => by
      simpa using fun _ => first j lower⟩
  rw [Frame.inputBit, found]

/-- R14: an input function that no slot below the marker slot carries takes 0. -/
theorem inputBit_of_none {f : Frame} {fn : InputFunction} (sdi : BitVec 192)
    (absent : ∀ k : SlotId, k.val + 1 < f.length → f.slots[k].input ≠ fn) :
    f.inputBit sdi fn = false := by
  have found : inputSlot f.slots f.length fn = none :=
    lowest_eq_none.mpr fun k => by simpa using absent k
  rw [Frame.inputBit, found]

/-- Settles O11: the three judgements that end without an arrival, and the image's bits. -/
theorem framesWithoutArrivalChangeOnlyTheirCounts :
    Obligations.FramesWithoutArrivalChangeOnlyTheirCounts := by
  refine ⟨fun s f sdi frame => ⟨fun unjudged => ?_, fun judged bad below => ?_,
    fun judged good scan below => ?_⟩, fun f sdi fn => ⟨fun k => inputBit_of_lowest sdi,
    inputBit_of_none sdi⟩⟩ <;> rw [exec_frameJudge sdi frame]
  · rw [judgeFrame_unjudged sdi s unjudged]
    rfl
  · have quiet : s.sbc.scan = .running → min 255 (s.sbc.badRun + 1) ≠ 3 := fun running => by
      have := below running
      omega
    rw [judgeFrame_bad judged bad, afterBad_quiet quiet]
    rfl
  · have quiet : min 255 (s.sbc.goodRun + 1) ≠ 8 := by omega
    rw [judgeFrame_good judged good,
      afterGood_quiet (s := s.setSbc (s.sbc.takeGood (f.image sdi))) scan quiet]
    rfl

/-! ### A frame opens -/

section
variable (b : ScanBus) (slots : Vector SlotEntry 192) {n : Nat} (marker : Bool)

/-- R7: the output copy of a frame has one bit for each slot. -/
theorem outputCopy_length (slot : 1 ≤ n) : (b.outputCopy slots n marker).length = n := by
  simp only [ScanBus.outputCopy, List.length_append, List.length_map, List.length_range,
    List.length_singleton]
  omega

/-- R7, R8: the last bit of the output copy is the marker. -/
theorem outputCopy_marker : (b.outputCopy slots n marker)[n - 1]? = some marker := by
  simp [ScanBus.outputCopy]

/-- R7: below the marker slot the output copy holds, in RUNNING, the image bit of the slot's output
function, and 0 in any other scan state. -/
theorem outputCopy_slot {k : SlotId} (below : k.val + 1 < n) :
    (b.outputCopy slots n marker)[k.val]? =
      some (if b.scan = .running then b.outputBit slots[k].output else false) := by
  have inside : k.val < n - 1 := by omega
  simp [ScanBus.outputCopy, List.getElem?_append, inside, ScanBus.copyBit]

end

/-- Settles O10: the frame that is due opens, and its copy is read slot by slot. -/
theorem frameOpensWithItsCopyAndMarker : Obligations.FrameOpensWithItsCopyAndMarker := by
  intro s due scanning idle next come lower upper
  have sync := syncDue_of_reached idle next come
  have run : exec .frameOpen s = .next (openFrame s) := by
    show execFrameOpen s = _
    simp [execFrameOpen, sync, scanning]
  refine ⟨openFrame s, s.sbc.outputCopy s.cfg.slots s.cfg.frameLength !s.sbc.marker, run, rfl, rfl,
    rfl, followingSync_of_next next, rfl, rfl, rfl, fun k => ?sfs, rfl, fun k => rfl, rfl,
    outputCopy_length _ _ _ (by omega), outputCopy_marker _ _ _, fun k below => ?slot, rfl, rfl, rfl⟩
  case sfs => simp [State.sfsIn, openFrame]
  case slot =>
    rw [outputCopy_slot _ _ _ below]
    cases s.cfg.slots[k].output <;> rfl

end Sys2Proof.Machine

/-! Loading: LOAD_TIMING and the six loads that replace one record. -/

namespace Sys2Proof.Machine

/-! ### A load in CONFIG and in SERVICE -/

/-- R180: a load in SERVICE is refused with STATE. -/
theorem inConfig_service {take : State → State × Reply} {s : State} (service : s.device = .service) :
    inConfig take s = (s, .state) :=
  if_pos service

/-- R180: a load in CONFIG runs its owner's rule. -/
theorem inConfig_config {take : State → State × Reply} {s : State} (config : s.device = .config) :
    inConfig take s = take s :=
  if_neg (by simp [config])

/-! ### LOAD_TIMING -/

/-- R3 steps 1 and 2: the permitted period is the least multiple of 5 that is not below the clamped
request. -/
theorem permittedPeriod_spec (n : Nat) : permittedPeriod n % 5 = 0 ∧
    max 10 (min 50 n) ≤ permittedPeriod n ∧ permittedPeriod n < max 10 (min 50 n) + 5 := by
  unfold permittedPeriod clamp
  omega

/-- R3 step 3: the effective period is a multiple of 5 that holds the frame and is not below the
request, and where it is above the request no smaller multiple of 5 holds the frame. -/
theorem effectivePeriodOf_spec {requested : Nat} (length : Nat) (five : requested % 5 = 0) :
    effectivePeriodOf requested length % 5 = 0 ∧
    requested ≤ effectivePeriodOf requested length ∧
    length + 16 ≤ 16 * effectivePeriodOf requested length ∧
    (requested < effectivePeriodOf requested length →
      16 * effectivePeriodOf requested length < length + 16 + 80) := by
  unfold effectivePeriodOf frameSixteenths
  split <;> omega

/-- Settles O49. -/
theorem loadTimingClampsItsNineValues : Obligations.LoadTimingClampsItsNineValues := by
  intro s v free
  refine ⟨fun service => serve_eq (take := takeLoadTiming v) free (inConfig_service service),
    fun config => ?_⟩
  have run := serve_eq (n := 7) (take := takeLoadTiming v) free (inConfig_config config)
  have permitted := permittedPeriod_spec v.framePeriod
  obtain ⟨five, asked, fits, least⟩ := effectivePeriodOf_spec s.cfg.frameLength permitted.1
  refine ⟨_, effectivePeriodOf (permittedPeriod v.framePeriod) s.cfg.frameLength, run, permitted,
    rfl, rfl, rfl, rfl, rfl, rfl, rfl, rfl, five, asked, fits, least, rfl, fun x => ?lines, rfl⟩
  case lines =>
    have unit : ((loadTimingSet (clampTiming v) s).bu.get x) = { s.bu.get x with
        code := (s.bu.get x).code.map fun c =>
          c.regap (clampTiming v).endGap s.tb.tickCount } :=
      PerLine.get_map _ _ x
    rw [State.holding_bu, unit]
    refine ⟨rfl, fun absent => by rw [absent]; rfl, fun c assembling => by rw [assembling]; rfl⟩

end Sys2Proof.Machine

/-! What the work on one lever and its route can touch: marks, its own lever, its own route, the Hold
Table, and attention records that it may latch but never clears. -/

namespace Sys2Proof.Machine

/-! ### The turn of one index in a pass -/

/-- A list of turns that each keep a relation keeps it. -/
theorem foldl_rel {σ ι : Type} {f : ι → σ → σ} {R : σ → σ → Prop} (refl : ∀ s, R s s)
    (trans : ∀ {a b c}, R a b → R b c → R a c) (l : List ι) (turns : ∀ j ∈ l, ∀ s, R s (f j s))
    (s : σ) : R s (l.foldl (fun s i => f i s) s) := by
  induction l generalizing s with
  | nil => exact refl s
  | cons j l ih =>
    exact trans (turns j List.mem_cons_self s)
      (ih (fun k m => turns k (List.mem_cons_of_mem j m)) _)

/-- In a pass whose other turns keep a relation, turn `i` finds a state related to the first one and
leaves one that the last is related to. -/
theorem forEach_turn {σ : Type} {n : Nat} {f : Fin n → σ → σ} {R : σ → σ → Prop}
    (refl : ∀ s, R s s) (trans : ∀ {a b c}, R a b → R b c → R a c) (i : Fin n)
    (others : ∀ j s, j ≠ i → R s (f j s)) (s : σ) :
    ∃ u, R s u ∧ R (f i u) (forEach n f s) := by
  obtain ⟨before, after, split⟩ := List.append_of_mem (List.mem_finRange i)
  have once := List.nodup_finRange n
  rw [split] at once
  have notBefore : ∀ j ∈ before, j ≠ i := fun j m e =>
    (List.disjoint_of_nodup_append once) (e ▸ m) List.mem_cons_self
  have notAfter : ∀ j ∈ after, j ≠ i := fun j m e =>
    (List.nodup_cons.mp once.of_append_right).1 (e ▸ m)
  refine ⟨_, foldl_rel refl trans before (fun j m s => others j s (notBefore j m)) s, ?_⟩
  rw [forEach, split, List.foldl_append, List.foldl_cons]
  exact foldl_rel refl trans after (fun j m s => others j s (notAfter j m)) _

/-- What an update of one entry keeps of an entry, it keeps of the table. -/
theorem tableUpdate_map_kept {α β : Type} {n : Nat} {g : α → β} {f : α → α} (v : Vector α n)
    (i : Fin n) (kept : ∀ r, g (f r) = g r) : (tableUpdate v i f).map g = v.map g := by
  ext k hk
  rw [Vector.getElem_map, Vector.getElem_map, tableUpdate_getElem]
  split
  · exact kept _
  · rfl

theorem State.updLever_own (s : State) (l : LeverId) (f : Lever → Lever) :
    (s.updLever l f).llu[l] = f s.llu[l] := tableUpdate_get_self _ _ _

/-! ### The relation -/

/-- A circuit with its occupation mark left out. -/
def Track.unmarked (r : Track) : Track := { r with mark := false }

/-- What the work on lever `l` and its route leaves alone: every circuit but for its mark, every other
lever and route, the tables, the bus, the device state and the time; and no source is cleared. -/
structure OwnWork (l : LeverId) (s t : State) : Prop where
  circuits : t.tcm.map Track.unmarked = s.tcm.map Track.unmarked
  levers : ∀ k, k ≠ l → t.llu[k] = s.llu[k]
  routes : ∀ k, k ≠ l → t.ru[k] = s.ru[k]
  pending : ∀ i : SourceId, s.au[i].pending = true → t.au[i].pending = true
  cfg : t.cfg = s.cfg
  sbc : t.sbc = s.sbc
  device : t.device = s.device
  tb : t.tb = s.tb

namespace OwnWork
variable {l : LeverId} {s t u : State}

theorem refl (l : LeverId) (s : State) : OwnWork l s s :=
  ⟨rfl, fun _ _ => rfl, fun _ _ => rfl, fun _ p => p, rfl, rfl, rfl, rfl⟩

theorem trans (a : OwnWork l s t) (b : OwnWork l t u) : OwnWork l s u where
  circuits := b.circuits.trans a.circuits
  levers k ne := (b.levers k ne).trans (a.levers k ne)
  routes k ne := (b.routes k ne).trans (a.routes k ne)
  pending i p := b.pending i (a.pending i p)
  cfg := b.cfg.trans a.cfg
  sbc := b.sbc.trans a.sbc
  device := b.device.trans a.device
  tb := b.tb.trans a.tb

/-! ### The writers -/

theorem updLever (h : OwnWork l s t) (f : Lever → Lever) : OwnWork l s (t.updLever l f) :=
  h.trans { refl l t with levers := fun _ ne => tableUpdate_get_ne _ _ ne }

theorem updRoute (h : OwnWork l s t) (f : Route → Route) : OwnWork l s (t.updRoute l f) :=
  h.trans { refl l t with routes := fun _ ne => tableUpdate_get_ne _ _ ne }

theorem latch (h : OwnWork l s t) (src : Source) (d : Detail) : OwnWork l s (latch src d t) :=
  h.trans { refl l t with
    pending := fun i p => by
      by_cases e : i = src.id
      · exact e ▸ (latch_latched src d t).pending
      · rw [(latch_latched src d t).others i e]; exact p }

theorem clearMark (h : OwnWork l s t) (c : TrackId) : OwnWork l s (clearMark c t) :=
  h.trans { refl l t with circuits := tableUpdate_map_kept _ _ fun _ => rfl }

theorem writeHolds (h : OwnWork l s t) (ht : Vector (Option Hold) 72) :
    OwnWork l s { t with ht := ht } :=
  h.trans { refl l t with }

theorem retireWhere (h : OwnWork l s t) (p : Hold → Bool) : OwnWork l s (retireWhere p t) :=
  h.writeHolds _

/-! ### Routes -/

theorem clearMarks (h : OwnWork l s t) (cs : List TrackId) : OwnWork l s (clearMarks cs t) := by
  unfold Machine.clearMarks
  induction cs generalizing t with
  | nil => exact h
  | cons c cs ih => exact ih (h.clearMark c)

theorem setRouteState (h : OwnWork l s t) (st : RouteState) : OwnWork l s (setRouteState l st t) :=
  h.updRoute _

theorem makeIdle (h : OwnWork l s t) : OwnWork l s (makeIdle l t) := (h.retireWhere _).updRoute _

theorem faultRoute (h : OwnWork l s t) (c : FaultCause) : OwnWork l s (faultRoute l c t) :=
  ((h.updRoute _).setRouteState _).latch _ _

theorem createGroup (h : OwnWork l s t) (es : List GroupEntry) (d : Detail) :
    OwnWork l s (createGroup es d t).2 := by
  rcases createGroup_cases es d t with ⟨-, e⟩ | ⟨-, -, e⟩ | ⟨-, -, e⟩ <;> rw [e]
  · exact h
  · exact h.writeHolds _
  · exact h.latch _ _

theorem routeRequest (h : OwnWork l s t) : OwnWork l s (routeRequest l t).2 := by
  have group := h.createGroup (routeGroup l t.cfg.routes[l]) (.lever l)
  unfold Machine.routeRequest
  split
  · exact h
  · split
    · exact h
    · split <;> (rename_i e; rw [e] at group)
      · exact ((group.updRoute _).clearMarks _).setRouteState _
      · exact group
      · exact group

theorem routeWithdrawn (h : OwnWork l s t) : OwnWork l s (routeWithdrawn l t) := by
  unfold Machine.routeWithdrawn
  split
  · exact h.makeIdle
  · exact h

theorem leftNormalGranted (h : OwnWork l s t) : OwnWork l s (leftNormalGranted l t) := by
  unfold Machine.leftNormalGranted
  split
  · exact h.setRouteState _
  · exact h

theorem escapeFromIdle (h : OwnWork l s t) : OwnWork l s (escapeFromIdle l t) := by
  have group := h.createGroup (routeGroup l t.cfg.routes[l]) (.lever l)
  unfold Machine.escapeFromIdle
  refine clearMarks ?_ _
  split
  · exact h.updRoute _
  · split <;> (rename_i e; rw [e] at group; exact group.updRoute _)

theorem routeEscape (h : OwnWork l s t) : OwnWork l s (routeEscape l t) := by
  unfold Machine.routeEscape
  refine ((updRoute ?_ _).latch _ _).setRouteState _
  split
  · exact h.escapeFromIdle
  · exact h.updRoute _

theorem releaseSection (h : OwnWork l s t) (c : TrackId) : OwnWork l s (releaseSection l c t) :=
  (((h.retireWhere _).updRoute _).clearMark _).updRoute _

theorem releaseSections (h : OwnWork l s t) (n : Nat) : OwnWork l s (releaseSections l n t) := by
  induction n generalizing t with
  | zero => exact h
  | succ n ih =>
    unfold Machine.releaseSections
    split
    · exact h.makeIdle
    · split
      · exact ih (h.releaseSection _)
      · exact h

theorem releasePass (h : OwnWork l s t) : OwnWork l s (releasePass l t) := by
  unfold Machine.releasePass
  split
  · dsimp only
    split
    · exact (h.releaseSections _).faultRoute _
    · exact h.releaseSections _
  · exact h

theorem startReleasing (h : OwnWork l s t) : OwnWork l s (startReleasing l t) :=
  ((h.updRoute _).setRouteState _).releasePass

theorem returnDecision (h : OwnWork l s t) : OwnWork l s (returnDecision l t) := by
  unfold Machine.returnDecision
  split
  · exact h.faultRoute _
  · split
    · exact h.startReleasing
    · split
      · exact (h.updRoute _).setRouteState _
      · exact h.makeIdle

theorem routeReturned (h : OwnWork l s t) : OwnWork l s (routeReturned l t) := by
  unfold Machine.routeReturned
  split
  · exact h.returnDecision
  · exact h

/-! ### Levers -/

theorem notice (h : OwnWork l s t) {f : State → State} (work : OwnWork l s (f t)) :
    OwnWork l s (notice f t) := by
  unfold Machine.notice
  split
  · exact work
  · exact h

theorem refuse (h : OwnWork l s t) (why : RefusalReason) : OwnWork l s (refuse l why t) := by
  unfold Machine.refuse
  dsimp only
  split
  · exact (h.updLever _).latch _ _
  · exact h.updLever _

theorem leverFault (h : OwnWork l s t) (f : LeverFault) : OwnWork l s (leverFault l f t) :=
  (h.updLever _).latch _ _

theorem giveGrant (h : OwnWork l s t) (p : EndPos) : OwnWork l s (giveGrant l p t) := h.updLever _

theorem askRoute (h : OwnWork l s t) (p : EndPos) : OwnWork l s (askRoute l p t) := by
  have asked := h.routeRequest
  unfold Machine.askRoute
  split
  · split <;> (rename_i e; rw [e] at asked)
    · exact asked.giveGrant p
    all_goals exact asked.refuse _
  · exact h.giveGrant p

theorem seekGrant (h : OwnWork l s t) (p : EndPos) : OwnWork l s (seekGrant l p t) := by
  unfold Machine.seekGrant
  split
  · exact h.refuse _
  · split
    · exact h.refuse _
    · split
      · exact h.refuse _
      · split
        · exact h.refuse _
        · exact h.askRoute p

theorem seekAtEnd (h : OwnWork l s t) : OwnWork l s (seekAtEnd l t) := by
  unfold Machine.seekAtEnd
  split
  · split
    · exact h.seekGrant _
    · exact h
  · exact h

theorem withdrawGrant (h : OwnWork l s t) (p : EndPos) : OwnWork l s (withdrawGrant l p t) := by
  unfold Machine.withdrawGrant
  dsimp only
  split
  · exact (h.updLever _).notice (h.updLever _).routeWithdrawn
  · exact h.updLever _

theorem withdrawFor (h : OwnWork l s t) (p : EndPos) (why : RefusalReason) :
    OwnWork l s (withdrawFor l p why t) :=
  ((h.refuse why).updLever _).withdrawGrant p

theorem retestGrant (h : OwnWork l s t) (p : EndPos) : OwnWork l s (retestGrant l p t) := by
  unfold Machine.retestGrant
  split
  · exact (h.updLever _).withdrawGrant p
  · split
    · exact h.withdrawFor p _
    · split
      · exact h.withdrawFor p _
      · exact h

theorem noticeReturned (h : OwnWork l s t) (e : EndPos) : OwnWork l s (noticeReturned l e t) := by
  unfold Machine.noticeReturned
  split
  · exact h.notice h.routeReturned
  · exact h

theorem arriveAt (h : OwnWork l s t) (p e : EndPos) : OwnWork l s (arriveAt l p e t) :=
  (h.updLever _).noticeReturned e

theorem beginStroke (h : OwnWork l s t) (p : EndPos) : OwnWork l s (beginStroke l p t) := by
  unfold Machine.beginStroke
  dsimp only
  split
  · exact (h.updLever _).notice (h.updLever _).leftNormalGranted
  · exact h.updLever _

theorem leaveOrigin (h : OwnWork l s t) (p : EndPos) : OwnWork l s (leaveOrigin l p t) := by
  unfold Machine.leaveOrigin
  split
  · exact (h.beginStroke p).arriveAt p _
  · exact h.beginStroke p

/-- R50: what an unreleased departure does once its fault is recorded. -/
theorem afterUnreleased {p : EndPos} (h : OwnWork l s (Machine.leverFault l .unreleased t)) :
    OwnWork l s (unreleasedDeparture l p t) := by
  have gripped : OwnWork l s (if t.gripped l then
      (Machine.leverFault l .unreleased t).updLever l fun r => { r with grip := .spent }
      else Machine.leverFault l .unreleased t) := by
    split
    · exact h.updLever _
    · exact h
  have escaped := gripped.notice gripped.routeEscape
  unfold Machine.unreleasedDeparture
  dsimp only
  split <;> split
  · exact escaped.noticeReturned _
  · exact gripped.noticeReturned _
  · exact escaped
  · exact gripped

theorem unreleasedDeparture (h : OwnWork l s t) (p : EndPos) :
    OwnWork l s (unreleasedDeparture l p t) :=
  (h.leverFault _).afterUnreleased

theorem contactEffect (h : OwnWork l s t) : OwnWork l s (contactEffect l t) := by
  unfold Machine.contactEffect
  split
  · dsimp only
    split
    · exact (h.updLever _).notice (h.updLever _).leftNormalGranted
    · exact h.updLever _
  · exact h.updLever _
  · split
    · exact h.notice h.routeEscape
    · exact h

theorem contactFault (h : OwnWork l s t) : OwnWork l s (contactFault l t) := by
  unfold Machine.contactFault
  split
  · exact h
  · exact (h.leverFault _).contactEffect

theorem judgeNotGranted (h : OwnWork l s t) (m : Continuity) :
    OwnWork l s (judgeNotGranted m l t) := by
  unfold Machine.judgeNotGranted
  split
  · exact h.unreleasedDeparture _
  · refine seekAtEnd ?_
    split
    · exact h.noticeReturned _
    · exact h

theorem judgeLever (h : OwnWork l s t) (m : Continuity) : OwnWork l s (judgeLever m l t) := by
  unfold Machine.judgeLever
  split
  · split
    · exact h
    · exact h.contactFault
  · split
    · split
      · exact h.retestGrant _
      · exact h.leaveOrigin _
    · split
      · exact h.arriveAt _ _
      · exact h
    · exact h.judgeNotGranted m

end OwnWork

/-! ### The turns of the lever part -/

section
variable (l : LeverId) (s : State)

theorem evaluateLever_ownWork (m : Continuity) : OwnWork l s (evaluateLever m l s) := by
  unfold evaluateLever
  split
  · refine (OwnWork.judgeLever ?_ m).updLever _
    split
    · exact .refl l s
    · exact (OwnWork.refl l s).updLever _
  · exact .refl l s

theorem closingCheck_ownWork : OwnWork l s (closingCheck l s) := by
  unfold closingCheck
  split
  · split
    · exact (OwnWork.refl l s).withdrawFor _ _
    · exact .refl l s
  · exact .refl l s
  · exact .refl l s

theorem restoreRelease_ownWork : OwnWork l s (restoreRelease l s) := by
  unfold restoreRelease
  split
  · exact (OwnWork.refl l s).updLever _
  · exact .refl l s

theorem restoreDeparture_ownWork : OwnWork l s (restoreDeparture l s) := by
  unfold restoreDeparture
  split
  · split
    · exact (OwnWork.refl l s).unreleasedDeparture _
    · exact .refl l s
  · exact .refl l s

theorem restoreUnseen_ownWork : OwnWork l s (restoreUnseen l s) := by
  unfold restoreUnseen
  split
  · exact (OwnWork.refl l s).updLever _
  · exact .refl l s

theorem restoreContacts_ownWork : OwnWork l s (restoreContacts l s) := by
  unfold restoreContacts
  split
  · exact (OwnWork.refl l s).contactFault
  · exact .refl l s

theorem restoreReturned_ownWork : OwnWork l s (restoreReturned l s) := by
  unfold restoreReturned
  split
  · exact (OwnWork.refl l s).notice (OwnWork.refl l s).routeReturned
  · exact .refl l s

theorem releasePass_ownWork : OwnWork l s (releasePass l s) := (OwnWork.refl l s).releasePass

end

/-! ### A pass over the levers -/

/-- What passes over the levers leave alone whatever their turns do: every circuit but for its mark, the
tables, the bus, the device state and the time; and no source is cleared. -/
structure PassWork (s t : State) : Prop where
  circuits : t.tcm.map Track.unmarked = s.tcm.map Track.unmarked
  pending : ∀ i : SourceId, s.au[i].pending = true → t.au[i].pending = true
  cfg : t.cfg = s.cfg
  sbc : t.sbc = s.sbc
  device : t.device = s.device
  tb : t.tb = s.tb

theorem PassWork.refl (s : State) : PassWork s s := ⟨rfl, fun _ p => p, rfl, rfl, rfl, rfl⟩

theorem PassWork.trans {s t u : State} (a : PassWork s t) (b : PassWork t u) : PassWork s u where
  circuits := b.circuits.trans a.circuits
  pending i p := b.pending i (a.pending i p)
  cfg := b.cfg.trans a.cfg
  sbc := b.sbc.trans a.sbc
  device := b.device.trans a.device
  tb := b.tb.trans a.tb

theorem OwnWork.passWork {l : LeverId} {s t : State} (h : OwnWork l s t) : PassWork s t :=
  ⟨h.circuits, h.pending, h.cfg, h.sbc, h.device, h.tb⟩

/-- What the turns of the other levers leave alone of lever `l`. -/
structure Spared (l : LeverId) (s t : State) : Prop where
  lever : t.llu[l] = s.llu[l]
  route : t.ru[l] = s.ru[l]
  pending : ∀ i : SourceId, s.au[i].pending = true → t.au[i].pending = true
  cfg : t.cfg = s.cfg
  sbc : t.sbc = s.sbc
  device : t.device = s.device
  tb : t.tb = s.tb

theorem Spared.refl (l : LeverId) (s : State) : Spared l s s :=
  ⟨rfl, rfl, fun _ p => p, rfl, rfl, rfl, rfl⟩

theorem Spared.trans {l : LeverId} {s t u : State} (a : Spared l s t) (b : Spared l t u) :
    Spared l s u where
  lever := b.lever.trans a.lever
  route := b.route.trans a.route
  pending i p := b.pending i (a.pending i p)
  cfg := b.cfg.trans a.cfg
  sbc := b.sbc.trans a.sbc
  device := b.device.trans a.device
  tb := b.tb.trans a.tb

theorem OwnWork.spared {k l : LeverId} {s t : State} (h : OwnWork k s t) (ne : l ≠ k) :
    Spared l s t :=
  ⟨h.levers l ne, h.routes l ne, h.pending, h.cfg, h.sbc, h.device, h.tb⟩

section
variable {f : LeverId → State → State} (work : ∀ l s, OwnWork l s (f l s)) (s : State)
include work

theorem forEach_passWork : PassWork s (forEach 40 f s) :=
  forEach_keeps (P := PassWork s) (fun l t kept => kept.trans (work l t).passWork) s (.refl s)

/-- In a pass over the levers, lever `l` is worked on at its own turn only. -/
theorem forEach_lever_turn (l : LeverId) :
    ∃ u, Spared l s u ∧ Spared l (f l u) (forEach 40 f s) :=
  forEach_turn (Spared.refl l) Spared.trans l (fun k s ne => (work k s).spared (Ne.symm ne)) s

end

end Sys2Proof.Machine

/-! The track part of an arrival: the circuits, the neighbour check with its latch, the lamps, and the
occupation events. -/

namespace Sys2Proof.Machine

/-! ### One circuit -/

section
variable (r : Track) (delay : Nat) (up : Bool) (clock : Clock)

/-- R22: the state column of the table. -/
theorem Track.step_state : (r.step delay up clock).state = match r.state, up with
    | .clear, true => .clear
    | _, true => .pickupTiming
    | _, false => .occupied := by
  unfold Track.step
  cases state : r.state <;> cases up <;> simp [Track.enters, state]

/-- R23: the pickup timer in the table's rows. -/
theorem Track.step_timer : (r.step delay up clock).timer = match r.state, up with
    | .unknown, true => some delay
    | .occupied, true => some delay
    | .pickupTiming, false => none
    | _, _ => r.timer := by
  unfold Track.step
  cases r.state <;> cases up <;> rfl

/-- R28: the table sets no fault flag. -/
theorem Track.step_fault : (r.step delay up clock).fault = r.fault := by
  unfold Track.step
  split <;> rfl

/-- R25: the table sets the mark of a circuit that drops, and no other. -/
theorem Track.step_mark : (r.step delay up clock).mark =
    (r.mark || decide (r.state = .clear ∧ (r.step delay up clock).state = .occupied)) := by
  rw [Track.step_state]
  unfold Track.step
  cases r.state <;> cases up <;> simp [Track.enters]

end

/-! ### The neighbour check -/

/-- R27: spontaneous in the words of the rule. -/
theorem spontaneous_iff {s : State} {c : TrackId} : s.spontaneous c = true ↔
    s.cfg.tracks[c].neighbours ≠ [] ∧
      ∀ n ∈ s.cfg.tracks[c].neighbours, s.tcm[n].state = .clear ∨ s.tcm[n].state = .unknown := by
  have beside (st : TrackState) : (!st.besideOccupied) = true ↔ st = .clear ∨ st = .unknown := by
    cases st <;> simp [TrackState.besideOccupied]
  simp only [State.spontaneous, Bool.and_eq_true, List.all_eq_true, beside, Bool.not_eq_true',
    List.isEmpty_eq_false_iff]

/-- R28: the neighbour check sets the fault flag of every spontaneous occupation, and no more of any
circuit. -/
theorem neighbourChecks_circuit (before s : State) (c : TrackId) :
    (neighbourChecks before s).tcm[c] = { s.tcm[c] with
      fault := s.tcm[c].fault || (dropped before s c && s.spontaneous c) } := by
  refine forEach_entry (fun i u => u.tcm[i]) (fun _ => ()) (fun i r _ => { r with
    fault := r.fault || (dropped before s i && s.spontaneous i) }) (fun i u => ?own)
    (fun i j u ne => ?others) (fun _ _ => rfl) s c
  case own =>
    split
    · next fault =>
      simp only [setTrackFault, latch_frame, State.updTrack_tcm, tableUpdate_get_self, fault,
        Bool.or_true]
    · next sound => simp only [Bool.eq_false_of_not_eq_true sound, Bool.or_false]
  case others =>
    split
    · simp only [setTrackFault, latch_frame, State.updTrack_tcm]
      exact tableUpdate_get_ne _ _ ne
    · rfl

/-- The neighbour check writes no attention record but that of TRACK_FAULT. -/
theorem neighbourChecks_otherSource (before s : State) {i : SourceId}
    (ne : i ≠ Source.id .trackFault) : (neighbourChecks before s).au[i] = s.au[i] :=
  forEach_field (fun u => u.au[i]) (fun c u => by
    split
    · exact (latch_latched .trackFault (.circuit c) _).others i ne
    · rfl) s

/-- With no spontaneous occupation the neighbour check latches nothing. -/
theorem neighbourChecks_quiet {before s : State}
    (none : ∀ c, (dropped before s c && s.spontaneous c) = false) :
    (neighbourChecks before s).au = s.au :=
  forEach_field State.au (fun c u => by rw [none c]; rfl) s

/-- R168: a record in which each circuit of a list that fails a check is latched in turn. -/
def SourceRecord.latchCircuits (fails : TrackId → Bool) (cs : List TrackId) (r : SourceRecord) :
    SourceRecord :=
  cs.foldl (fun r c => if fails c then r.latch (.circuit c) else r) r

section
variable {fails : TrackId → Bool} (cs : List TrackId) (r : SourceRecord)

/-- Latching never clears a record, and leaves its enable and its priority. -/
theorem SourceRecord.latchCircuits_kept :
    (r.latchCircuits fails cs).pending = (r.pending || cs.any fails) ∧
    (r.latchCircuits fails cs).enabled = r.enabled ∧
    (r.latchCircuits fails cs).priority = r.priority := by
  induction cs generalizing r with
  | nil => simp [latchCircuits]
  | cons c cs ih =>
    have rest := ih (if fails c then r.latch (.circuit c) else r)
    simp only [latchCircuits, List.foldl_cons, List.any_cons] at rest ⊢
    rw [rest.1, rest.2.1, rest.2.2]
    cases fails c <;> simp [SourceRecord.latch]

/-- With none that fails, nothing is latched. -/
theorem SourceRecord.latchCircuits_none (pass : ∀ c ∈ cs, fails c = false) :
    r.latchCircuits fails cs = r := by
  unfold latchCircuits
  induction cs with
  | nil => rfl
  | cons c cs ih =>
    rw [List.foldl_cons, pass c List.mem_cons_self, if_neg Bool.false_ne_true]
    exact ih fun d m => pass d (List.mem_cons_of_mem c m)

/-- R168: the last circuit that fails is the detail left, and MULTIPLE tells whether the source was
pending or another circuit failed before it. -/
theorem SourceRecord.latchCircuits_last (before after : List TrackId) {c : TrackId}
    (last : fails c = true) (pass : ∀ d ∈ after, fails d = false) :
    r.latchCircuits fails (before ++ c :: after) = { r with
      pending := true, detail := some (.circuit c), multiple := r.pending || before.any fails } := by
  obtain ⟨pending, enabled, priority⟩ := latchCircuits_kept (fails := fails) before r
  have split : r.latchCircuits fails (before ++ c :: after) =
      ((r.latchCircuits fails before).latch (.circuit c)).latchCircuits fails after := by
    simp only [latchCircuits, List.foldl_append, List.foldl_cons, last, if_true]
  rw [split, latchCircuits_none _ _ pass, SourceRecord.latch, pending, enabled, priority]

end

/-- R28: the neighbour check latches TRACK_FAULT for each spontaneous occupation in ascending order. -/
theorem neighbourChecks_trackFault (before s : State) :
    (neighbourChecks before s).au[Source.id .trackFault] =
      s.au[Source.id .trackFault].latchCircuits
        (fun c => dropped before s c && s.spontaneous c) (List.finRange 32) := by
  refine (List.foldl_hom (fun u : State => u.au[Source.id .trackFault]) fun u c => ?_).symm
  dsimp only
  by_cases fault : (dropped before s c && s.spontaneous c) = true
  · simp only [if_pos fault, setTrackFault, latch, State.updSource_au, State.updTrack_au,
      tableUpdate_get_self]
  · simp only [if_neg fault]

/-- R28, R168: TRACK_FAULT after a neighbour check whose highest-numbered spontaneous occupation is that
of circuit `c`. -/
theorem neighbourChecks_highest {before s : State} {c : TrackId}
    (fault : (dropped before s c && s.spontaneous c) = true)
    (highest : ∀ d : TrackId, c.val < d.val → (dropped before s d && s.spontaneous d) = false) :
    ∃ multiple, (neighbourChecks before s).au[Source.id .trackFault] =
      { s.au[Source.id .trackFault] with
        pending := true, detail := some (.circuit c), multiple := multiple } ∧
      (multiple = true ↔ s.au[Source.id .trackFault].pending = true ∨
        ∃ d, d ≠ c ∧ (dropped before s d && s.spontaneous d) = true) := by
  obtain ⟨lower, higher, split⟩ := List.append_of_mem (List.mem_finRange c)
  have ascending := List.pairwise_lt_finRange 32
  rw [split, List.pairwise_append, List.pairwise_cons] at ascending
  obtain ⟨-, ⟨above, -⟩, below⟩ := ascending
  refine ⟨s.au[Source.id .trackFault].pending ||
    lower.any fun d => dropped before s d && s.spontaneous d, ?record, ?multiple⟩
  case record =>
    rw [neighbourChecks_trackFault, split]
    exact SourceRecord.latchCircuits_last _ _ _ fault fun d m => highest d (above d m)
  case multiple =>
    rw [Bool.or_eq_true, List.any_eq_true]
    refine or_congr_right ⟨fun ⟨d, m, h⟩ => ⟨d, ?_, h⟩, fun ⟨d, ne, h⟩ => ⟨d, ?_, h⟩⟩
    · exact Fin.ne_of_lt (below d m c List.mem_cons_self)
    · have listed : d ∈ lower ++ c :: higher := split ▸ List.mem_finRange d
      rcases List.mem_append.mp listed with m | m
      · exact m
      · rcases List.mem_cons.mp m with e | m
        · exact absurd e ne
        · exact absurd h (by rw [highest d (above d m)]; simp)

/-! ### The circuits before the events -/

/-- The track part up to the occupation events: every circuit moved, checked and shown (R22, R27 to
R29). -/
def tracked (s : State) : State := writeLamps (neighbourChecks s (stepCircuits s))

theorem takeTrackPart_eq (s : State) :
    takeTrackPart s = occupationEvents s (stepCircuits s) (tracked s) := rfl

section
variable (s : State)

/-- R22: a configured circuit moves by the table; any other stands. -/
theorem stepCircuits_circuit (c : TrackId) : (stepCircuits s).tcm[c] =
    if s.cfg.tracks[c].configured then
      s.tcm[c].step s.cfg.tracks[c].delay s.sbc.input.tracks[c] s.tb.clock
    else s.tcm[c] :=
  tabulate_get _ c

/-- R27, R28: the check after the table adds a fault flag to a circuit. -/
theorem tracked_circuit (c : TrackId) : (tracked s).tcm[c] = { (stepCircuits s).tcm[c] with
    fault := (stepCircuits s).tcm[c].fault ||
      (dropped s (stepCircuits s) c && (stepCircuits s).spontaneous c) } := by
  have check := neighbourChecks_circuit s (stepCircuits s) c
  simpa [-Fin.getElem_fin, tracked] using check

/-- R29: a configured circuit's lamp shows its state; any other lamp bit stands. -/
theorem tracked_lamp (c : TrackId) : (tracked s).sbc.lamps[c] =
    if s.cfg.tracks[c].configured then decide ((tracked s).tcm[c].state ≠ .clear)
    else s.sbc.lamps[c] := by
  have lamp (st : TrackState) : st.lamp = decide (st ≠ .clear) := by cases st <;> rfl
  have written : (tracked s).sbc.lamps[c] =
      if (neighbourChecks s (stepCircuits s)).cfg.tracks[c].configured then
        (neighbourChecks s (stepCircuits s)).tcm[c].state.lamp
      else (neighbourChecks s (stepCircuits s)).sbc.lamps[c] := tabulate_get _ c
  simpa [-Fin.getElem_fin, lamp, tracked] using written

/-- Before its events the track part writes circuits, lamps and attention records only. -/
theorem tracked_frame : { tracked s with tcm := s.tcm, sbc := s.sbc, au := s.au } = s := by
  simp only [tracked, writeLamps_frame, neighbourChecks_frame, stepCircuits_frame]

end

/-! ### The occupation events -/

/-- R89: an occupation event works on the routes it concerns, each in its turn. -/
theorem routeOccupation_turn (c : TrackId) (l : LeverId) (s : State) : OwnWork l s
    (if s.ru[l].state = .approachLocked ∧ s.cfg.routes[l].circuits.head? = some c then
      startReleasing l s else s) := by
  split
  · exact (OwnWork.refl l s).startReleasing
  · exact .refl l s

/-- R89: an occupation event touches no more of a circuit than its mark. -/
theorem routeOccupation_circuits (c : TrackId) (s : State) :
    (routeOccupation c s).tcm.map Track.unmarked = s.tcm.map Track.unmarked :=
  (forEach_passWork (routeOccupation_turn c) s).circuits

/-- R89: an occupation event changes no route that is RELEASING. -/
theorem routeOccupation_releasing (c : TrackId) {l : LeverId} {s : State}
    (releasing : s.ru[l].state = .releasing) : (routeOccupation c s).ru[l] = s.ru[l] := by
  obtain ⟨u, before, after⟩ := forEach_lever_turn (routeOccupation_turn c) s l
  have idle : ¬(u.ru[l].state = .approachLocked ∧ u.cfg.routes[l].circuits.head? = some c) := by
    rw [before.route, releasing]
    simp
  have own := after.route
  rw [if_neg idle, before.route] at own
  exact own

section
variable (before after s : State)

/-- R32: the occupation events touch no more of a circuit than its mark. -/
theorem occupationEvents_circuits :
    (occupationEvents before after s).tcm.map Track.unmarked = s.tcm.map Track.unmarked := by
  unfold occupationEvents
  split
  · refine forEach_field (fun u : State => u.tcm.map Track.unmarked) (fun c u => ?_) s
    split
    · simp only [trainOccupation_frame, routeOccupation_circuits]
    · rfl
  · rfl

/-- R32, R89: the occupation events change no route that is RELEASING. -/
theorem occupationEvents_releasing {l : LeverId} (releasing : s.ru[l].state = .releasing) :
    (occupationEvents before after s).ru[l] = s.ru[l] := by
  unfold occupationEvents
  split
  · refine forEach_keeps (P := fun u => u.ru[l] = s.ru[l]) (fun c u kept => ?_) s rfl
    split
    · simp only [trainOccupation_frame]
      rw [routeOccupation_releasing c (kept ▸ releasing), kept]
    · exact kept
  · rfl

end

end Sys2Proof.Machine

/-! The lever part of an arrival, lever by lever: the steps of a RESTORED arrival, an evaluation that
judges no departure, and the closing check with the holds. -/

namespace Sys2Proof.Machine

/-! ### What the other levers' turns leave to read -/

section
variable {l : LeverId} {s t : State} (h : Spared l s t)
include h

theorem Spared.decoded : t.decoded l = s.decoded l := by
  simp only [State.decoded, State.recorded, h.cfg, h.sbc, h.lever]

theorem Spared.gripped : t.gripped l = s.gripped l := by
  simp only [State.gripped, h.sbc]

theorem Spared.departs (m : Continuity) : departs m l t = departs m l s := by
  simp only [Machine.departs, h.device, h.decoded, State.recorded, h.lever]

end

/-! ### The routes of a RESTORED arrival -/

/-- R94, R98: a route sent to SEQUENCE_FAULT with its cause. -/
theorem faultRoute_route (l : LeverId) (cause : FaultCause) (s : State) :
    (faultRoute l cause s).ru[l] = { s.ru[l] with
      state := .sequenceFault, cause := some cause, changed := s.tb.clock } := by
  simp [faultRoute, setRouteState]

/-- R98: the turn of one route in the restore notice. -/
theorem restoreNotice_turn (l : LeverId) (s : State) : OwnWork l s
    (if s.ru[l].state = .releasing then faultRoute l .scanLoss s else s) := by
  split
  · exact (OwnWork.refl l s).faultRoute _
  · exact .refl l s

theorem restoreNotice_passWork (s : State) : PassWork s (restoreNotice s) :=
  forEach_passWork restoreNotice_turn s

/-- R98: the restore notice sends a RELEASING route to SEQUENCE_FAULT and latches ROUTE. -/
theorem restoreNotice_releasing {l : LeverId} {s : State} (releasing : s.ru[l].state = .releasing) :
    (restoreNotice s).ru[l] = { s.ru[l] with
      state := .sequenceFault, cause := some .scanLoss, changed := s.tb.clock } ∧
    (restoreNotice s).au[Source.id .route].pending = true := by
  obtain ⟨u, before, after⟩ := forEach_lever_turn restoreNotice_turn s l
  have turn : u.ru[l].state = .releasing := before.route ▸ releasing
  rw [if_pos turn] at after
  constructor
  · refine after.route.trans ?_
    rw [faultRoute_route, before.route, before.tb]
  · exact after.pending _ (latch_latched .route (.lever l) _).pending

/-- R87: a returned notice changes nothing but in a SET route. -/
theorem routeReturned_of_not_set {l : LeverId} {s : State} (other : s.ru[l].state ≠ .set) :
    routeReturned l s = s :=
  if_neg other

/-- A notice that changes nothing changes nothing. -/
theorem notice_of_fixed {f : State → State} {s : State} (fixed : f s = s) : notice f s = s := by
  unfold notice
  split
  · exact fixed
  · rfl

theorem noticeReturned_of_not_set {l : LeverId} {e : EndPos} {s : State}
    (other : s.ru[l].state ≠ .set) : noticeReturned l e s = s := by
  unfold noticeReturned
  split
  · exact notice_of_fixed (routeReturned_of_not_set other)
  · rfl

/-! ### The steps of a RESTORED arrival -/

/-- R57 step 1: the record of a configured lever. -/
def Lever.afterLoss (r : Lever) (gripped : Bool) : Lever :=
  { r with
    release := .notGranted
    strokeTimer := none
    reported := false
    grip := if gripped then .seeking else .free }

section
variable {l : LeverId} {s : State}

theorem restoreReleasePass_lever (conf : s.cfg.levers[l].configured = true) :
    (forEach 40 restoreRelease s).llu[l] = s.llu[l].afterLoss (s.gripped l) := by
  obtain ⟨u, before, after⟩ := forEach_lever_turn restoreRelease_ownWork s l
  refine after.lever.trans ?_
  rw [restoreRelease, before.cfg, if_pos conf, State.updLever_own, before.lever, before.gripped]
  rfl

/-- R50: the record of a lever that departs unreleased. -/
theorem unreleasedDeparture_lever (p : EndPos) : (unreleasedDeparture l p s).llu[l] =
    { s.llu[l] with
      lastFault := some (.unreleased, s.tb.clock)
      grip := if s.gripped l then .spent else s.llu[l].grip } := by
  have recorded : (if s.gripped l then
      (leverFault l .unreleased s).updLever l fun r => { r with grip := .spent }
      else leverFault l .unreleased s).llu[l] =
      { s.llu[l] with
        lastFault := some (.unreleased, s.tb.clock)
        grip := if s.gripped l then .spent else s.llu[l].grip } := by
    by_cases gripped : s.gripped l = true <;>
      simp [-Fin.getElem_fin, leverFault, gripped, tableUpdate_get]
  rw [← recorded]
  unfold unreleasedDeparture notice
  dsimp only
  (repeat' split) <;> simp only [noticeReturned_frame, routeEscape_frame]

/-- R50: an unreleased departure latches LEVER_FAULT. -/
theorem unreleasedDeparture_latches (p : EndPos) :
    (unreleasedDeparture l p s).au[Source.id .leverFault].pending = true :=
  (OwnWork.refl l _).afterUnreleased.pending _ (latch_latched .leverFault (.lever l) _).pending

/-- R57 step 2: a lever that departed during the loss. -/
theorem restoreDeparturePass_departs {p : EndPos} (conf : s.cfg.levers[l].configured = true)
    (seen : s.llu[l].unseen = false) (agree : s.decoded l ≠ .contradictory)
    (gone : departs .continuous l s = some p) :
    (forEach 40 restoreDeparture s).llu[l] = { s.llu[l] with
      lastFault := some (.unreleased, s.tb.clock)
      grip := if s.gripped l then .spent else s.llu[l].grip } ∧
    (forEach 40 restoreDeparture s).au[Source.id .leverFault].pending = true := by
  obtain ⟨u, before, after⟩ := forEach_lever_turn restoreDeparture_ownWork s l
  have turn : restoreDeparture l u = unreleasedDeparture l p u := by
    simp [-Fin.getElem_fin, restoreDeparture, before.cfg, conf, before.lever, seen, before.decoded,
      agree, before.departs, gone]
  rw [turn] at after
  constructor
  · refine after.lever.trans ?_
    rw [unreleasedDeparture_lever, before.lever, before.tb, before.gripped]
  · exact after.pending _ (unreleasedDeparture_latches p)

/-- R57 step 2: a lever that was not seen before the loss, or that stands where it stood. -/
theorem restoreDeparturePass_stays
    (stays : s.llu[l].unseen = true ∨ s.decoded l = .contradictory ∨
      departs .continuous l s = none) :
    Spared l s (forEach 40 restoreDeparture s) := by
  obtain ⟨u, before, after⟩ := forEach_lever_turn restoreDeparture_ownWork s l
  have turn : restoreDeparture l u = u := by
    unfold restoreDeparture
    rw [before.lever, before.decoded, before.departs]
    rcases stays with h | h | h <;> simp [-Fin.getElem_fin, h]
  rw [turn] at after
  exact before.trans after

/-- R57 step 3: the record of a configured lever. -/
theorem restoreUnseenPass_lever (conf : s.cfg.levers[l].configured = true) :
    (forEach 40 restoreUnseen s).llu[l] = if s.llu[l].unseen then
      { s.llu[l] with position := s.decoded l, unseen := false } else s.llu[l] := by
  obtain ⟨u, before, after⟩ := forEach_lever_turn restoreUnseen_ownWork s l
  refine after.lever.trans ?_
  unfold restoreUnseen
  rw [before.cfg, conf, Bool.true_and, before.lever, before.decoded]
  split
  · exact (State.updLever_own _ _ _).trans (by rw [before.lever])
  · exact before.lever

/-- R51: a contact fault of a NOT_GRANTED lever has no effect on levers. -/
theorem contactEffect_llu (still : s.llu[l].release = .notGranted) :
    (contactEffect l s).llu = s.llu := by
  unfold contactEffect notice
  rw [still]
  dsimp only
  (repeat' split) <;> simp

/-- R51: the record of a NOT_GRANTED lever with a contact fault. -/
theorem contactFault_lever (still : s.llu[l].release = .notGranted)
    (new : s.recorded l ≠ .contradictory) : (contactFault l s).llu[l] =
      { s.llu[l] with lastFault := some (.contradictory, s.tb.clock) } := by
  have faulted : (leverFault l .contradictory s).llu[l] =
      { s.llu[l] with lastFault := some (.contradictory, s.tb.clock) } := by
    simp only [leverFault, latch_frame, State.updLever_own]
  have stays : (leverFault l .contradictory s).llu[l].release = .notGranted := by
    rw [faulted]
    exact still
  rw [contactFault, if_neg new]
  simp only [contactEffect_llu stays, faulted]

/-- R57 step 4: a configured lever whose contacts agree, or that stood CONTRADICTORY before. -/
theorem restoreContactsPass_agrees
    (agree : s.decoded l ≠ .contradictory ∨ s.recorded l = .contradictory) :
    Spared l s (forEach 40 restoreContacts s) := by
  obtain ⟨u, before, after⟩ := forEach_lever_turn restoreContacts_ownWork s l
  have recorded : u.recorded l = s.recorded l := by rw [State.recorded, before.lever]; rfl
  have turn : restoreContacts l u = u := by
    unfold restoreContacts contactFault
    rw [before.decoded, recorded]
    rcases agree with h | h <;> simp [h]
  rw [turn] at after
  exact before.trans after

/-- R57 step 4: a contact fault leaves a NOT_GRANTED lever NOT_GRANTED, and as unseen as it was. -/
theorem restoreContactsPass_lever (still : s.llu[l].release = .notGranted) :
    (forEach 40 restoreContacts s).llu[l].release = .notGranted ∧
    (forEach 40 restoreContacts s).llu[l].unseen = s.llu[l].unseen := by
  obtain ⟨u, before, after⟩ := forEach_lever_turn restoreContacts_ownWork s l
  rw [after.lever]
  unfold restoreContacts
  split
  · by_cases new : u.recorded l = .contradictory
    · rw [contactFault, if_pos new, before.lever]
      exact ⟨still, rfl⟩
    · rw [contactFault_lever (before.lever ▸ still) new, before.lever]
      exact ⟨still, rfl⟩
  · rw [before.lever]
    exact ⟨still, rfl⟩

/-- R57 step 5: a route that is not SET is left alone. -/
theorem restoreReturnedPass_other (other : s.ru[l].state ≠ .set) :
    Spared l s (forEach 40 restoreReturned s) := by
  obtain ⟨u, before, after⟩ := forEach_lever_turn restoreReturned_ownWork s l
  have turn : restoreReturned l u = u := by
    simp [-Fin.getElem_fin, restoreReturned, before.route, other]
  rw [turn] at after
  exact before.trans after

end

/-- R57 step 2 leaves the release state and the unseen flag. -/
theorem restoreDeparturePass_lever {l : LeverId} {s : State}
    (conf : s.cfg.levers[l].configured = true) :
    (forEach 40 restoreDeparture s).llu[l].release = s.llu[l].release ∧
    (forEach 40 restoreDeparture s).llu[l].unseen = s.llu[l].unseen := by
  by_cases stays : s.llu[l].unseen = true ∨ s.decoded l = .contradictory ∨
      departs .continuous l s = none
  · rw [(restoreDeparturePass_stays stays).lever]
    exact ⟨rfl, rfl⟩
  · simp only [not_or, Bool.not_eq_true] at stays
    obtain ⟨seen, agree, gone⟩ := stays
    obtain ⟨p, gone⟩ := Option.ne_none_iff_exists'.mp gone
    rw [(restoreDeparturePass_departs conf seen agree gone).1]
    exact ⟨rfl, rfl⟩

/-! ### The stages of a RESTORED arrival -/

section
variable (s : State)

/-- R57, after the restore notice and step 1. -/
def restoredReleased : State := forEach 40 restoreRelease (notice restoreNotice s)
/-- R57, after step 2. -/
def restoredDeparted : State := forEach 40 restoreDeparture (restoredReleased s)
/-- R57, after step 3. -/
def restoredSeen : State := forEach 40 restoreUnseen (restoredDeparted s)
/-- R57, after step 4. -/
def restoredJudged : State := forEach 40 restoreContacts (restoredSeen s)

theorem restoredSteps_eq : restoredSteps s = forEach 40 restoreReturned (restoredJudged s) := rfl

theorem noticeRestore_passWork : PassWork s (notice restoreNotice s) := by
  unfold notice
  split
  · exact restoreNotice_passWork s
  · exact .refl s

theorem restoredReleased_passWork : PassWork s (restoredReleased s) :=
  (noticeRestore_passWork s).trans (forEach_passWork restoreRelease_ownWork _)

theorem restoredDeparted_passWork : PassWork s (restoredDeparted s) :=
  (restoredReleased_passWork s).trans (forEach_passWork restoreDeparture_ownWork _)

theorem restoredSeen_passWork : PassWork s (restoredSeen s) :=
  (restoredDeparted_passWork s).trans (forEach_passWork restoreUnseen_ownWork _)

theorem restoredJudged_passWork : PassWork s (restoredJudged s) :=
  (restoredSeen_passWork s).trans (forEach_passWork restoreContacts_ownWork _)

theorem restoredSteps_passWork : PassWork s (restoredSteps s) :=
  (restoredJudged_passWork s).trans (forEach_passWork restoreReturned_ownWork _)

theorem restoredSteps_llu : (restoredSteps s).llu = (restoredJudged s).llu := by
  simp only [restoredSteps_eq, restoreReturnedPass_frame]

end

section
variable {l : LeverId} {s t : State} (h : PassWork s t)
include h

theorem PassWork.gripped : t.gripped l = s.gripped l := by
  simp only [State.gripped, h.sbc]

theorem PassWork.decoded (conf : s.cfg.levers[l].configured = true) :
    t.decoded l = s.decoded l := by
  rw [State.decoded, State.decoded, h.cfg, h.sbc, if_pos conf, if_pos conf]

theorem PassWork.conf (conf : s.cfg.levers[l].configured = true) :
    t.cfg.levers[l].configured = true := by
  rw [h.cfg]
  exact conf

end

section
variable {l : LeverId} {s : State} (conf : s.cfg.levers[l].configured = true)
include conf

/-- R57 step 1: a configured lever's record. -/
theorem restoredReleased_lever :
    (restoredReleased s).llu[l] = s.llu[l].afterLoss (s.gripped l) := by
  have kept : (notice restoreNotice s).llu = s.llu := by
    unfold notice
    split <;> simp
  rw [restoredReleased, restoreReleasePass_lever ((noticeRestore_passWork s).conf conf),
    (noticeRestore_passWork s).gripped]
  simp only [kept]

/-- R57: after the steps a configured lever is seen and NOT_GRANTED. -/
theorem restoredSteps_lever :
    (restoredSteps s).llu[l].release = .notGranted ∧ (restoredSteps s).llu[l].unseen = false := by
  have still : (restoredDeparted s).llu[l].release = .notGranted := by
    rw [restoredDeparted, (restoreDeparturePass_lever ((restoredReleased_passWork s).conf conf)).1,
      restoredReleased_lever conf]
    rfl
  have seen := restoreUnseenPass_lever ((restoredDeparted_passWork s).conf conf)
  have judged : (restoredSeen s).llu[l].release = .notGranted ∧
      (restoredSeen s).llu[l].unseen = false := by
    rw [restoredSeen, seen]
    split
    · simp only [still, and_self]
    · next unset => exact ⟨still, Bool.eq_false_of_not_eq_true unset⟩
  have contacts := restoreContactsPass_lever judged.1
  rw [← restoredJudged] at contacts
  simp only [restoredSteps_llu]
  exact ⟨contacts.1, contacts.2.trans judged.2⟩

/-- R57 step 3: a lever that was not seen keeps its last fault. -/
theorem restoredSteps_unseen (unseen : s.llu[l].unseen = true) :
    (restoredSteps s).llu[l].lastFault = s.llu[l].lastFault := by
  have hidden : (restoredReleased s).llu[l].unseen = true := by
    rw [restoredReleased_lever conf]
    exact unseen
  have departed : (restoredDeparted s).llu[l] = s.llu[l].afterLoss (s.gripped l) :=
    (restoreDeparturePass_stays (.inl hidden)).lever.trans (restoredReleased_lever conf)
  have seen := restoreUnseenPass_lever ((restoredDeparted_passWork s).conf conf)
  rw [departed, Lever.afterLoss, if_pos unseen] at seen
  have recorded : (restoredSeen s).recorded l = (restoredSeen s).decoded l := by
    rw [State.recorded, restoredSeen, seen, ← restoredSeen, (restoredDeparted_passWork s).decoded conf,
      (restoredSeen_passWork s).decoded conf]
  have judged : Spared l (restoredSeen s) (restoredJudged s) :=
    restoreContactsPass_agrees (by
      rw [recorded]
      exact Decidable.em _ |>.symm)
  simp only [restoredSteps_llu]
  rw [judged.lever, restoredSeen, seen]

/-- R57 step 2: a lever that departed during the loss from an end at which it was seen. -/
theorem restoredSteps_departed {p : EndPos} (service : s.device = .service)
    (seen : s.llu[l].unseen = false) (stood : s.llu[l].position = p.toPosition)
    (left : s.decoded l ≠ p.toPosition) (agree : s.decoded l ≠ .contradictory) :
    (restoredSteps s).llu[l].lastFault = some (.unreleased, s.tb.clock) ∧
    (restoredSteps s).llu[l].grip ≠ .seeking ∧
    (restoredSteps s).au[Source.id .leverFault].pending = true := by
  have work := restoredReleased_passWork s
  have lever := restoredReleased_lever conf
  have gone : departs .continuous l (restoredReleased s) = some p := by
    have stands : ((restoredReleased s).recorded l).asEnd = some p := by
      rw [State.recorded, lever]
      cases p <;> simp [-Fin.getElem_fin, Lever.afterLoss, stood, EndPos.toPosition, Position.asEnd]
    rw [departs, if_pos ⟨rfl, work.device.trans service⟩, stands, work.decoded conf]
    exact if_neg left
  have unseen : (restoredReleased s).llu[l].unseen = false := by
    rw [lever]
    exact seen
  have departed := restoreDeparturePass_departs (work.conf conf) unseen
    (by rw [work.decoded conf]; exact agree) gone
  rw [lever, work.tb, work.gripped, ← restoredDeparted] at departed
  have kept : (restoredSeen s).llu[l] = (restoredDeparted s).llu[l] := by
    rw [restoredSeen, restoreUnseenPass_lever ((restoredDeparted_passWork s).conf conf), if_neg]
    rw [departed.1]
    simp [-Fin.getElem_fin, Lever.afterLoss, seen]
  have judged : Spared l (restoredSeen s) (restoredJudged s) :=
    restoreContactsPass_agrees (.inl (by rw [(restoredSeen_passWork s).decoded conf]; exact agree))
  have rest : PassWork (restoredDeparted s) (restoredSteps s) :=
    ((forEach_passWork restoreUnseen_ownWork _).trans
      (forEach_passWork restoreContacts_ownWork _)).trans
      (forEach_passWork restoreReturned_ownWork _)
  simp only [restoredSteps_llu]
  rw [judged.lever, kept, departed.1]
  refine ⟨rfl, ?_, rest.pending _ departed.2⟩
  cases s.gripped l <;> simp [Lever.afterLoss]

end

/-- R98: a route RELEASING when the scan is restored goes to SEQUENCE_FAULT and stays there, when its
lever stands as it stood, with its contacts in agreement. -/
theorem restoredSteps_releasing {l : LeverId} {s : State} (service : s.device = .service)
    (conf : s.cfg.levers[l].configured = true) (releasing : s.ru[l].state = .releasing)
    (stood : s.llu[l].position = .normal) (stands : s.decoded l = .normal) :
    (restoredSteps s).ru[l] = { s.ru[l] with
      state := .sequenceFault, cause := some .scanLoss, changed := s.tb.clock } ∧
    (restoredSteps s).au[Source.id .route].pending = true := by
  have noticed : notice restoreNotice s = restoreNotice s := if_pos service
  obtain ⟨fault, pending⟩ := restoreNotice_releasing releasing
  have released : (restoredReleased s).ru[l] = (restoreNotice s).ru[l] := by
    simp only [restoredReleased, restoreReleasePass_frame, noticed]
  have work := restoredReleased_passWork s
  have stays : departs .continuous l (restoredReleased s) = none := by
    have recorded : (restoredReleased s).recorded l = .normal := by
      rw [State.recorded, restoredReleased_lever conf]
      exact stood
    rw [departs, if_pos ⟨rfl, work.device.trans service⟩, recorded, work.decoded conf, stands]
    rfl
  have departed : Spared l (restoredReleased s) (restoredDeparted s) :=
    restoreDeparturePass_stays (.inr (.inr stays))
  have seen : (restoredSeen s).ru = (restoredDeparted s).ru := by
    simp only [restoredSeen, restoreUnseenPass_frame]
  have judged : Spared l (restoredSeen s) (restoredJudged s) :=
    restoreContactsPass_agrees (.inl (by simp [(restoredSeen_passWork s).decoded conf, stands]))
  have faulted : (restoredJudged s).ru[l] = { s.ru[l] with
      state := .sequenceFault, cause := some .scanLoss, changed := s.tb.clock } := by
    rw [judged.route]
    simp only [seen]
    rw [departed.route, released, fault]
  have returned : Spared l (restoredJudged s) (restoredSteps s) :=
    restoreReturnedPass_other (by rw [faulted]; simp)
  have rest : PassWork (restoreNotice s) (restoredSteps s) := by
    rw [← noticed]
    exact ((((forEach_passWork restoreRelease_ownWork _).trans
      (forEach_passWork restoreDeparture_ownWork _)).trans
      (forEach_passWork restoreUnseen_ownWork _)).trans
      (forEach_passWork restoreContacts_ownWork _)).trans
      (forEach_passWork restoreReturned_ownWork _)
  exact ⟨returned.route.trans faulted, rest.pending _ pending⟩

/-! ### An evaluation that judges no departure -/

/-- What an evaluation at a FIRST or RESTORED arrival leaves of a NOT_GRANTED lever: it may be granted,
and no fault is recorded. -/
structure Lever.Sought (r r' : Lever) : Prop where
  unseen : r'.unseen = r.unseen
  lastFault : r'.lastFault = r.lastFault
  release : r'.release = r.release ∨ ∃ p, r'.release = .granted p

section
variable {l : LeverId} {s : State}

/-- R45: the record of a lever that is refused. -/
theorem refuse_lever (why : RefusalReason) : (refuse l why s).llu[l] =
    { s.llu[l] with
      lastRefusal := some ⟨why, s.tb.clock, false⟩
      reported := s.llu[l].reported || why.reported } := by
  unfold refuse
  dsimp only
  split
  · simp only [latch_frame, State.updLever_own]
  · exact State.updLever_own _ _ _

theorem refuse_sought (why : RefusalReason) : s.llu[l].Sought (refuse l why s).llu[l] := by
  rw [refuse_lever]
  exact ⟨rfl, rfl, .inl rfl⟩

theorem giveGrant_sought (p : EndPos) : s.llu[l].Sought (giveGrant l p s).llu[l] := by
  rw [giveGrant, State.updLever_own]
  exact ⟨rfl, rfl, .inr ⟨p, rfl⟩⟩

theorem askRoute_sought (p : EndPos) : s.llu[l].Sought (askRoute l p s).llu[l] := by
  have asked : (routeRequest l s).2.llu = s.llu := (routeRequest_frame s l).2.2.2.2.2.2.2.1
  unfold askRoute
  split
  · split <;> (rename_i e; simp only [e] at asked; rw [← asked])
    · exact giveGrant_sought p
    all_goals exact refuse_sought _
  · exact giveGrant_sought p

theorem seekGrant_sought (p : EndPos) : s.llu[l].Sought (seekGrant l p s).llu[l] := by
  unfold seekGrant
  split
  · exact refuse_sought _
  · split
    · exact refuse_sought _
    · split
      · exact refuse_sought _
      · split
        · exact refuse_sought _
        · exact askRoute_sought p

/-- R43: only a SEEKING lever at an end seeks. -/
theorem seekAtEnd_of_not_seeking (content : s.llu[l].grip ≠ .seeking) : seekAtEnd l s = s := by
  unfold seekAtEnd
  split
  · exact if_neg content
  · rfl

theorem seekAtEnd_sought : s.llu[l].Sought (seekAtEnd l s).llu[l] := by
  unfold seekAtEnd
  split
  · split
    · exact seekGrant_sought _
    · exact ⟨rfl, rfl, .inl rfl⟩
  · exact ⟨rfl, rfl, .inl rfl⟩

/-- R82: a lever that seeks finds a route that is not IDLE busy, and changes no route. -/
theorem seekAtEnd_ru (busy : s.ru[l].state ≠ .idle) : (seekAtEnd l s).ru = s.ru := by
  have asked : routeRequest l s = (.busy, s) := if_pos busy
  unfold seekAtEnd seekGrant askRoute
  rw [asked]
  dsimp only
  (repeat' split) <;> simp only [refuse_frame, giveGrant_frame]

/-- R43, R50: outside a CONTINUOUS arrival a NOT_GRANTED lever judges no departure: it may hand a returned
notice, and it seeks. -/
theorem judgeNotGranted_seeks {m : Continuity} (m_ne : m ≠ .continuous) :
    ∃ u, u.llu = s.llu ∧ (s.ru[l].state ≠ .set → u = s) ∧
      judgeNotGranted m l s = seekAtEnd l u := by
  have none : departs m l s = none := if_neg fun h => m_ne h.1
  unfold judgeNotGranted
  rw [none]
  dsimp only
  by_cases returns : s.decoded l = .normal ∧ (s.recorded l).asEnd = Option.none
  · exact ⟨noticeReturned l .normal s, by simp, noticeReturned_of_not_set, by rw [if_pos returns]⟩
  · exact ⟨s, rfl, fun _ => rfl, by rw [if_neg returns]⟩

/-- R43, R57: the judgement at a FIRST or RESTORED arrival of a NOT_GRANTED lever that has no new contact
fault: it may hand a returned notice, and it seeks. -/
theorem judgeLever_seeks {m : Continuity} (m_ne : m ≠ .continuous)
    (still : s.llu[l].release = .notGranted)
    (quiet : m = .restored ∨ s.decoded l ≠ .contradictory) :
    judgeLever m l s = s ∨ ∃ u, u.llu = s.llu ∧ (s.ru[l].state ≠ .set → u = s) ∧
      judgeLever m l s = seekAtEnd l u := by
  unfold judgeLever
  by_cases agree : s.decoded l = .contradictory
  · rw [if_pos agree, if_pos (quiet.resolve_right fun h => h agree)]
    exact .inl rfl
  · rw [if_neg agree, still]
    exact .inr (judgeNotGranted_seeks m_ne)

theorem judgeLever_sought {m : Continuity} (m_ne : m ≠ .continuous)
    (still : s.llu[l].release = .notGranted)
    (quiet : m = .restored ∨ s.decoded l ≠ .contradictory) :
    s.llu[l].Sought (judgeLever m l s).llu[l] := by
  rcases judgeLever_seeks m_ne still quiet with e | ⟨u, same, -, e⟩ <;> rw [e]
  · exact ⟨rfl, rfl, .inl rfl⟩
  · have sought := seekAtEnd_sought (s := u) (l := l)
    simp only [same] at sought
    exact sought

/-- R42: the state in which a lever is judged: its grip record at the evaluation, which a RESTORED arrival
has set before. -/
def gripJudged (m : Continuity) (l : LeverId) (s : State) : State :=
  if m = .restored then s else s.updLever l fun r => r.gripAt (s.gripped l)

theorem evaluateLever_configured (m : Continuity) (conf : s.cfg.levers[l].configured = true) :
    evaluateLever m l s = (judgeLever m l (gripJudged m l s)).updLever l fun r =>
      { r with position := s.decoded l, catchGripped := s.gripped l } :=
  if_pos conf

theorem evaluateLever_unconfigured (m : Continuity) (conf : s.cfg.levers[l].configured ≠ true) :
    evaluateLever m l s = s :=
  if_neg conf

/-- R42: the grip record alone is judged. -/
theorem gripJudged_work (m : Continuity) : OwnWork l s (gripJudged m l s) ∧
    (gripJudged m l s).llu[l].unseen = s.llu[l].unseen ∧
    (gripJudged m l s).llu[l].lastFault = s.llu[l].lastFault ∧
    (gripJudged m l s).llu[l].release = s.llu[l].release := by
  unfold gripJudged
  split
  · exact ⟨.refl l s, rfl, rfl, rfl⟩
  · refine ⟨(OwnWork.refl l s).updLever _, ?_⟩
    rw [State.updLever_own]
    unfold Lever.gripAt
    (repeat' split) <;> exact ⟨rfl, rfl, rfl⟩

/-- R43, R57: a NOT_GRANTED lever after its evaluation at a FIRST or RESTORED arrival without a new
contact fault. -/
theorem evaluateLever_sought {m : Continuity} (m_ne : m ≠ .continuous)
    (still : s.llu[l].release = .notGranted)
    (quiet : m = .restored ∨ s.decoded l ≠ .contradictory) :
    s.llu[l].Sought (evaluateLever m l s).llu[l] := by
  by_cases conf : s.cfg.levers[l].configured = true
  · obtain ⟨work, unseen, lastFault, release⟩ := gripJudged_work (l := l) (s := s) m
    have judged := judgeLever_sought m_ne (release.trans still)
      (quiet.imp_right fun agree => by rw [work.passWork.decoded conf]; exact agree)
    rw [evaluateLever_configured m conf, State.updLever_own]
    exact ⟨judged.unseen.trans unseen, judged.lastFault.trans lastFault,
      judged.release.imp_left fun same => same.trans release⟩
  · rw [evaluateLever_unconfigured m conf]
    exact ⟨rfl, rfl, .inl rfl⟩

/-- R43: a NOT_GRANTED lever evaluated at a RESTORED arrival without a SEEKING grip stays so. -/
theorem evaluateLever_content (still : s.llu[l].release = .notGranted)
    (content : s.llu[l].grip ≠ .seeking) :
    (evaluateLever .restored l s).llu[l].release = .notGranted := by
  by_cases conf : s.cfg.levers[l].configured = true
  · rw [evaluateLever_configured _ conf, State.updLever_own, gripJudged, if_pos rfl]
    rcases judgeLever_seeks (m := .restored) nofun still (.inl rfl) with e | ⟨u, same, -, e⟩ <;>
      rw [e]
    · exact still
    · rw [seekAtEnd_of_not_seeking (by simp only [same]; exact content)]
      simp only [same]
      exact still
  · rw [evaluateLever_unconfigured _ conf]
    exact still

/-- R57, R82: the evaluation of a RESTORED arrival leaves the routes of a lever whose route is in
SEQUENCE_FAULT. -/
theorem evaluateLever_ru (still : s.llu[l].release = .notGranted)
    (fault : s.ru[l].state = .sequenceFault) : (evaluateLever .restored l s).ru = s.ru := by
  by_cases conf : s.cfg.levers[l].configured = true
  · rw [evaluateLever_configured _ conf, State.updLever_ru, gripJudged, if_pos rfl]
    rcases judgeLever_seeks (m := .restored) nofun still (.inl rfl) with e | ⟨u, -, same, e⟩ <;>
      rw [e]
    rw [same (by rw [fault]; simp)]
    exact seekAtEnd_ru (by rw [fault]; simp)
  · rw [evaluateLever_unconfigured _ conf]

/-- R41: after its evaluation a configured lever's recorded position and catch are the decoded ones. -/
theorem evaluateLever_records (m : Continuity) (conf : s.cfg.levers[l].configured = true) :
    (evaluateLever m l s).llu[l].position = s.decoded l ∧
    (evaluateLever m l s).llu[l].catchGripped = s.gripped l := by
  rw [evaluateLever_configured m conf, State.updLever_own]
  exact ⟨rfl, rfl⟩

end

/-! ### The closing check and the holds -/

/-- No hold is live that was not. -/
def HoldsKept (s t : State) : Prop :=
  ∀ (h : HoldId) (hold : Hold), t.ht[h] = some hold → s.ht[h] = some hold

theorem HoldsKept.refl (s : State) : HoldsKept s s := fun _ _ e => e

theorem HoldsKept.trans {s t u : State} (a : HoldsKept s t) (b : HoldsKept t u) : HoldsKept s u :=
  fun h hold e => a h hold (b h hold e)

theorem HoldsKept.of_eq {s t : State} (e : t.ht = s.ht) : HoldsKept s t :=
  fun _ _ live => by simpa only [e] using live

section
variable (l : LeverId) (s : State)

theorem retireWhere_holdsKept (p : Hold → Bool) : HoldsKept s (retireWhere p s) :=
  fun _ _ live => (retireWhere_live.mp live).1

theorem makeIdle_holdsKept : HoldsKept s (makeIdle l s) :=
  fun _ _ live => (makeIdle_holds.mp live).1

theorem releaseSection_holdsKept (c : TrackId) : HoldsKept s (releaseSection l c s) :=
  (retireWhere_holdsKept s (Hold.protectedBy l c)).trans
    (.of_eq (by simp [releaseSection, retireProtected]))

theorem releaseSections_holdsKept (n : Nat) : HoldsKept s (releaseSections l n s) := by
  induction n generalizing s with
  | zero => exact .refl s
  | succ n ih =>
    unfold releaseSections
    split
    · exact makeIdle_holdsKept l s
    · split
      · exact (releaseSection_holdsKept l s _).trans (ih _)
      · exact .refl s

theorem releasePass_holdsKept : HoldsKept s (releasePass l s) := by
  unfold releasePass
  split
  · dsimp only
    split
    · exact (releaseSections_holdsKept l s _).trans (.of_eq (faultRoute_frame _ _ _).2.2.2.2.2.2.2.2.2.1)
    · exact releaseSections_holdsKept l s _
  · exact .refl s

theorem releasePasses_holdsKept : HoldsKept s (releasePasses s) :=
  forEach_keeps (P := HoldsKept s) (fun l u kept => kept.trans (releasePass_holdsKept l u)) s
    (.refl s)

theorem withdrawGrant_holdsKept (p : EndPos) : HoldsKept s (withdrawGrant l p s) := by
  have lever (f : Lever → Lever) : HoldsKept s (s.updLever l f) := .of_eq rfl
  unfold withdrawGrant notice routeWithdrawn
  dsimp only
  split
  · split
    · split
      · exact (lever _).trans (makeIdle_holdsKept l _)
      · exact lever _
    · exact lever _
  · exact lever _

theorem withdrawFor_holdsKept (p : EndPos) (why : RefusalReason) :
    HoldsKept s (withdrawFor l p why s) := by
  have refused : HoldsKept s ((refuse l why s).updLever l fun r => { r with grip := .seeking }) :=
    .of_eq (by simp)
  exact refused.trans (withdrawGrant_holdsKept l _ p)

theorem closingCheck_holdsKept : HoldsKept s (closingCheck l s) := by
  unfold closingCheck
  split
  · split
    · exact withdrawFor_holdsKept l s _ _
    · exact .refl s
  · exact .refl s
  · exact .refl s

end

/-- What the closing check leaves of a lever: it may withdraw the grant. -/
structure Lever.Checked (r r' : Lever) : Prop where
  position : r'.position = r.position
  catchGripped : r'.catchGripped = r.catchGripped
  unseen : r'.unseen = r.unseen
  lastFault : r'.lastFault = r.lastFault
  release : r'.release = r.release ∨ r'.release = .notGranted

section
variable {l : LeverId} {s : State}

/-- R47: the record of a lever whose grant is withdrawn. -/
theorem withdrawGrant_lever (p : EndPos) : (withdrawGrant l p s).llu[l] =
    { s.llu[l] with release := .notGranted } := by
  have kept : (withdrawGrant l p s).llu =
      (s.updLever l fun r => { r with release := .notGranted }).llu := by
    unfold withdrawGrant notice
    dsimp only
    (repeat' split) <;> simp only [routeWithdrawn_frame]
  simp only [kept]
  exact State.updLever_own _ _ _

/-- R47, R52: a lever whose grant is withdrawn for a reason. -/
theorem withdrawFor_lever (p : EndPos) (why : RefusalReason) :
    s.llu[l].Checked (withdrawFor l p why s).llu[l] := by
  rw [withdrawFor, withdrawGrant_lever, State.updLever_own, refuse_lever]
  exact ⟨rfl, rfl, rfl, rfl, .inr rfl⟩

/-- R47: a route that is not GRANTED keeps its state when a grant is withdrawn. -/
theorem withdrawFor_ru (p : EndPos) (why : RefusalReason) (other : s.ru[l].state ≠ .granted) :
    (withdrawFor l p why s).ru = s.ru := by
  have routes : ((refuse l why s).updLever l fun r => { r with grip := .seeking }).ru = s.ru := by
    simp
  unfold withdrawFor withdrawGrant
  dsimp only
  split
  · rw [notice_of_fixed]
    · exact routes
    · refine if_neg ?_
      simp only [State.updLever_ru, refuse_frame]
      exact other
  · exact routes

/-- R52: the closing check leaves a lever, or withdraws its grant for a hold that binds it. -/
theorem closingCheck_cases :
    (closingCheck l s = s ∧ ∀ p, s.llu[l].release = .granted p → bindingHold s.ht l p = none) ∨
    ∃ p h, s.llu[l].release = .granted p ∧ closingCheck l s = withdrawFor l p (.held h) s := by
  unfold closingCheck
  cases released : s.llu[l].release with
  | granted p =>
    dsimp only
    cases bound : bindingHold s.ht l p with
    | some h => exact .inr ⟨p, h, rfl, rfl⟩
    | none => exact .inl ⟨rfl, fun q e => by cases e; exact bound⟩
  | stroke p => exact .inl ⟨rfl, nofun⟩
  | notGranted => exact .inl ⟨rfl, nofun⟩

theorem closingCheck_checked : s.llu[l].Checked (closingCheck l s).llu[l] := by
  rcases closingCheck_cases (l := l) (s := s) with ⟨e, -⟩ | ⟨p, h, -, e⟩ <;> rw [e]
  · exact ⟨rfl, rfl, rfl, rfl, .inl rfl⟩
  · exact withdrawFor_lever p _

/-- R52: a lever left GRANTED has been left alone, with no hold that binds it. -/
theorem closingCheck_unbound {p : EndPos} (granted : (closingCheck l s).llu[l].release = .granted p) :
    closingCheck l s = s ∧ bindingHold s.ht l p = none := by
  rcases closingCheck_cases (l := l) (s := s) with ⟨e, unbound⟩ | ⟨q, h, -, e⟩
  · rw [e] at granted
    exact ⟨e, unbound p granted⟩
  · rw [e, withdrawFor, withdrawGrant_lever] at granted
    cases granted

theorem closingCheck_ru (other : s.ru[l].state ≠ .granted) : (closingCheck l s).ru = s.ru := by
  rcases closingCheck_cases (l := l) (s := s) with ⟨e, -⟩ | ⟨p, h, -, e⟩ <;> rw [e]
  exact withdrawFor_ru p _ other

/-! ### The passes of the lever part -/

theorem closingPass_checked : s.llu[l].Checked (forEach 40 closingCheck s).llu[l] := by
  obtain ⟨u, before, after⟩ := forEach_lever_turn closingCheck_ownWork s l
  rw [after.lever, ← before.lever]
  exact closingCheck_checked

theorem closingPass_route (other : s.ru[l].state ≠ .granted) :
    (forEach 40 closingCheck s).ru[l] = s.ru[l] := by
  obtain ⟨u, before, after⟩ := forEach_lever_turn closingCheck_ownWork s l
  rw [after.route, ← before.route]
  simp only [closingCheck_ru (before.route ▸ other)]

/-- R52: after the closing check no live hold binds a GRANTED lever. -/
theorem closingPass_unbound {p : EndPos} {h : HoldId} {hold : Hold}
    (granted : (forEach 40 closingCheck s).llu[l].release = .granted p)
    (live : (forEach 40 closingCheck s).ht[h] = some hold) :
    ¬(hold.lever = l ∧ hold.position = p) := by
  obtain ⟨u, -, lever, holds⟩ := forEach_turn (f := closingCheck)
    (R := fun a b => b.llu[l] = a.llu[l] ∧ HoldsKept a b) (fun a => ⟨rfl, .refl a⟩)
    (fun a b => ⟨b.1.trans a.1, a.2.trans b.2⟩) l
    (fun k a ne => ⟨(closingCheck_ownWork k a).levers l (Ne.symm ne), closingCheck_holdsKept k a⟩) s
  obtain ⟨left, unbound⟩ := closingCheck_unbound (lever ▸ granted)
  have bound := holds h hold live
  rw [left] at bound
  have free := lowest_eq_none.mp unbound h
  rw [bound] at free
  simpa [holdBinds] using free

/-- R41: after the evaluations a configured lever's recorded position and catch are the decoded ones. -/
theorem evaluatePass_records (m : Continuity) (conf : s.cfg.levers[l].configured = true) :
    (forEach 40 (evaluateLever m) s).llu[l].position = s.decoded l ∧
    (forEach 40 (evaluateLever m) s).llu[l].catchGripped = s.gripped l := by
  obtain ⟨u, before, after⟩ := forEach_lever_turn (fun k a => evaluateLever_ownWork k a m) s l
  rw [after.lever, ← before.decoded, ← before.gripped]
  exact evaluateLever_records m (before.cfg ▸ conf)

theorem evaluatePass_sought {m : Continuity} (m_ne : m ≠ .continuous)
    (still : s.llu[l].release = .notGranted)
    (quiet : m = .restored ∨ s.decoded l ≠ .contradictory) :
    s.llu[l].Sought (forEach 40 (evaluateLever m) s).llu[l] := by
  obtain ⟨u, before, after⟩ := forEach_lever_turn (fun k a => evaluateLever_ownWork k a m) s l
  rw [after.lever, ← before.lever]
  exact evaluateLever_sought m_ne (before.lever ▸ still) (before.decoded ▸ quiet)

theorem evaluatePass_content (still : s.llu[l].release = .notGranted)
    (content : s.llu[l].grip ≠ .seeking) :
    (forEach 40 (evaluateLever .restored) s).llu[l].release = .notGranted := by
  obtain ⟨u, before, after⟩ :=
    forEach_lever_turn (fun k a => evaluateLever_ownWork k a .restored) s l
  rw [after.lever]
  exact evaluateLever_content (before.lever ▸ still) (before.lever ▸ content)

theorem evaluatePass_route (still : s.llu[l].release = .notGranted)
    (fault : s.ru[l].state = .sequenceFault) :
    (forEach 40 (evaluateLever .restored) s).ru[l] = s.ru[l] := by
  obtain ⟨u, before, after⟩ :=
    forEach_lever_turn (fun k a => evaluateLever_ownWork k a .restored) s l
  rw [after.route, ← before.route]
  simp only [evaluateLever_ru (before.lever ▸ still) (before.route ▸ fault)]

/-- R91: the release passes leave a route that is not RELEASING. -/
theorem releasePasses_route (other : s.ru[l].state ≠ .releasing) :
    (releasePasses s).ru[l] = s.ru[l] := by
  obtain ⟨u, before, after⟩ := forEach_lever_turn releasePass_ownWork s l
  have turn : releasePass l u = u := if_neg (before.route ▸ other)
  rw [turn] at after
  exact after.route.trans before.route

theorem releasePasses_passWork (s : State) : PassWork s (releasePasses s) :=
  forEach_passWork releasePass_ownWork s

end

end Sys2Proof.Machine

/-! A sample arrival: the whole lever part, the state it finds, and the frame that delivers it. -/

namespace Sys2Proof.Machine

/-! ### The stages of the lever part -/

section
variable (m : Continuity) (s : State)

/-- R41, after the steps of a RESTORED arrival. -/
def seenAgain : State := if m = .restored then restoredSteps s else s
/-- R41, after the evaluations. -/
def evaluated : State := forEach 40 (evaluateLever m) (seenAgain m s)
/-- R41, after the closing check. -/
def checked : State := forEach 40 closingCheck (evaluated m s)

theorem takeLeverPart_eq :
    takeLeverPart m s = notice releasePasses (writeMagnets (checked m s)) := rfl

theorem seenAgain_restored : seenAgain .restored s = restoredSteps s := rfl

theorem seenAgain_other {m : Continuity} (m_ne : m ≠ .restored) : seenAgain m s = s := if_neg m_ne

theorem seenAgain_passWork : PassWork s (seenAgain m s) := by
  unfold seenAgain
  split
  · exact restoredSteps_passWork s
  · exact .refl s

theorem checked_passWork_of_seenAgain : PassWork (seenAgain m s) (checked m s) :=
  (forEach_passWork (fun l t => evaluateLever_ownWork l t m) _).trans
    (forEach_passWork closingCheck_ownWork _)

theorem checked_passWork : PassWork s (checked m s) :=
  (seenAgain_passWork m s).trans (checked_passWork_of_seenAgain m s)

/-- The release passes that close the lever part, in SERVICE. -/
theorem noticeReleasePasses_passWork : PassWork s (notice releasePasses s) := by
  unfold notice
  split
  · exact releasePasses_passWork s
  · exact .refl s

theorem takeLeverPart_llu : (takeLeverPart m s).llu = (checked m s).llu := by
  rw [takeLeverPart_eq, notice]
  split <;> simp only [releasePasses_frame, writeMagnets_frame]

/-- R53: of the bus the lever part writes the magnet bits only. -/
theorem takeLeverPart_sbc : (takeLeverPart m s).sbc =
    { s.sbc with magnets := (takeLeverPart m s).sbc.magnets } := by
  have bus := (noticeReleasePasses_passWork (writeMagnets (checked m s))).sbc
  rw [takeLeverPart_eq, bus, writeMagnets, State.setSbc_sbc, (checked_passWork m s).sbc]

/-- The lever part touches no more of a circuit than its mark. -/
theorem takeLeverPart_circuits :
    (takeLeverPart m s).tcm.map Track.unmarked = s.tcm.map Track.unmarked := by
  rw [takeLeverPart_eq, (noticeReleasePasses_passWork _).circuits]
  simp only [writeMagnets_frame, (checked_passWork m s).circuits]

/-- The lever part clears no source. -/
theorem takeLeverPart_pending {i : SourceId} (pending : (seenAgain m s).au[i].pending = true) :
    (takeLeverPart m s).au[i].pending = true := by
  refine (noticeReleasePasses_passWork _).pending i ?_
  simp only [writeMagnets_frame]
  exact (checked_passWork_of_seenAgain m s).pending i pending

variable {l : LeverId} {m : Continuity} {s : State}

/-- R52: what the closing check leaves of a lever, the lever part leaves. -/
theorem takeLeverPart_checked :
    (evaluated m s).llu[l].Checked (takeLeverPart m s).llu[l] := by
  have check := closingPass_checked (l := l) (s := evaluated m s)
  rw [← checked] at check
  simp only [takeLeverPart_llu]
  exact check

/-- R41: the recorded position and catch that the lever part leaves. -/
theorem takeLeverPart_records (conf : s.cfg.levers[l].configured = true) :
    (takeLeverPart m s).llu[l].position = s.decoded l ∧
    (takeLeverPart m s).llu[l].catchGripped = s.gripped l := by
  have start := seenAgain_passWork m s
  have records := evaluatePass_records m (start.conf conf)
  rw [start.decoded conf, start.gripped, ← evaluated] at records
  have check := takeLeverPart_checked (l := l) (m := m) (s := s)
  exact ⟨check.position.trans records.1, check.catchGripped.trans records.2⟩

/-- R53: a configured lever's magnet bit shows its release state. -/
theorem takeLeverPart_magnet (conf : s.cfg.levers[l].configured = true) :
    (takeLeverPart m s).sbc.magnets[l] =
      decide ((takeLeverPart m s).llu[l].release ≠ .notGranted) := by
  have magnet (r : Release) : r.magnet = decide (r ≠ .notGranted) := by
    cases r <;> simp [Release.magnet]
  have written : (writeMagnets (checked m s)).sbc.magnets[l] =
      if (checked m s).cfg.levers[l].configured then (checked m s).llu[l].release.magnet
      else (checked m s).sbc.magnets[l] := tabulate_get _ l
  have bus : (takeLeverPart m s).sbc = (writeMagnets (checked m s)).sbc :=
    (noticeReleasePasses_passWork _).sbc
  simp only [takeLeverPart_llu, bus]
  rw [written, if_pos ((checked_passWork m s).conf conf), magnet]

/-- R52: the lever part leaves no lever GRANTED under a hold that binds it. -/
theorem takeLeverPart_unbound {p : EndPos} {h : HoldId} {hold : Hold}
    (granted : (takeLeverPart m s).llu[l].release = .granted p)
    (live : (takeLeverPart m s).ht[h] = some hold) : ¬(hold.lever = l ∧ hold.position = p) := by
  have kept : HoldsKept (checked m s) (takeLeverPart m s) := by
    rw [takeLeverPart_eq, notice]
    split
    · exact (HoldsKept.of_eq (by simp)).trans (releasePasses_holdsKept _)
    · exact .of_eq (by simp)
  simp only [takeLeverPart_llu] at granted
  exact closingPass_unbound granted (kept h hold live)

/-- A route that the closing check and the release passes leave. -/
theorem takeLeverPart_route (fault : (evaluated m s).ru[l].state = .sequenceFault) :
    (takeLeverPart m s).ru[l] = (evaluated m s).ru[l] := by
  have checks : (checked m s).ru[l] = (evaluated m s).ru[l] := by
    rw [checked]
    exact closingPass_route (by rw [fault]; simp)
  have written : (writeMagnets (checked m s)).ru[l] = (evaluated m s).ru[l] := by
    simp only [writeMagnets_frame]
    exact checks
  rw [takeLeverPart_eq, notice]
  split
  · rw [releasePasses_route (by rw [written, fault]; simp), written]
  · exact written

end

/-! ### The lever part of a RESTORED and of a FIRST arrival -/

/-- R41: an unconfigured lever is not evaluated. -/
theorem evaluatePass_unconfigured {l : LeverId} {s : State} {m : Continuity}
    (conf : s.cfg.levers[l].configured ≠ true) :
    (forEach 40 (evaluateLever m) s).llu[l] = s.llu[l] := by
  obtain ⟨u, before, after⟩ := forEach_lever_turn (fun k a => evaluateLever_ownWork k a m) s l
  rw [after.lever, evaluateLever_unconfigured m (by rw [before.cfg]; exact conf), before.lever]

section
variable {l : LeverId} {s : State}

/-- R43, R57: the release states that the lever part of a RESTORED arrival can leave. -/
theorem restoredPart_lever (conf : s.cfg.levers[l].configured = true) :
    (restoredSteps s).llu[l].Sought (evaluated .restored s).llu[l] ∧
    (evaluated .restored s).llu[l].Checked (takeLeverPart .restored s).llu[l] := by
  constructor
  · rw [evaluated, seenAgain_restored]
    exact evaluatePass_sought (s := restoredSteps s) nofun (restoredSteps_lever conf).1 (.inl rfl)
  · exact takeLeverPart_checked

/-- R57: after a RESTORED arrival a configured lever is seen. -/
theorem restoredPart_unseen (conf : s.cfg.levers[l].configured = true) :
    (takeLeverPart .restored s).llu[l].unseen = false := by
  obtain ⟨sought, check⟩ := restoredPart_lever conf
  exact (check.unseen.trans sought.unseen).trans (restoredSteps_lever conf).2

/-- R57: after a RESTORED arrival no configured lever is in STROKE. -/
theorem restoredPart_noStroke (conf : s.cfg.levers[l].configured = true) (p : EndPos) :
    (takeLeverPart .restored s).llu[l].release ≠ .stroke p := by
  obtain ⟨sought, check⟩ := restoredPart_lever conf
  have still := (restoredSteps_lever conf).1
  rcases check.release with e | e <;> rw [e]
  · rcases sought.release with e | ⟨q, e⟩ <;> rw [e]
    · simp [-Fin.getElem_fin, still]
    · simp
  · simp

/-- R57: the last fault that a RESTORED arrival leaves is that of its steps. -/
theorem restoredPart_lastFault (conf : s.cfg.levers[l].configured = true) :
    (takeLeverPart .restored s).llu[l].lastFault = (restoredSteps s).llu[l].lastFault := by
  obtain ⟨sought, check⟩ := restoredPart_lever conf
  exact check.lastFault.trans sought.lastFault

/-- R57 step 2: a lever that departed during the loss from an end at which it was seen. -/
theorem restoredPart_departed {p : EndPos} (conf : s.cfg.levers[l].configured = true)
    (service : s.device = .service) (seen : s.llu[l].unseen = false)
    (stood : s.llu[l].position = p.toPosition) (left : s.decoded l ≠ p.toPosition)
    (agree : s.decoded l ≠ .contradictory) :
    (takeLeverPart .restored s).llu[l].release = .notGranted ∧
    (takeLeverPart .restored s).llu[l].lastFault = some (.unreleased, s.tb.clock) ∧
    (takeLeverPart .restored s).au[Source.id .leverFault].pending = true := by
  obtain ⟨lastFault, content, pending⟩ :=
    restoredSteps_departed conf service seen stood left agree
  refine ⟨?_, (restoredPart_lastFault conf).trans lastFault, takeLeverPart_pending _ _ pending⟩
  have still : (evaluated .restored s).llu[l].release = .notGranted := by
    rw [evaluated, seenAgain_restored]
    exact evaluatePass_content (restoredSteps_lever conf).1 content
  rcases (restoredPart_lever conf).2.release with e | e
  · exact e.trans still
  · exact e

/-- R98: a route RELEASING when the scan is restored, whose lever stands at NORMAL as it stood. -/
theorem restoredPart_releasing (conf : s.cfg.levers[l].configured = true)
    (service : s.device = .service) (releasing : s.ru[l].state = .releasing)
    (stood : s.llu[l].position = .normal) (stands : s.decoded l = .normal) :
    (takeLeverPart .restored s).au[Source.id .route].pending = true ∧
    (takeLeverPart .restored s).ru[l] = { s.ru[l] with
      state := .sequenceFault, cause := some .scanLoss, changed := s.tb.clock } := by
  obtain ⟨fault, pending⟩ := restoredSteps_releasing service conf releasing stood stands
  refine ⟨takeLeverPart_pending _ _ pending, ?_⟩
  have evaluation : (evaluated .restored s).ru[l] = (restoredSteps s).ru[l] := by
    rw [evaluated, seenAgain_restored]
    exact evaluatePass_route (restoredSteps_lever conf).1 (by rw [fault])
  rw [takeLeverPart_route (by rw [evaluation, fault]), evaluation, fault]

/-- R43: a FIRST arrival records no fault of a NOT_GRANTED lever whose contacts agree. -/
theorem firstPart_lastFault (still : s.llu[l].release = .notGranted)
    (agree : s.cfg.levers[l].configured = true → s.decoded l ≠ .contradictory) :
    (takeLeverPart .first s).llu[l].lastFault = s.llu[l].lastFault := by
  have evaluation : (evaluated .first s).llu[l].lastFault = s.llu[l].lastFault := by
    rw [evaluated, seenAgain_other _ (by simp)]
    by_cases conf : s.cfg.levers[l].configured = true
    · exact (evaluatePass_sought (m := .first) nofun still (.inr (agree conf))).lastFault
    · rw [evaluatePass_unconfigured conf]
  exact takeLeverPart_checked.lastFault.trans evaluation

end

end Sys2Proof.Machine

/-! A sample arrival of both blocks, and the frame that delivers it. -/

namespace Sys2Proof.Machine

/-! ### The frame that delivers -/

/-- R10, R11, R13: the continuity with which a good frame delivers in each scan state. -/
def ScanState.continuity : ScanState → Continuity
  | .starting => .first
  | .lost => .restored
  | .running => .continuous
  | .stopped => .continuous

/-- R9, R10, R13: the state in which the blocks take the arrival of a good frame. -/
def arrived (f : Frame) (sdi : BitVec 192) (s : State) : State :=
  s.setSbc { s.sbc.takeGood (f.image sdi) with scan := .running }

theorem arrived_frame (f : Frame) (sdi : BitVec 192) (s : State) :
    (arrived f sdi s).cfg = s.cfg ∧ (arrived f sdi s).tcm = s.tcm ∧
    (arrived f sdi s).llu = s.llu ∧ (arrived f sdi s).ru = s.ru ∧
    (arrived f sdi s).au = s.au ∧ (arrived f sdi s).device = s.device ∧
    (arrived f sdi s).tb = s.tb ∧ (arrived f sdi s).sbc.input = f.image sdi ∧
    (arrived f sdi s).sbc.lamps = s.sbc.lamps ∧ (arrived f sdi s).sbc.magnets = s.sbc.magnets :=
  ⟨rfl, rfl, rfl, rfl, rfl, rfl, rfl, rfl, rfl, rfl⟩

/-- What a state shares with the one the arrival is taken in, it shares with the one before the frame. -/
theorem frame_of_arrived {f : Frame} {sdi : BitVec 192} {s w : State}
    (shares : { w with tcm := (arrived f sdi s).tcm, sbc := (arrived f sdi s).sbc,
                       au := (arrived f sdi s).au } = arrived f sdi s) :
    { w with tcm := s.tcm, sbc := s.sbc, au := s.au } = s :=
  congrArg (fun u => u.setSbc s.sbc) shares

/-- R10, R11, R13: a good frame in RUNNING, and the eighth in STARTING or LOST, delivers. -/
theorem frameJudge_delivers {s : State} {f : Frame} {sdi : BitVec 192}
    (frame : s.sbc.frame = some f) (judged : f.unjudged = false)
    (good : sdi.getLsbD (f.length - 1) = s.sbc.expected)
    (delivers : s.sbc.scan = .running ∨
      ((s.sbc.scan = .starting ∨ s.sbc.scan = .lost) ∧ s.sbc.goodRun = 7)) :
    exec (.frameJudge sdi) s =
      .next (deliverArrival s.sbc.scan.continuity (arrived f sdi s)) := by
  rw [exec_frameJudge sdi frame, judgeFrame_good judged good]
  suffices follows : afterGood (s.setSbc (s.sbc.takeGood (f.image sdi))) =
      deliverArrival s.sbc.scan.continuity (arrived f sdi s) by rw [follows]
  have scan : (s.setSbc (s.sbc.takeGood (f.image sdi))).sbc.scan = s.sbc.scan := rfl
  have enters : enterRunning (s.setSbc (s.sbc.takeGood (f.image sdi))) = arrived f sdi s := rfl
  rcases delivers with running | ⟨other, seventh⟩
  · have same : s.setSbc (s.sbc.takeGood (f.image sdi)) = arrived f sdi s := by
      rw [arrived, ← running]
      rfl
    rw [afterGood, scan, running, same, ScanState.continuity]
  · have eighth : (s.setSbc (s.sbc.takeGood (f.image sdi))).sbc.goodRun = 8 := by
      simp [ScanBus.takeGood, seventh]
    rcases other with starting | lost
    · simp only [afterGood, scan, starting, if_pos eighth, enters, ScanState.continuity]
    · simp only [afterGood, scan, lost, if_pos eighth, enters, ScanState.continuity]

/-! ### The track part and the lever part together -/

theorem map_get {α β : Type} {n : Nat} (v : Vector α n) (g : α → β) (i : Fin n) :
    (v.map g)[i] = g v[i] :=
  Vector.getElem_map g i.isLt

/-- What two circuits share that differ in the mark at most. -/
theorem Track.unmarked_eq {r r' : Track} (same : r.unmarked = r'.unmarked) :
    r.state = r'.state ∧ r.timer = r'.timer ∧ r.fault = r'.fault := by
  have fields := congrArg (fun u : Track => (u.state, u.timer, u.fault)) same
  simpa [Track.unmarked] using fields

section
variable (m : Continuity) (s : State)

/-- R29: before its events the track part writes lamp bits of the bus only. -/
theorem tracked_sbc : (tracked s).sbc = { s.sbc with lamps := (tracked s).sbc.lamps } := by
  simp [tracked, writeLamps]

/-- The occupation events leave the bus as the lamps left it. -/
theorem takeTrackPart_sbc : (takeTrackPart s).sbc = (tracked s).sbc := by
  simp only [takeTrackPart_eq, occupationEvents_frame]

/-- R29, R53: of the bus an arrival writes lamp and magnet bits only. -/
theorem deliverArrival_sbc : (deliverArrival m s).sbc =
    { s.sbc with
      lamps := (tracked s).sbc.lamps, magnets := (deliverArrival m s).sbc.magnets } := by
  have bus := takeLeverPart_sbc m (takeTrackPart s)
  rw [takeTrackPart_sbc, tracked_sbc] at bus
  rw [deliverArrival]
  exact bus

/-- After the table and the check no more of a circuit changes than its mark. -/
theorem deliverArrival_unmarked (c : TrackId) :
    (deliverArrival m s).tcm[c].unmarked = (tracked s).tcm[c].unmarked := by
  have circuits : (deliverArrival m s).tcm.map Track.unmarked =
      (tracked s).tcm.map Track.unmarked := by
    rw [deliverArrival, takeLeverPart_circuits, takeTrackPart_eq, occupationEvents_circuits]
  rw [← map_get _ Track.unmarked, circuits, map_get]

/-- R22: a circuit's state after an arrival. -/
theorem deliverArrival_state (c : TrackId) :
    (deliverArrival m s).tcm[c].state = (stepCircuits s).tcm[c].state := by
  rw [(Track.unmarked_eq (deliverArrival_unmarked m s c)).1, tracked_circuit]

/-- R23: a circuit's timer after an arrival. -/
theorem deliverArrival_timer (c : TrackId) :
    (deliverArrival m s).tcm[c].timer = (stepCircuits s).tcm[c].timer := by
  rw [(Track.unmarked_eq (deliverArrival_unmarked m s c)).2.1, tracked_circuit]

/-- R28: a circuit's fault flag after an arrival. -/
theorem deliverArrival_fault (c : TrackId) : (deliverArrival m s).tcm[c].fault =
    (s.tcm[c].fault || (dropped s (stepCircuits s) c && (stepCircuits s).spontaneous c)) := by
  have table : (stepCircuits s).tcm[c].fault = s.tcm[c].fault := by
    rw [stepCircuits_circuit]
    split
    · exact Track.step_fault _ _ _ _
    · rfl
  rw [(Track.unmarked_eq (deliverArrival_unmarked m s c)).2.2, tracked_circuit, table]

/-- R25: a circuit's mark before the occupation events. -/
theorem tracked_mark (c : TrackId) : (tracked s).tcm[c].mark = (s.tcm[c].mark ||
    decide (s.tcm[c].state = .clear ∧ (stepCircuits s).tcm[c].state = .occupied)) := by
  rw [tracked_circuit]
  dsimp only
  rw [stepCircuits_circuit]
  split
  · exact Track.step_mark _ _ _ _
  · cases s.tcm[c].state <;> simp

/-- R29: a circuit's lamp bit after an arrival. -/
theorem deliverArrival_lamp (c : TrackId) : (deliverArrival m s).sbc.lamps[c] =
    if s.cfg.tracks[c].configured then decide ((deliverArrival m s).tcm[c].state ≠ .clear)
    else s.sbc.lamps[c] := by
  have shown : (tracked s).tcm[c].state = (deliverArrival m s).tcm[c].state :=
    (Track.unmarked_eq (deliverArrival_unmarked m s c)).1.symm
  have lamps := congrArg ScanBus.lamps (deliverArrival_sbc m s)
  simp only [lamps]
  rw [tracked_lamp, shown]

/-- R27: spontaneous, judged by the states that the arrival leaves. -/
theorem spontaneous_deliverArrival (c : TrackId) :
    (dropped s (stepCircuits s) c && (stepCircuits s).spontaneous c) = true ↔
      (s.tcm[c].state = .clear ∧ (deliverArrival m s).tcm[c].state = .occupied) ∧
      s.cfg.tracks[c].neighbours ≠ [] ∧
      ∀ n ∈ s.cfg.tracks[c].neighbours, (deliverArrival m s).tcm[n].state = .clear ∨
        (deliverArrival m s).tcm[n].state = .unknown := by
  have tracks : (stepCircuits s).cfg = s.cfg := by simp
  simp only [deliverArrival_state, dropped, Bool.and_eq_true, decide_eq_true_eq,
    spontaneous_iff, tracks]

/-- R32: in CONFIG no occupation event is handed over. -/
theorem takeTrackPart_config (config : s.device = .config) : takeTrackPart s = tracked s := by
  have idle : (tracked s).device ≠ .service := by simp [tracked, config]
  rw [takeTrackPart_eq, occupationEvents, if_neg idle]

/-- R32: in SERVICE the occupation events are handed over in ascending order. -/
theorem takeTrackPart_service (service : s.device = .service) : takeTrackPart s =
    forEach 32 (fun c u =>
      if s.tcm[c].state = .clear ∧ (deliverArrival m s).tcm[c].state = .occupied then
        trainOccupation c (routeOccupation c u) else u) (tracked s) := by
  have serving : (tracked s).device = .service := by simp [tracked, service]
  rw [takeTrackPart_eq, occupationEvents, if_pos serving]
  refine congrArg (fun turn => forEach 32 turn (tracked s)) (funext fun c => funext fun u => ?_)
  refine if_congr ?_ rfl rfl
  rw [deliverArrival_state, dropped, Bool.and_eq_true, decide_eq_true_eq, decide_eq_true_eq]

/-- The contacts of a configured lever, as the lever part reads them. -/
theorem takeTrackPart_decoded {l : LeverId} (conf : s.cfg.levers[l].configured = true) :
    (takeTrackPart s).decoded l =
      decodeContacts s.sbc.input.leverN[l] s.sbc.input.leverR[l] := by
  have input : (takeTrackPart s).sbc.input = s.sbc.input := by
    rw [takeTrackPart_sbc, tracked_sbc]
  rw [State.decoded, (takeTrackPart_frame s).2.2.2.2.1, if_pos conf]
  simp only [input]

end

/-! ### The obligation's clauses -/

section
variable (f : Frame) (sdi : BitVec 192) (m : Continuity) (s : State)

/-- R22, R23, R29: the circuits after the arrival of a good frame. -/
theorem arrival_circuit (c : TrackId) (conf : s.cfg.tracks[c].configured = true) :
    ((deliverArrival m (arrived f sdi s)).tcm[c].state =
      match s.tcm[c].state, f.inputBit sdi (.track c) with
        | .clear, true => .clear
        | _, true => .pickupTiming
        | _, false => .occupied) ∧
    ((deliverArrival m (arrived f sdi s)).tcm[c].timer =
      match s.tcm[c].state, f.inputBit sdi (.track c) with
        | .unknown, true => some s.cfg.tracks[c].delay
        | .occupied, true => some s.cfg.tracks[c].delay
        | .pickupTiming, false => none
        | _, _ => s.tcm[c].timer) ∧
    (deliverArrival m (arrived f sdi s)).sbc.lamps[c] =
      decide ((deliverArrival m (arrived f sdi s)).tcm[c].state ≠ .clear) := by
  have table : (stepCircuits (arrived f sdi s)).tcm[c] =
      s.tcm[c].step s.cfg.tracks[c].delay (f.inputBit sdi (.track c)) s.tb.clock := by
    have bit : (f.image sdi).tracks[c] = f.inputBit sdi (.track c) := tabulate_get _ c
    rw [stepCircuits_circuit]
    simp only [arrived_frame, bit]
    exact if_pos conf
  refine ⟨?_, ?_, (deliverArrival_lamp m _ c).trans (if_pos conf)⟩
  · rw [deliverArrival_state, table]
    exact Track.step_state _ _ _ _
  · rw [deliverArrival_timer, table]
    exact Track.step_timer _ _ _ _

/-- R14, R39: the contacts of a configured lever after a good frame. -/
theorem arrival_decoded {l : LeverId} (conf : s.cfg.levers[l].configured = true) :
    (takeTrackPart (arrived f sdi s)).decoded l =
      decodeContacts (f.inputBit sdi (.leverN l)) (f.inputBit sdi (.leverR l)) := by
  have normal : (f.image sdi).leverN[l] = f.inputBit sdi (.leverN l) := tabulate_get _ l
  have reverse : (f.image sdi).leverR[l] = f.inputBit sdi (.leverR l) := tabulate_get _ l
  rw [takeTrackPart_decoded (arrived f sdi s) conf]
  simp only [arrived_frame, normal, reverse]

/-- R14: the catch of a lever after a good frame. -/
theorem arrival_gripped (l : LeverId) :
    (takeTrackPart (arrived f sdi s)).gripped l = f.inputBit sdi (.catch_ l) := by
  have grip : (f.image sdi).catches[l] = f.inputBit sdi (.catch_ l) := tabulate_get _ l
  have input : (takeTrackPart (arrived f sdi s)).sbc.input = f.image sdi := by
    rw [takeTrackPart_sbc, tracked_sbc]
    rfl
  simp only [State.gripped, input, grip]

end

/-- What the lever part finds of the levers, the time and the device state. -/
theorem takeTrackPart_arrived (f : Frame) (sdi : BitVec 192) (s : State) :
    (takeTrackPart (arrived f sdi s)).cfg = s.cfg ∧ (takeTrackPart (arrived f sdi s)).llu = s.llu ∧
    (takeTrackPart (arrived f sdi s)).device = s.device ∧
    (takeTrackPart (arrived f sdi s)).tb = s.tb := by
  simp [arrived_frame]

/-- R57, R98: a configured lever and its route after a RESTORED arrival. -/
theorem arrival_restored {f : Frame} {sdi : BitVec 192} {s : State} {l : LeverId} {pos : Position}
    (conf : s.cfg.levers[l].configured = true)
    (contacts : (takeTrackPart (arrived f sdi s)).decoded l = pos) :
    let t := deliverArrival .restored (arrived f sdi s)
    t.llu[l].unseen = false ∧ (∀ p, t.llu[l].release ≠ .stroke p) ∧
    (s.llu[l].unseen = true → t.llu[l].lastFault = s.llu[l].lastFault) ∧
    (∀ p : EndPos, s.device = .service → s.llu[l].unseen = false →
      s.llu[l].position = p.toPosition → pos ≠ p.toPosition → pos ≠ .contradictory →
      t.llu[l].release = .notGranted ∧ t.llu[l].lastFault = some (.unreleased, s.tb.clock) ∧
      t.au[Source.id .leverFault].pending = true) ∧
    (s.device = .service → s.ru[l].state = .releasing → s.llu[l].position = .normal →
      pos = .normal → t.au[Source.id .route].pending = true ∧
        t.ru[l] = { s.ru[l] with
          state := .sequenceFault, cause := some .scanLoss, changed := s.tb.clock }) := by
  intro t
  obtain ⟨cfg, llu, device, tb⟩ := takeTrackPart_arrived f sdi s
  have conf' : (takeTrackPart (arrived f sdi s)).cfg.levers[l].configured = true := by
    rw [cfg]
    exact conf
  refine ⟨restoredPart_unseen conf', restoredPart_noStroke conf', fun unseen => ?unseen,
    fun p service seen stood left agree => ?departed,
    fun service releasing stood stands => ?releasing⟩
  case unseen =>
    have kept := restoredSteps_unseen conf' (by simp only [llu]; exact unseen)
    simp only [llu] at kept
    exact (restoredPart_lastFault conf').trans kept
  case departed =>
    rw [← tb]
    exact restoredPart_departed conf' (device.trans service) (by simp only [llu]; exact seen)
      (by simp only [llu]; exact stood) (contacts ▸ left) (contacts ▸ agree)
  case releasing =>
    have route : (takeTrackPart (arrived f sdi s)).ru[l] = s.ru[l] := by
      have before : (tracked (arrived f sdi s)).ru = s.ru := by simp [tracked, arrived_frame]
      rw [takeTrackPart_eq, occupationEvents_releasing] <;> simp only [before]
      exact releasing
    rw [← tb, ← route]
    exact restoredPart_releasing conf' (device.trans service) (by rw [route]; exact releasing)
      (by simp only [llu]; exact stood) (contacts.trans stands)

/-- Settles O13: the frame delivers, and each block's part is read off the two halves of the arrival. -/
theorem goodFrameDeliversTheArrival : Obligations.GoodFrameDeliversTheArrival := by
  intro s f sdi frame judged good delivers decoded mark
  have contacts : ∀ l, s.cfg.levers[l].configured = true →
      (takeTrackPart (arrived f sdi s)).decoded l = decoded l := fun l conf =>
    arrival_decoded f sdi s conf
  have marked : s.sbc.scan.continuity = mark := by
    simp only [mark]
    cases s.sbc.scan <;> rfl
  have run := frameJudge_delivers frame judged good delivers
  rw [← marked]
  clear_value decoded
  clear mark marked
  obtain ⟨cfg, llu, device, tb⟩ := takeTrackPart_arrived f sdi s
  refine ⟨_, run, ?_⟩
  generalize continuity : s.sbc.scan.continuity = m
  intro dropped spontaneous
  have sbc := deliverArrival_sbc m (arrived f sdi s)
  have spontaneously : ∀ c, (Machine.dropped (arrived f sdi s) (stepCircuits (arrived f sdi s)) c &&
      (stepCircuits (arrived f sdi s)).spontaneous c) = true ↔ spontaneous c :=
    spontaneous_deliverArrival m (arrived f sdi s)
  have sources : (tracked (arrived f sdi s)).au =
      (neighbourChecks (arrived f sdi s) (stepCircuits (arrived f sdi s))).au := by simp [tracked]
  have unstepped : (stepCircuits (arrived f sdi s)).au = s.au := by simp [arrived_frame]
  have scan : (deliverArrival m (arrived f sdi s)).sbc.scan = .running := by
    rw [sbc]
    rfl
  refine ⟨scan, ?frame, ?goodRun, ?badRun, ?input, ?pending, ?circuit, ?otherCircuit, ?fault, ?lever, ?unbound, ?restored,
    ?first, ⟨tracked (arrived f sdi s), takeTrackPart (arrived f sdi s), ?bus, ?table, ?others,
      ?quiet, ?latched, ?trackPart, ?config, ?service, ?leverPart⟩, ?frames⟩
  case circuit => exact arrival_circuit f sdi m s
  case otherCircuit =>
    intro c conf
    have out : ¬(arrived f sdi s).cfg.tracks[c].configured = true := by
      simp [-Fin.getElem_fin, arrived_frame, conf]
    refine ⟨?_, (deliverArrival_lamp m _ c).trans (if_neg out)⟩
    rw [deliverArrival_state, stepCircuits_circuit, if_neg out]
    rfl
  case fault =>
    intro c
    rw [deliverArrival_fault, Bool.or_eq_true, spontaneously]
    rfl
  case lever =>
    intro l conf
    have conf' : (takeTrackPart (arrived f sdi s)).cfg.levers[l].configured = true := by
      rw [cfg]
      exact conf
    obtain ⟨position, grip⟩ := takeLeverPart_records (m := m) conf'
    rw [deliverArrival]
    exact ⟨position.trans (contacts l conf), grip.trans (arrival_gripped f sdi s l),
      takeLeverPart_magnet conf'⟩
  case unbound => exact fun l p h hold => takeLeverPart_unbound
  case restored =>
    intro lost l conf
    rw [← continuity, lost]
    exact arrival_restored conf (contacts l conf)
  case first =>
    intro starting l still agree
    rw [← continuity, starting]
    have kept := firstPart_lastFault (l := l) (s := takeTrackPart (arrived f sdi s))
      (by simp only [llu]; exact still)
      (fun conf => by rw [contacts l (by rw [← cfg]; exact conf)]; exact agree)
    simp only [llu] at kept
    exact kept
  case bus =>
    rw [sbc, tracked_sbc]
    rfl
  case table =>
    intro c
    obtain ⟨state, -, fault⟩ := Track.unmarked_eq (deliverArrival_unmarked m (arrived f sdi s) c)
    refine ⟨state.symm, fault.symm, ?_⟩
    rw [tracked_mark, deliverArrival_state]
    rfl
  case others =>
    intro i ne
    have other := neighbourChecks_otherSource (arrived f sdi s) (stepCircuits (arrived f sdi s)) ne
    simp only [sources, unstepped] at other ⊢
    exact other
  case quiet =>
    intro none
    rw [sources, ← unstepped]
    exact neighbourChecks_quiet fun c =>
      Bool.eq_false_of_not_eq_true (mt (spontaneously c).mp (none c))
  case latched =>
    intro c fault highest
    obtain ⟨multiple, record, several⟩ := neighbourChecks_highest ((spontaneously c).mpr fault)
      fun d above => Bool.eq_false_of_not_eq_true (mt (spontaneously d).mp (highest d above))
    simp only [spontaneously, unstepped] at several record
    simp only [sources]
    exact ⟨multiple, record, several⟩
  case trackPart => exact frame_of_arrived (tracked_frame (arrived f sdi s))
  case config => exact takeTrackPart_config (arrived f sdi s)
  case service => exact takeTrackPart_service m (arrived f sdi s)
  case leverPart => rfl
  case frames => simp [arrived]
  case pending => simp [State.sourcePending, State.level, scan]
  all_goals
    rw [sbc]
    rfl

end Sys2Proof.Machine

/-! The arguments of a load: each reader of an argument is the inverse of the encoding of R187, and what
a reader of a list takes. -/

namespace Sys2Proof.Machine

open Function (IsPartialInv)

/-- A number that encodes no object is not read. -/
theorem reader_none {α β : Type} {raw : β → α} {read : α → Option β} (inverse : IsPartialInv raw read)
    {n : α} : read n = none ↔ ∀ v, raw v ≠ n := by
  rw [Option.eq_none_iff_forall_ne_some]
  exact forall_congr' fun v => not_congr (inverse v n)

/-! ### One argument -/

theorem leverOf_inverse : IsPartialInv (fun l : LeverId => l.val + 1) leverOf := by
  intro l n
  unfold leverOf
  split
  · simp only [Option.some.injEq, Fin.ext_iff]
    omega
  · simp only [reduceCtorEq, false_iff]
    omega

theorem trackOf_inverse : IsPartialInv (fun c : TrackId => c.val + 1) trackOf := by
  intro c n
  unfold trackOf
  split
  · simp only [Option.some.injEq, Fin.ext_iff]
    omega
  · simp only [reduceCtorEq, false_iff]
    omega

theorem leverOf_eq_none {n : Nat} : leverOf n = none ↔ n = 0 ∨ 40 < n := by
  simp only [leverOf, dite_eq_right_iff, reduceCtorEq, imp_false]
  omega

theorem trackOf_eq_none {n : Nat} : trackOf n = none ↔ n = 0 ∨ 32 < n := by
  simp only [trackOf, dite_eq_right_iff, reduceCtorEq, imp_false]
  omega

theorem codeOf_val (c : CodeId) : codeOf c.val = some c := dif_pos c.isLt

theorem lineOf_inverse : IsPartialInv lineNo lineOf := by
  intro x n
  unfold lineOf
  split <;> cases x <;> simp_all [lineNo] <;> omega

/-- R187: the number of an end position. -/
def rawEnd : EndPos → Nat
  | .normal => 0
  | .reverse => 1

theorem endPosOf_inverse : IsPartialInv rawEnd endPosOf := by
  intro p n
  unfold endPosOf
  split <;> cases p <;> simp_all [rawEnd] <;> omega

theorem leverKindOf_rawKind (k : LeverKind) : leverKindOf (rawKind k) = some k := by
  cases k <;> rfl

theorem leverKindOf_eq_none {n : Nat} (above : 2 < n) : leverKindOf n = none := by
  unfold leverKindOf
  split
  case h_4 => rfl
  all_goals omega

theorem meaningOf_rawMeaning (m : Meaning) : meaningOf (rawMeaning m) = some m := by
  cases m <;> rfl

theorem yesNoOf_toNat (b : Bool) : yesNoOf b.toNat = some b := by cases b <;> rfl

theorem meaningOf_eq_none {n : Nat} (above : 8 < n) : meaningOf n = none := by
  unfold meaningOf
  split
  case h_10 => rfl
  all_goals omega

theorem leverOf_eq_some {n : Nat} {l : LeverId} : leverOf n = some l ↔ l.val + 1 = n :=
  leverOf_inverse l n

theorem trackOf_eq_some {n : Nat} {c : TrackId} : trackOf n = some c ↔ c.val + 1 = n :=
  trackOf_inverse c n

/-- R187: a condition reads as the object it encodes. -/
theorem conditionOf_inverse : IsPartialInv rawCondition conditionOf := by
  rintro (⟨l, p⟩ | c) ⟨form, number⟩ <;> simp only [conditionOf]
  · split <;> cases p <;> simp_all [leverOf_eq_some, trackOf_eq_some, rawCondition] <;> omega
  · split <;> simp_all [leverOf_eq_some, trackOf_eq_some, rawCondition]
    omega

/-- R187: a slot input function reads as the object it encodes. -/
theorem inputFunctionOf_inverse (v : InputFunction) (kind number : Nat) :
    inputFunctionOf kind number = some v ↔ rawInput v = (kind, number) := by
  unfold inputFunctionOf
  split <;> cases v <;>
    simp_all [leverOf_eq_some, trackOf_eq_some, rawInput] <;> omega

/-- R187: a slot output function reads as the object it encodes. -/
theorem outputFunctionOf_inverse (v : OutputFunction) (kind number : Nat) :
    outputFunctionOf kind number = some v ↔ rawOutput v = (kind, number) := by
  unfold outputFunctionOf
  split <;> cases v <;>
    simp_all [leverOf_eq_some, trackOf_eq_some, rawOutput] <;> omega

/-- R187: a slot entry reads as the object it encodes. -/
theorem slotEntryOf_inverse : IsPartialInv rawSlot slotEntryOf := by
  rintro ⟨i, o⟩ ⟨inKind, inNumber, outKind, outNumber⟩
  have entry : slotEntryOf ⟨inKind, inNumber, outKind, outNumber⟩ = some ⟨i, o⟩ ↔
      inputFunctionOf inKind inNumber = some i ∧ outputFunctionOf outKind outNumber = some o := by
    unfold slotEntryOf
    dsimp only
    split <;> simp_all
  rw [entry, inputFunctionOf_inverse, outputFunctionOf_inverse]
  simp [rawSlot, Prod.ext_iff, and_assoc]

/-- R187, R189: a points entry reads as the object it encodes. -/
theorem pointsEntryOf_inverse : IsPartialInv rawPoints pointsEntryOf := by
  rintro ⟨l, p, c⟩ ⟨lever, position, circuit⟩
  have entry : pointsEntryOf ⟨lever, position, circuit⟩ = some ⟨l, p, c⟩ ↔
      leverOf lever = some l ∧ endPosOf position = some p ∧ trackOf circuit = some c := by
    unfold pointsEntryOf
    dsimp only
    split <;> simp_all
  rw [entry, leverOf_inverse, endPosOf_inverse, trackOf_inverse]
  cases p <;> simp [rawPoints, rawEnd]

/-- R187, R189: a clearing-hold entry reads as the object it encodes. -/
theorem clearingOf_inverse : IsPartialInv rawClearing clearingOf := by
  rintro ⟨l, p⟩ ⟨lever, position⟩
  have entry : clearingOf ⟨lever, position⟩ = some (l, p) ↔
      leverOf lever = some l ∧ endPosOf position = some p := by
    unfold clearingOf
    dsimp only
    split <;> simp_all
  rw [entry, leverOf_inverse, endPosOf_inverse]
  cases p <;> simp [rawClearing, rawEnd]

/-! ### A list of arguments -/

section
variable {α β : Type}

/-- A list reads as the list of what its elements read as. -/
theorem readAll_map {γ : Type} {read : α → Option β} {raw : γ → α} {value : γ → β} {l : List γ}
    (reads : ∀ v ∈ l, read (raw v) = some (value v)) :
    readAll read (l.map raw) = some (l.map value) := by
  induction l with
  | nil => rfl
  | cons v l ih =>
    rw [List.map_cons, readAll, reads v List.mem_cons_self,
      ih fun w m => reads w (List.mem_cons_of_mem v m)]
    rfl

/-- A list with an element that does not read does not read. -/
theorem readAll_eq_none {read : α → Option β} {l : List α} {n : α} (listed : n ∈ l)
    (unread : read n = none) : readAll read l = none := by
  induction l with
  | nil => cases listed
  | cons v l ih =>
    rcases List.mem_cons.mp listed with rfl | later
    · rw [readAll, unread]
    · rw [readAll, ih later]
      cases read v <;> rfl

/-- A list that is not too long reads as a whole. -/
theorem readUpTo_of_le {n : Nat} {read : α → Option β} {l : List α} (fits : l.length ≤ n) :
    readUpTo n read l = readAll read l :=
  if_neg (by omega)

/-- A list that is too long, or that has an element that does not read, does not read. -/
theorem readUpTo_eq_none {n : Nat} {read : α → Option β} {l : List α}
    (bad : n < l.length ∨ ∃ v ∈ l, read v = none) : readUpTo n read l = none := by
  unfold readUpTo
  split
  · rfl
  · next fits =>
    obtain ⟨v, listed, unread⟩ := bad.resolve_left fits
    exact readAll_eq_none listed unread

/-- Encoded objects, not too many, read as those objects. -/
theorem readUpTo_raw {n : Nat} {raw : β → α} {read : α → Option β}
    (inverse : IsPartialInv raw read) {l : List β} (fits : l.length ≤ n) :
    readUpTo n read (l.map raw) = some l := by
  rw [readUpTo_of_le (by simpa using fits), readAll_map (value := id) fun v _ => inverse.eq v,
    List.map_id]

variable [DecidableEq α]

theorem distinct_iff {l : List α} : distinct l = true ↔ l.Nodup := by
  induction l with
  | nil => simp [distinct]
  | cons v l ih => simp [distinct, ih, List.nodup_cons]

/-- R19: repeats dropped, each element kept at its first place. -/
theorem once_eq_eraseDups (l : List α) : once l = l.eraseDups := by
  induction l using List.reverseRecOn with
  | nil => rfl
  | append_singleton l v ih =>
    have step : once (l ++ [v]) =
        if (once l).contains v then once l else once l ++ [v] :=
      List.foldl_append
    rw [step, ih, List.eraseDups_append]
    by_cases listed : v ∈ l <;> simp [listed, List.removeAll, List.eraseDups_cons]

end

end Sys2Proof.Machine

/-! The six loads that replace one record. -/

namespace Sys2Proof.Machine

open Function (IsPartialInv)

/-- R180: a refused load leaves every state as it is and answers BAD_ARGUMENT. -/
theorem serve_badArgument {n : Byte} {take : State → State × Reply} {s : State} (free : s.portFree)
    (bad : ∃ place, take s = (s, .badArgument place)) :
    ∃ place, serve n take s = .next (s.holding (replyBytes 4 n [place])) := by
  obtain ⟨place, answer⟩ := bad
  exact ⟨BitVec.ofNat 8 place, serve_eq free answer⟩

section
variable {s : State} (config : s.device = .config)
include config

/-! ### LOAD_SLOTS -/

theorem takeLoadSlots_good {n first : Nat} {run : List SlotEntry} {slots : Vector SlotEntry 192}
    (lower : 8 ≤ n) (upper : n ≤ 192) (start : first < 192) (fits : first + run.length ≤ 192)
    (written : ∀ k : SlotId, slots[k] =
      if first ≤ k.val then (run[k.val - first]?).getD s.cfg.slots[k] else s.cfg.slots[k]) :
    takeLoadSlots n first (run.map rawSlot) s =
      (s.setCfg { s.cfg with slots := slots, frameLength := n }, .ok) := by
  have read : slotRunOf first (run.map rawSlot) = some run := by
    rw [slotRunOf, List.length_map, if_neg (by omega)]
    simpa using readAll_map (value := id) fun e (_ : e ∈ run) => slotEntryOf_inverse.eq e
  have table : writeSlots first run s.cfg.slots = slots :=
    table_ext fun k => (tabulate_get _ k).trans (written k).symm
  rw [takeLoadSlots, inConfig_config config, if_neg (by omega), if_neg (by omega), read]
  dsimp only
  rw [table]

theorem takeLoadSlots_bad {n first : Nat} {entries : List RawSlot}
    (bad : n < 8 ∨ 192 < n ∨ 192 ≤ first ∨ 192 < first + entries.length ∨
      ∃ e ∈ entries, ∀ v, rawSlot v ≠ e) :
    ∃ place, takeLoadSlots n first entries s = (s, .badArgument place) := by
  rw [takeLoadSlots, inConfig_config config]
  by_cases length : n < 8 ∨ 192 < n
  · exact ⟨1, if_pos length⟩
  by_cases start : 192 ≤ first
  · exact ⟨2, by rw [if_neg length, if_pos start]⟩
  have unread : slotRunOf first entries = none := by
    unfold slotRunOf
    split
    · rfl
    · obtain ⟨e, listed, raw⟩ : ∃ e ∈ entries, ∀ v, rawSlot v ≠ e := by tauto
      exact readAll_eq_none listed ((reader_none slotEntryOf_inverse).mpr raw)
  exact ⟨3, by rw [if_neg length, if_neg start, unread]⟩

/-! ### LOAD_LEVER -/

omit config in
theorem any_namesLever {lever : Nat} {cs : List RawCondition} :
    cs.any (namesLever lever) = true ↔ ∃ c ∈ cs, (c.form = 0 ∨ c.form = 1) ∧ c.number = lever := by
  simp only [List.any_eq_true, namesLever, Bool.and_eq_true, decide_eq_true_eq]
  refine exists_congr fun c => and_congr_right fun _ => and_congr_left' ?_
  omega

omit config in
/-- R37: a bad condition list is not read. -/
theorem leaveListOf_bad {lever : Nat} {cs : List RawCondition} (bad : badConditions lever cs) :
    leaveListOf lever cs = none := by
  unfold leaveListOf
  split
  · rfl
  · next other =>
    rw [any_namesLever] at other
    rcases bad with long | ⟨c, listed, raw⟩ | names
    · exact readUpTo_eq_none (.inl long)
    · exact readUpTo_eq_none (.inr ⟨c, listed, (reader_none conditionOf_inverse).mpr raw⟩)
    · exact absurd names other

omit config in
/-- R37: any other list of conditions is read. -/
theorem leaveListOf_good {lever : Nat} {cs : List Condition}
    (good : ¬badConditions lever (cs.map rawCondition)) :
    leaveListOf lever (cs.map rawCondition) = some cs := by
  simp only [badConditions, not_or, List.length_map, not_lt] at good
  obtain ⟨fits, -, other⟩ := good
  rw [leaveListOf, if_neg (mt any_namesLever.mp other)]
  exact readUpTo_raw conditionOf_inverse fits

theorem takeLoadLever_good {l : LeverId} {kind : LeverKind} {timeout : Nat} {a b : List Condition}
    (goodA : ¬badConditions (l.val + 1) (a.map rawCondition))
    (goodB : ¬badConditions (l.val + 1) (b.map rawCondition)) :
    takeLoadLever (l.val + 1) (rawKind kind) timeout (a.map rawCondition) (b.map rawCondition) s =
      (s.setCfg { s.cfg with
        levers := s.cfg.levers.set l.val ⟨true, kind, max 10 (min 600 timeout), a, b⟩ }, .ok) := by
  rw [takeLoadLever, inConfig_config config, leverOf_inverse.eq l, leverKindOf_rawKind,
    leaveListOf_good goodA, leaveListOf_good goodB]
  rfl

theorem takeLoadLever_bad {l kind timeout : Nat} {a b : List RawCondition}
    (bad : l = 0 ∨ 40 < l ∨ 2 < kind ∨ badConditions l a ∨ badConditions l b) :
    ∃ place, takeLoadLever l kind timeout a b s = (s, .badArgument place) := by
  have unread : leverOf l = none ∨ leverKindOf kind = none ∨ leaveListOf l a = none ∨
      leaveListOf l b = none := by
    rcases bad with h | h | h | h | h
    · exact .inl (leverOf_eq_none.mpr (.inl h))
    · exact .inl (leverOf_eq_none.mpr (.inr h))
    · exact .inr (.inl (leverKindOf_eq_none h))
    · exact .inr (.inr (.inl (leaveListOf_bad h)))
    · exact .inr (.inr (.inr (leaveListOf_bad h)))
  rw [takeLoadLever, inConfig_config config]
  split
  case h_5 => simp_all
  all_goals exact ⟨_, rfl⟩

/-! ### LOAD_ROUTE -/

theorem takeLoadRoute_good {l : LeverId} {points : List PointsEntry}
    {circuits approach : List TrackId} {time : Nat} (few : points.length ≤ 8)
    (others : ∀ e ∈ points, e.lever ≠ l) (once : (points.map fun e => e.lever).Nodup)
    (short : circuits.length ≤ 6) (apart : circuits.Nodup) (near : approach.length ≤ 3) :
    takeLoadRoute (l.val + 1) (points.map rawPoints) (circuits.map fun c => c.val + 1)
      (approach.map fun c => c.val + 1) time s = (s.setCfg { s.cfg with
        routes := s.cfg.routes.set l.val ⟨true, points, circuits, approach, min 2550 time⟩ },
        .ok) := by
  have pointsRead : pointsListOf (l.val + 1) (points.map rawPoints) = some points := by
    have own : (points.map rawPoints).any (fun e => decide (e.lever = l.val + 1)) = false := by
      simpa [rawPoints, Fin.ext_iff] using others
    have levers : distinct ((points.map rawPoints).map RawPoints.lever) = true := by
      have numbers := once.map leverOf_inverse.injective
      rw [List.map_map] at numbers ⊢
      exact distinct_iff.mpr numbers
    rw [pointsListOf, own, levers]
    exact readUpTo_raw pointsEntryOf_inverse few
  have circuitsRead : routeCircuitsOf (circuits.map fun c => c.val + 1) = some circuits := by
    rw [routeCircuitsOf, if_pos (distinct_iff.mpr (apart.map trackOf_inverse.injective))]
    exact readUpTo_raw trackOf_inverse short
  rw [takeLoadRoute, inConfig_config config, leverOf_inverse.eq l, pointsRead, circuitsRead,
    readUpTo_raw trackOf_inverse near]
  dsimp only [clamp]
  rw [Nat.zero_max]
  rfl

omit config in
/-- R80: a bad points list is not read. -/
theorem pointsListOf_bad {l : Nat} {points : List RawPoints} (bad : 8 < points.length ∨
    (∃ e ∈ points, (∀ v, rawPoints v ≠ e) ∨ e.lever = l) ∨ ¬(points.map fun e => e.lever).Nodup) :
    pointsListOf l points = none := by
  unfold pointsListOf
  split
  · rfl
  · next apart =>
    simp only [Bool.or_eq_true, List.any_eq_true, decide_eq_true_eq, Bool.not_eq_true',
      ← Bool.not_eq_true, distinct_iff, not_or, not_not] at apart
    obtain ⟨others, once⟩ := apart
    rcases bad with long | ⟨e, listed, raw | own⟩ | twice
    · exact readUpTo_eq_none (.inl long)
    · exact readUpTo_eq_none (.inr ⟨e, listed, (reader_none pointsEntryOf_inverse).mpr raw⟩)
    · exact absurd ⟨e, listed, own⟩ others
    · exact absurd once twice

omit config in
/-- R80: a bad list of route circuits is not read. -/
theorem routeCircuitsOf_bad {circuits : List Nat}
    (bad : 6 < circuits.length ∨ ¬circuits.Nodup ∨ ∃ c ∈ circuits, c = 0 ∨ 32 < c) :
    routeCircuitsOf circuits = none := by
  unfold routeCircuitsOf
  split
  · next apart =>
    rcases bad with long | twice | ⟨c, listed, out⟩
    · exact readUpTo_eq_none (.inl long)
    · exact absurd (distinct_iff.mp apart) twice
    · exact readUpTo_eq_none (.inr ⟨c, listed, trackOf_eq_none.mpr out⟩)
  · rfl

theorem takeLoadRoute_bad {l time : Nat} {points : List RawPoints} {circuits approach : List Nat}
    (bad : l = 0 ∨ 40 < l ∨ 8 < points.length ∨
      (∃ e ∈ points, (∀ v, rawPoints v ≠ e) ∨ e.lever = l) ∨
      ¬(points.map fun e => e.lever).Nodup ∨ 6 < circuits.length ∨ ¬circuits.Nodup ∨
      3 < approach.length ∨ ∃ c ∈ circuits ++ approach, c = 0 ∨ 32 < c) :
    ∃ place, takeLoadRoute l points circuits approach time s = (s, .badArgument place) := by
  have unread : leverOf l = none ∨ pointsListOf l points = none ∨
      routeCircuitsOf circuits = none ∨ readUpTo 3 trackOf approach = none := by
    rcases bad with h | h | long | own | twice | long | twice | long | ⟨c, listed, out⟩
    · exact .inl (leverOf_eq_none.mpr (.inl h))
    · exact .inl (leverOf_eq_none.mpr (.inr h))
    · exact .inr (.inl (pointsListOf_bad (.inl long)))
    · exact .inr (.inl (pointsListOf_bad (.inr (.inl own))))
    · exact .inr (.inl (pointsListOf_bad (.inr (.inr twice))))
    · exact .inr (.inr (.inl (routeCircuitsOf_bad (.inl long))))
    · exact .inr (.inr (.inl (routeCircuitsOf_bad (.inr (.inl twice)))))
    · exact .inr (.inr (.inr (readUpTo_eq_none (.inl long))))
    · rcases List.mem_append.mp listed with route | near
      · exact .inr (.inr (.inl (routeCircuitsOf_bad (.inr (.inr ⟨c, route, out⟩)))))
      · exact .inr (.inr (.inr (readUpTo_eq_none (.inr ⟨c, near, trackOf_eq_none.mpr out⟩))))
  rw [takeLoadRoute, inConfig_config config]
  split
  case h_5 => simp_all
  all_goals exact ⟨_, rfl⟩

/-! ### LOAD_TRACK -/

theorem takeLoadTrack_good {c : TrackId} {delay : Nat} {given : List TrackId}
    (few : given.length ≤ 4) (others : c ∉ given) :
    takeLoadTrack (c.val + 1) delay (given.map fun n => n.val + 1) s = ({ s with
      cfg := { s.cfg with
        tracks := s.cfg.tracks.set c.val ⟨true, max 1 (min 100 delay), given.eraseDups⟩ }
      tcm := s.tcm.set c.val { s.tcm[c] with
        timer := if s.tcm[c].state = .pickupTiming then some (max 1 (min 100 delay))
          else s.tcm[c].timer } }, .ok) := by
  have read : neighboursOf (c.val + 1) (given.map fun n => n.val + 1) = some given.eraseDups := by
    have own : (given.map fun n => n.val + 1).contains (c.val + 1) = false := by
      simpa [← Fin.ext_iff] using others
    rw [neighboursOf, own, readUpTo_raw trackOf_inverse few, ← once_eq_eraseDups]
    rfl
  have reloaded (d : Nat) : s.tcm[c].reloaded d = { s.tcm[c] with
      timer := if s.tcm[c].state = .pickupTiming then some d else s.tcm[c].timer } := by
    unfold Track.reloaded
    split <;> rfl
  rw [takeLoadTrack, inConfig_config config, trackOf_inverse.eq c, read]
  dsimp only [clamp, State.setCfg, State.updTrack, tableUpdate]
  rw [reloaded]

omit config in
/-- R19: a bad neighbour list is not read. -/
theorem neighboursOf_bad {c : Nat} {given : List Nat}
    (bad : 4 < given.length ∨ c ∈ given ∨ ∃ n ∈ given, n = 0 ∨ 32 < n) :
    neighboursOf c given = none := by
  unfold neighboursOf
  split
  · rfl
  · next other =>
    rw [List.contains_iff_mem] at other
    rcases bad with long | own | ⟨n, listed, out⟩
    · rw [readUpTo_eq_none (.inl long)]
      rfl
    · exact absurd own other
    · rw [readUpTo_eq_none (.inr ⟨n, listed, trackOf_eq_none.mpr out⟩)]
      rfl

theorem takeLoadTrack_bad {c delay : Nat} {given : List Nat}
    (bad : c = 0 ∨ 32 < c ∨ 4 < given.length ∨ c ∈ given ∨ ∃ n ∈ given, n = 0 ∨ 32 < n) :
    ∃ place, takeLoadTrack c delay given s = (s, .badArgument place) := by
  have unread : trackOf c = none ∨ neighboursOf c given = none := by
    rcases bad with h | h | h
    · exact .inl (trackOf_eq_none.mpr (.inl h))
    · exact .inl (trackOf_eq_none.mpr (.inr h))
    · exact .inr (neighboursOf_bad h)
  rw [takeLoadTrack, inConfig_config config]
  split
  case h_3 => simp_all
  all_goals exact ⟨_, rfl⟩

/-! ### LOAD_LINE -/

theorem takeLoadLine_good {x : Line} {starter home : LeverId} {entry berth : TrackId}
    {conditions : List Condition} {clearing : List (LeverId × EndPos)} {lapse : Nat}
    (two : starter ≠ home) (fits : conditions.length ≤ 12) (few : clearing.length ≤ 4)
    (once : (clearing.map fun e => e.1).Nodup) :
    takeLoadLine (lineNo x) (starter.val + 1) (entry.val + 1) (home.val + 1) (berth.val + 1)
      (conditions.map rawCondition) (clearing.map rawClearing) lapse s = (s.setCfg { s.cfg with
        lines := s.cfg.lines.set x ⟨true, some starter, some entry, some home, some berth,
          conditions, clearing, max 100 (min 6000 lapse)⟩ }, .ok) := by
  have objects : lineObjectsOf (starter.val + 1) (entry.val + 1) (home.val + 1) (berth.val + 1) =
      .ok (starter, entry, home, berth) := by
    have apart : home.val + 1 ≠ starter.val + 1 := by
      simpa [Fin.ext_iff, eq_comm] using two
    rw [lineObjectsOf, leverOf_inverse.eq starter, trackOf_inverse.eq entry, homeOf, if_neg apart,
      leverOf_inverse.eq home, trackOf_inverse.eq berth]
  have holds : clearingListOf (clearing.map rawClearing) = some clearing := by
    have levers : distinct ((clearing.map rawClearing).map RawClearing.lever) = true := by
      have numbers := once.map leverOf_inverse.injective
      rw [List.map_map] at numbers ⊢
      exact distinct_iff.mpr numbers
    rw [clearingListOf, if_pos levers]
    exact readUpTo_raw clearingOf_inverse few
  rw [takeLoadLine, inConfig_config config, lineOf_inverse.eq x, objects,
    readUpTo_raw conditionOf_inverse fits, holds]
  rfl

omit config in
/-- R124: lever and circuit numbers that are out of range, or one lever twice, name no objects. -/
theorem lineObjectsOf_bad {starter entry home berth : Nat} (bad : starter = 0 ∨ 40 < starter ∨
    entry = 0 ∨ 32 < entry ∨ home = 0 ∨ 40 < home ∨ home = starter ∨ berth = 0 ∨ 32 < berth) :
    ∃ place, lineObjectsOf starter entry home berth = .error place := by
  have unread : leverOf starter = none ∨ trackOf entry = none ∨ homeOf starter home = none ∨
      trackOf berth = none := by
    simp only [homeOf, leverOf_eq_none, trackOf_eq_none, ite_eq_left_iff]
    tauto
  unfold lineObjectsOf
  split
  case h_5 => simp_all
  all_goals exact ⟨_, rfl⟩

omit config in
/-- R124: a bad clearing-hold list is not read. -/
theorem clearingListOf_bad {clearing : List RawClearing} (bad : 4 < clearing.length ∨
    (∃ e ∈ clearing, ∀ v, rawClearing v ≠ e) ∨ ¬(clearing.map fun e => e.lever).Nodup) :
    clearingListOf clearing = none := by
  unfold clearingListOf
  split
  · next apart =>
    rcases bad with long | ⟨e, listed, raw⟩ | twice
    · exact readUpTo_eq_none (.inl long)
    · exact readUpTo_eq_none (.inr ⟨e, listed, (reader_none clearingOf_inverse).mpr raw⟩)
    · exact absurd (distinct_iff.mp apart) twice
  · rfl

omit config in
theorem lineOf_eq_none {n : Nat} (above : 2 < n) : lineOf n = none :=
  (reader_none lineOf_inverse).mpr fun x => by cases x <;> simp only [lineNo] <;> omega

theorem takeLoadLine_bad {x starter entry home berth lapse : Nat} {conditions : List RawCondition}
    {clearing : List RawClearing} (bad : 2 < x ∨ starter = 0 ∨ 40 < starter ∨ entry = 0 ∨
      32 < entry ∨ home = 0 ∨ 40 < home ∨ home = starter ∨ berth = 0 ∨ 32 < berth ∨
      12 < conditions.length ∨ (∃ c ∈ conditions, ∀ v, rawCondition v ≠ c) ∨
      4 < clearing.length ∨ (∃ e ∈ clearing, ∀ v, rawClearing v ≠ e) ∨
      ¬(clearing.map fun e => e.lever).Nodup) :
    ∃ place, takeLoadLine x starter entry home berth conditions clearing lapse s =
      (s, .badArgument place) := by
  have unread : lineOf x = none ∨
      (∃ place, lineObjectsOf starter entry home berth = .error place) ∨
      readUpTo 12 conditionOf conditions = none ∨ clearingListOf clearing = none := by
    have grouped : 2 < x ∨ (starter = 0 ∨ 40 < starter ∨ entry = 0 ∨ 32 < entry ∨ home = 0 ∨
        40 < home ∨ home = starter ∨ berth = 0 ∨ 32 < berth) ∨
        (12 < conditions.length ∨ ∃ c ∈ conditions, ∀ v, rawCondition v ≠ c) ∨
        4 < clearing.length ∨ (∃ e ∈ clearing, ∀ v, rawClearing v ≠ e) ∨
        ¬(clearing.map fun e => e.lever).Nodup := by
      simpa only [or_assoc] using bad
    refine grouped.imp lineOf_eq_none (.imp lineObjectsOf_bad (.imp (fun h => ?_) clearingListOf_bad))
    exact readUpTo_eq_none (h.imp_right fun ⟨c, listed, raw⟩ =>
      ⟨c, listed, (reader_none conditionOf_inverse).mpr raw⟩)
  rw [takeLoadLine, inConfig_config config]
  split
  case h_5 => simp_all
  all_goals exact ⟨_, rfl⟩

/-! ### LOAD_CODE -/

omit config in
theorem countOfGroup_eq_none {n : Nat} (out : n = 0 ∨ 9 < n) : countOfGroup n = none :=
  if_neg (by omega)

omit config in
theorem careOf_eq_none {n : Nat} (above : 1 < n) : careOf n = none := by
  unfold careOf
  split
  case h_3 => rfl
  all_goals omega

omit config in
theorem yesNoOf_eq_none {n : Nat} (above : 1 < n) : yesNoOf n = none := by
  unfold yesNoOf
  split
  case h_3 => rfl
  all_goals omega

omit config in
/-- R107: the counts and the care mask of a pattern give its groups again. -/
theorem codeEntryFrom_pattern (pattern : List GroupSpec) (m : Meaning) (cls : Option Nat)
    (send : Bool) :
    codeEntryFrom (pattern.map fun g => g.count) (pattern.map fun g => g.care) m cls send =
      if pattern = [] then none else some ⟨pattern, m, cls, send⟩ := by
  have groups : ((pattern.map fun g => g.count).zip (pattern.map fun g => g.care)).map
      (fun g => (⟨g.1, g.2⟩ : GroupSpec)) = pattern := by
    rw [List.zip_map', List.map_map]
    exact List.map_id pattern
  rw [codeEntryFrom, groups]
  cases pattern <;> rfl

theorem takeLoadCode_good {c : CodeId} {pattern : List GroupSpec} {m : Meaning} {cls : Nat}
    {send : Bool} (fits : pattern.length ≤ 6) (counts : ∀ g ∈ pattern, 1 ≤ g.count ∧ g.count ≤ 9)
    (offer : m = .offer → 1 ≤ cls ∧ cls ≤ 15) :
    takeLoadCode c.val (pattern.map fun g => g.count)
      (pattern.map fun g => if g.care then 0 else 1) (rawMeaning m) cls send.toNat s =
      (s.setCfg { s.cfg with
        codes := s.cfg.codes.set c.val (if pattern = [] then none
          else some ⟨pattern, m, if m = .offer then some cls else none, send⟩) }, .ok) := by
  have countsRead : readUpTo 6 countOfGroup (pattern.map fun g => g.count) =
      some (pattern.map fun g => g.count) := by
    rw [readUpTo_of_le (by simpa using fits)]
    exact readAll_map fun g listed => if_pos (counts g listed)
  have mask : maskOf (pattern.map fun g => g.count) (pattern.map fun g => if g.care then 0 else 1) =
      some (pattern.map fun g => g.care) := by
    rw [maskOf, List.length_map, List.length_map, if_pos rfl]
    exact readAll_map fun g _ => by cases g.care <;> rfl
  have cls' : classOf m cls = some (if m = .offer then some cls else none) := by
    unfold classOf
    by_cases offers : m = .offer
    · rw [if_pos offers, if_pos offers, if_pos (offer offers)]
    · rw [if_neg offers, if_neg offers]
  rw [takeLoadCode, inConfig_config config, codeOf_val, countsRead, mask, meaningAndClassOf,
    meaningOf_rawMeaning, yesNoOf_toNat]
  dsimp only
  rw [cls']
  dsimp only
  rw [codeEntryFrom_pattern]
  rfl

omit config in
/-- R107: a meaning out of range, or an OFFER with a class out of range, is not read. -/
theorem meaningAndClassOf_bad {meaning cls : Nat}
    (bad : 8 < meaning ∨ (meaning = 1 ∧ (cls = 0 ∨ 15 < cls))) :
    ∃ place, meaningAndClassOf meaning cls = .error place := by
  rcases bad with above | ⟨rfl, out⟩
  · exact ⟨4, by rw [meaningAndClassOf, meaningOf_eq_none above]⟩
  · have unread : classOf .offer cls = none := by
      rw [classOf, if_pos rfl, if_neg (by omega)]
    exact ⟨5, by simp only [meaningAndClassOf, meaningOf, unread]⟩

theorem takeLoadCode_bad {c meaning cls send : Nat} {pattern mask : List Nat}
    (bad : 32 ≤ c ∨ 6 < pattern.length ∨ (∃ g ∈ pattern, g = 0 ∨ 9 < g) ∨
      mask.length ≠ pattern.length ∨ (∃ g ∈ mask, 1 < g) ∨ 8 < meaning ∨
      (meaning = 1 ∧ (cls = 0 ∨ 15 < cls)) ∨ 1 < send) :
    ∃ place, takeLoadCode c pattern mask meaning cls send s = (s, .badArgument place) := by
  have unread : codeOf c = none ∨ readUpTo 6 countOfGroup pattern = none ∨
      maskOf pattern mask = none ∨ (∃ place, meaningAndClassOf meaning cls = .error place) ∨
      yesNoOf send = none := by
    rcases bad with h | long | ⟨g, listed, out⟩ | uneven | ⟨g, listed, out⟩ | above | offer | h
    · exact .inl (dif_neg (by omega))
    · exact .inr (.inl (readUpTo_eq_none (.inl long)))
    · exact .inr (.inl (readUpTo_eq_none (.inr ⟨g, listed, countOfGroup_eq_none out⟩)))
    · exact .inr (.inr (.inl (if_neg uneven)))
    · refine .inr (.inr (.inl ?_))
      unfold maskOf
      split
      · exact readAll_eq_none listed (careOf_eq_none out)
      · rfl
    · exact .inr (.inr (.inr (.inl (meaningAndClassOf_bad (.inl above)))))
    · exact .inr (.inr (.inr (.inl (meaningAndClassOf_bad (.inr offer)))))
    · exact .inr (.inr (.inr (.inr (yesNoOf_eq_none h))))
  rw [takeLoadCode, inConfig_config config]
  split
  case h_6 => simp_all
  all_goals exact ⟨_, rfl⟩

end

/-- Settles O48: each load in turn, taken and refused. -/
theorem loadsReplaceOneRecordOrNothing : Obligations.LoadsReplaceOneRecordOrNothing := by
  intro s free
  refine ⟨fun service => ?service, fun config => ?config⟩
  case service =>
    have refused {n : Byte} {take : State → State × Reply} :
        serve n (inConfig take) s = .next (s.holding (replyBytes 5 n [])) :=
      serve_eq free (inConfig_service service)
    exact ⟨fun _ _ _ => refused, fun _ _ _ _ _ => refused, fun _ _ _ _ _ => refused,
      fun _ _ _ => refused, fun _ _ _ _ _ _ _ _ => refused, fun _ _ _ _ _ _ => refused⟩
  case config =>
    intro done refused
    refine ⟨?_, ?_, ?_, ?_, ?_, ?_, ?_, ?_, ?_, ?_, ?_, ?_⟩
    · exact fun n first run slots lower upper start fits written =>
        serve_eq free (takeLoadSlots_good config lower upper start fits written)
    · exact fun n first entries bad => serve_badArgument free (takeLoadSlots_bad config bad)
    · exact fun l kind timeout a b goodA goodB =>
        serve_eq free (takeLoadLever_good config goodA goodB)
    · exact fun l kind timeout a b bad => serve_badArgument free (takeLoadLever_bad config bad)
    · exact fun l points circuits approach time few others once short apart near =>
        serve_eq free (takeLoadRoute_good config few others once short apart near)
    · exact fun l points circuits approach time bad =>
        serve_badArgument free (takeLoadRoute_bad config bad)
    · exact fun c delay given few others => serve_eq free (takeLoadTrack_good config few others)
    · exact fun c delay given bad => serve_badArgument free (takeLoadTrack_bad config bad)
    · exact fun x starter home entry berth conditions clearing lapse two fits few once =>
        serve_eq free (takeLoadLine_good config two fits few once)
    · exact fun x starter entry home berth conditions clearing lapse bad =>
        serve_badArgument free (takeLoadLine_bad config bad)
    · exact fun c pattern m cls send fits counts offer =>
        serve_eq free (takeLoadCode_good config fits counts offer)
    · exact fun c pattern mask meaning cls send bad =>
        serve_badArgument free (takeLoadCode_bad config bad)

end Sys2Proof.Machine

/-! One step of the part: what every event and every owner of a request keeps, a step keeps. -/

namespace Sys2Proof.Machine

/-! ### A request reaches its owner -/

/-- The commands that are events of the part, and neither requests nor events at the port's pins. -/
def isEvent : Instr → Bool
  | .fullReset | .tick _ _ _ | .tenthBoundary | .frameOpen | .frameJudge _ | .pickupExpiry
  | .strokeTimeout _ | .approachExpiry _ | .emergencyExpiry _ | .codeEnd _ | .sendCompletion _
  | .blankingEnd _ _ | .repetitionDeadlineExpiry _ | .instrumentSettling _ | .quietWaitEnd _
  | .lapseExpiry _ _ | .closingFrame | .closingSync => true
  | _ => false

section
variable {P : State → Prop} {s : State}
  (port : ∀ (s : State) (queue : List Instr) (cp : ConsolePort) (draws : Nat), P s →
    P { s with pending := queue, cp := cp, draws := draws })
include port

/-- R177: what an owner's rule keeps, the answer to its request keeps. -/
theorem replyOrWait_keeps (request : Byte) {answer : State × Option Reply} (kept : P answer.1) :
    P (replyOrWait request answer) := by
  unfold replyOrWait
  split
  · exact port _ _ _ _ kept
  · exact port _ _ _ _ kept

/-- A request command keeps what its owner's rule keeps. -/
theorem serve_keeps {request : Byte} {take : State → State × Reply} {t : State} (law : P s)
    (kept : P (take s).1) (run : serve request take s = .next t) : P t := by
  rcases serve_cases request take s with e | e <;> rw [e] at run <;> cases run
  · exact law
  · exact port _ _ _ _ kept

variable (requests : ∀ (i : Instr) (s : State), P s → P (handRequest i s).1)
include requests

/-- R177, R178: the frame stored is answered, or handed to its owner. -/
theorem judgeStored_keeps (law : P s) : P (judgeStored s) := by
  unfold judgeStored
  dsimp only
  split
  · exact port _ _ _ _ law
  · exact port _ _ _ _ law
  · exact replyOrWait_keeps port _ (requests _ _ law)

theorem takeDeselection_keeps (at_ : PortState) (law : P s) : P (takeDeselection at_ s) := by
  have deselected := port s s.pending { s.cp with selected := none, miso := [] } s.draws law
  unfold takeDeselection
  cases at_ with
  | idle =>
    dsimp only
    split
    · exact deselected
    · exact judgeStored_keeps port requests (port _ _ _ _ deselected)
  | executing => exact deselected
  | replyReady => exact port _ _ _ _ deselected

variable (events : ∀ (i : Instr) (s t : State), isEvent i = true → P s → exec i s = .next t → P t)
include events

theorem exec_keeps {i : Instr} {t : State} (law : P s) (run : exec i s = .next t) : P t := by
  have owner := requests i s law
  cases i
  case fullReset | tick | tenthBoundary | frameOpen | frameJudge | pickupExpiry | strokeTimeout
      | approachExpiry | emergencyExpiry | codeEnd | sendCompletion | blankingEnd
      | repetitionDeadlineExpiry | instrumentSettling | quietWaitEnd | lapseExpiry | closingFrame
      | closingSync => exact events _ _ _ rfl law run
  case portSelection mosi =>
    change execPortSelection mosi s = _ at run
    unfold execPortSelection at run
    split at run <;> cases run
    · exact port _ _ _ _ law
    · exact law
  case portDeselection =>
    change execPortDeselection s = _ at run
    unfold execPortDeselection at run
    split at run <;> cases run
    · exact takeDeselection_keeps port requests _ law
    · exact law
  case scanStop =>
    change execScanStop s = _ at run
    unfold execScanStop at run
    split at run <;> cases run
    · exact law
    · exact replyOrWait_keeps port _ owner
  all_goals exact serve_keeps port law owner run

/-- What the port's part, every owner's rule and every event keep, a step keeps. -/
theorem step_keeps {t : State} (law : P s) (run : step s = .next t) : P t := by
  unfold step at run
  split at run
  · exact exec_keeps port requests events (port s _ s.cp s.draws law) run
  · cases run; exact law

end

end Sys2Proof.Machine

/-! The clearance law: a circuit is known only with the scan RUNNING and the circuit configured, and a
pickup timer runs only in PICKUP_TIMING. -/

namespace Sys2Proof.Machine

/-! ### What leaves the law alone -/

/-- What the clearance law reads is the same in both states. -/
structure CircuitsKept (s t : State) : Prop where
  circuits : ∀ c : TrackId, t.tcm[c].state = s.tcm[c].state ∧ t.tcm[c].timer = s.tcm[c].timer
  scan : t.sbc.scan = s.sbc.scan
  tracks : t.cfg.tracks = s.cfg.tracks

namespace CircuitsKept
variable {s t u : State}

theorem of_eq (tcm : t.tcm = s.tcm) (scan : t.sbc.scan = s.sbc.scan) (cfg : t.cfg.tracks = s.cfg.tracks) :
    CircuitsKept s t :=
  ⟨fun _ => by rw [tcm]; exact ⟨rfl, rfl⟩, scan, cfg⟩

theorem refl (s : State) : CircuitsKept s s := of_eq rfl rfl rfl

theorem trans (a : CircuitsKept s t) (b : CircuitsKept t u) : CircuitsKept s u where
  circuits c := ⟨(b.circuits c).1.trans (a.circuits c).1, (b.circuits c).2.trans (a.circuits c).2⟩
  scan := b.scan.trans a.scan
  tracks := b.tracks.trans a.tracks

/-- A mark or a fault flag written leaves what the law reads. -/
theorem of_unmarked (marks : t.tcm.map Track.unmarked = s.tcm.map Track.unmarked)
    (scan : t.sbc.scan = s.sbc.scan) (cfg : t.cfg.tracks = s.cfg.tracks) : CircuitsKept s t where
  circuits c := by
    have same : (t.tcm.map Track.unmarked)[c] = (s.tcm.map Track.unmarked)[c] := by rw [marks]
    rw [map_get, map_get] at same
    obtain ⟨state, timer, -⟩ := Track.unmarked_eq same
    exact ⟨state, timer⟩
  scan := scan
  tracks := cfg

theorem of_passWork (work : PassWork s t) : CircuitsKept s t :=
  of_unmarked work.circuits (congrArg ScanBus.scan work.sbc) (congrArg ConfigStore.tracks work.cfg)

theorem law (kept : CircuitsKept s t) (law : ClearanceLaw s) : ClearanceLaw t where
  known c known := by
    rw [kept.scan, kept.tracks]
    exact law.known c ((kept.circuits c).1 ▸ known)
  timing c runs := by
    rw [(kept.circuits c).1]
    exact law.timing c ((kept.circuits c).2 ▸ runs)

end CircuitsKept

/-- R20: with the scan not RUNNING every circuit is UNKNOWN with no timer. -/
theorem ClearanceLaw.unknown {s : State} (law : ClearanceLaw s) {c : TrackId}
    (out : s.sbc.scan ≠ .running ∨ s.cfg.tracks[c].configured = false) :
    s.tcm[c].state = .unknown ∧ s.tcm[c].timer = none := by
  have state : s.tcm[c].state = .unknown := by
    by_contra known
    obtain ⟨running, conf⟩ := law.known c known
    rcases out with stopped | none
    · exact stopped running
    · rw [conf] at none; cases none
  refine ⟨state, ?_⟩
  by_contra runs
  rw [law.timing c runs] at state
  cases state

/-- R20: a state in which every circuit is UNKNOWN with no timer meets the law. -/
theorem clearanceLaw_of_unknown {s : State}
    (unknown : ∀ c : TrackId, s.tcm[c].state = .unknown ∧ s.tcm[c].timer = none) :
    ClearanceLaw s where
  known c known := absurd (unknown c).1 known
  timing c runs := absurd (unknown c).2 runs

/-! ### The arrival and the withdrawal -/

/-- R22, R23: the table leaves a timer running in PICKUP_TIMING only. -/
theorem Track.step_timing {r : Track} (timing : r.timer ≠ none → r.state = .pickupTiming)
    (delay : Nat) (up : Bool) (clock : Clock) (runs : (r.step delay up clock).timer ≠ none) :
    (r.step delay up clock).state = .pickupTiming := by
  rw [Track.step_timer] at runs
  rw [Track.step_state]
  cases state : r.state <;> cases up <;> simp_all

section
variable {s : State} (law : ClearanceLaw s)
include law

/-- R22, R23: an arrival moves configured circuits only, and starts timers only in PICKUP_TIMING. -/
theorem deliverArrival_clearance (m : Continuity) (running : s.sbc.scan = .running) :
    ClearanceLaw (deliverArrival m s) := by
  have scan : (deliverArrival m s).sbc.scan = .running := by rw [deliverArrival_sbc]; exact running
  constructor
  · intro c known
    simp only [scan, deliverArrival_frame, true_and]
    rw [deliverArrival_state, stepCircuits_circuit] at known
    by_contra none
    rw [if_neg none] at known
    exact none (law.known c known).2
  · intro c runs
    rw [deliverArrival_timer, stepCircuits_circuit] at runs
    rw [deliverArrival_state, stepCircuits_circuit]
    split at runs
    · next conf => rw [if_pos conf]; exact Track.step_timing (law.timing c) _ _ _ runs
    · next none => rw [if_neg none]; exact law.timing c runs

/-- R30: a scan-withdrawn notice makes every configured circuit UNKNOWN; the others were so. -/
theorem trackWithdrawn_unknown (c : TrackId) :
    (trackWithdrawn s).tcm[c].state = .unknown ∧ (trackWithdrawn s).tcm[c].timer = none := by
  rw [trackWithdrawn_circuit]
  split
  · simp
  · next none => exact law.unknown (.inr (by simpa using none))

/-- R12, R16: both notices of a withdrawal, whatever the scan state that is entered. -/
theorem scanWithdrawn_clearance (b : ScanBus) :
    ClearanceLaw (leverWithdrawn (trackWithdrawn (s.setSbc b))) := by
  refine clearanceLaw_of_unknown fun c => ?_
  have same : (trackWithdrawn (s.setSbc b)).tcm = (trackWithdrawn s).tcm := rfl
  simp only [leverWithdrawn_frame, same]
  exact trackWithdrawn_unknown law c

/-- The Scan Bus Controller written, with the scan state as it was. -/
theorem setSbc_clearance {b : ScanBus} (scan : b.scan = s.sbc.scan) : ClearanceLaw (s.setSbc b) :=
  CircuitsKept.law (s := s) (.of_eq rfl scan rfl) law

/-- R10, R13: the scan becomes RUNNING. -/
theorem enterRunning_clearance : ClearanceLaw (enterRunning s) :=
  ⟨fun c known => ⟨rfl, (law.known c known).2⟩, law.timing⟩

theorem afterGood_clearance : ClearanceLaw (afterGood s) := by
  unfold afterGood
  split
  · split
    · exact deliverArrival_clearance (enterRunning_clearance law) _ rfl
    · exact law
  · split
    · exact deliverArrival_clearance (enterRunning_clearance law) _ rfl
    · exact law
  · next running => exact deliverArrival_clearance law _ running
  · exact law

theorem afterBad_clearance : ClearanceLaw (afterBad s) := by
  unfold afterBad loseScan
  split
  · exact scanWithdrawn_clearance law _
  · exact law

theorem judgeFrame_clearance (f : Frame) (sdi : BitVec 192) : ClearanceLaw (judgeFrame f sdi s) := by
  unfold judgeFrame
  split
  · exact setSbc_clearance law rfl
  · split
    · exact afterGood_clearance (setSbc_clearance law rfl)
    · exact afterBad_clearance (setSbc_clearance law rfl)

theorem stopScan_clearance : ClearanceLaw (stopScan s) := by
  unfold stopScan
  dsimp only
  split
  · exact scanWithdrawn_clearance law _
  · next out =>
    exact clearanceLaw_of_unknown fun c => law.unknown (.inl fun running => out (.inl running))

/-! ### The pickup timers -/

omit law in
/-- R23: every circuit after an expiry: one that is due becomes CLEAR with its timer ended. -/
theorem clearDue_circuit (s : State) (c : TrackId) : (clearDue s).tcm[c] =
    if s.pickupDue c then { s.tcm[c].enters .clear s.tb.clock with timer := none } else s.tcm[c] :=
  tabulate_get _ c

theorem clearDue_clearance : ClearanceLaw (clearDue s) := by
  have scan : (clearDue s).sbc.scan = s.sbc.scan := by dsimp only [clearDue]
  constructor
  · intro c known
    simp only [scan, clearDue_frame]
    refine law.known c fun unknown => known ?_
    rw [clearDue_circuit, State.pickupDue, unknown]
    simpa using unknown
  · intro c runs
    rw [clearDue_circuit] at runs ⊢
    split at runs
    · exact absurd rfl runs
    · next waits => rw [if_neg waits]; exact law.timing c runs

/-- R165: a boundary counted starts and ends no timer. -/
theorem takeBoundary_clearance : ClearanceLaw (takeBoundary s) := by
  have pass : (takeBoundary s).tcm = s.tcm.map Track.boundary := rfl
  have circuit (c : TrackId) : (takeBoundary s).tcm[c] = s.tcm[c].boundary := by rw [pass, map_get]
  constructor
  · intro c known
    rw [circuit] at known
    exact law.known c known
  · intro c runs
    rw [circuit] at runs ⊢
    exact law.timing c fun none => runs (by rw [Track.boundary, none]; rfl)

/-- R19, R20: a circuit loaded is configured, and its timer starts anew only in PICKUP_TIMING. -/
theorem loadTrack_clearance (c : TrackId) (cfg : TrackConfig) (conf : cfg.configured = true)
    (delay : Nat) : ClearanceLaw ((s.setCfg { s.cfg with
      tracks := tableUpdate s.cfg.tracks c fun _ => cfg }).updTrack c fun r => r.reloaded delay) := by
  have state (d : TrackId) : (tableUpdate s.tcm c fun r => r.reloaded delay)[d].state =
      s.tcm[d].state := by
    rw [tableUpdate_get]
    unfold Track.reloaded
    (repeat' split) <;> rfl
  constructor
  · intro d known
    obtain ⟨running, was⟩ := law.known d (state d ▸ known)
    refine ⟨running, ?_⟩
    simp only [State.updTrack_cfg, State.setCfg_cfg, tableUpdate_get]
    split
    · exact conf
    · exact was
  · intro d runs
    refine (state d).trans ?_
    simp only [State.updTrack_tcm, State.setCfg_tcm, tableUpdate_get, Track.reloaded] at runs
    split at runs
    · split at runs
      · assumption
      · exact law.timing d runs
    · exact law.timing d runs

end

end Sys2Proof.Machine

/-! The clearance law over the owners of the requests and over the events. -/

namespace Sys2Proof.Machine

/-! ### Requests -/

namespace CircuitsKept
variable (s : State)

/-- R180: a load of another table than the circuits' changes nothing the law reads. -/
theorem inConfig {take : State → State × Reply}
    (owner : (take s).1.tcm = s.tcm ∧ (take s).1.sbc = s.sbc ∧ (take s).1.cfg.tracks = s.cfg.tracks) :
    CircuitsKept s (inConfig take s).1 := by
  unfold Machine.inConfig
  split
  · exact refl s
  · obtain ⟨tcm, sbc, tracks⟩ := owner
    exact of_eq tcm (congrArg ScanBus.scan sbc) tracks

/-- A request about a record changes nothing when it is refused, and what its own rule leaves
otherwise. -/
theorem withRecord (train : Nat) {k : TrainId → Train → State → State × Reply}
    (owner : ∀ r t, CircuitsKept s (k r t s).1) : CircuitsKept s (withRecord train k s).1 := by
  unfold Machine.withRecord
  (repeat' split)
  · exact refl s
  · exact refl s
  · exact refl s
  · exact owner _ _

/-- R183: ENTER_SERVICE clears marks. -/
theorem takeEnterService : CircuitsKept s (takeEnterService s).1 := by
  unfold Machine.takeEnterService enterService createBlockHolds
  (repeat' split)
  · exact refl s
  · exact refl s
  · exact refl s
  · exact refl s
  · constructor <;> simp only [forEachLine, ensureBlock_frame]
    intro c
    rw [map_get]
    exact ⟨rfl, rfl⟩

/-- R35: CLEAR_MARK clears a mark and a fault flag. -/
theorem takeClearMark (t : Nat) : CircuitsKept s (takeClearMark t s).1 := by
  unfold Machine.takeClearMark
  (repeat' split)
  · exact refl s
  · refine ⟨fun c => ?_, rfl, rfl⟩
    simp only [State.updTrack_tcm, tableUpdate_get]
    split <;> exact ⟨rfl, rfl⟩
  · exact refl s

/-- R153: the group of an acceptance writes holds and what follows a send. -/
theorem acceptGroup (x : Line) (r : TrainId) (d : Option Description) (heard : List Nat) :
    CircuitsKept s (acceptGroup x r d heard s).1 := by
  unfold Machine.acceptGroup
  rcases createGroup_cases (clearingGroup x s) (.line x) s with ⟨-, e⟩ | ⟨-, -, e⟩ | ⟨-, -, e⟩ <;>
    rw [e] <;> dsimp only
  · exact refl s
  · split <;> apply of_eq <;> simp [retireClearing]
  · apply of_eq <;> simp

theorem takeAccept (r : Nat) (d : Option Description) : CircuitsKept s (takeAccept r d s).1 := by
  refine withRecord s r fun r t => ?_
  (repeat' split)
  · exact refl s
  · exact refl s
  · exact refl s
  · exact refl s
  · exact acceptGroup s _ r d _
  · exact refl s

end CircuitsKept

/-- What the owners of all but three requests leave alone. -/
theorem handRequest_circuits {i : Instr} (s : State) (load : ∀ c d ns, i ≠ .loadTrack c d ns)
    (start : i ≠ .scanStart) (stop : i ≠ .scanStop) : CircuitsKept s (handRequest i s).1 := by
  cases i
  case loadTrack c d ns => exact absurd rfl (load c d ns)
  case scanStart => exact absurd rfl start
  case scanStop => exact absurd rfl stop
  case loadSlots | loadLever | loadRoute | loadLine | loadCode | loadTiming =>
    refine CircuitsKept.inConfig s ?_
    dsimp only
    (repeat' split) <;> simp [loadTimingSet]
  case enterService => exact .takeEnterService s
  case clearMark => exact .takeClearMark s _
  case accept => exact .takeAccept s _ _
  case retireTrain | tailSeen | outOfSection | cancelOffer =>
    refine CircuitsKept.withRecord s _ fun r t => ?_
    (repeat' split) <;> apply CircuitsKept.of_eq <;> simp
  case readLever | readTrack | readRoute | readHold | listHolds | readLine | readCode | readTrain =>
    simp only [handRequest, atOnce, takeReadLever, takeReadTrack, takeReadRoute, takeReadHold,
      takeListHolds, takeReadLine, takeReadCode, takeReadTrain]
    (repeat' split) <;> exact .refl s
  case loadAttention | placeBar | removeBar | timedRelease | createTrain | setDestination | offer
      | acknowledge | sendCode | restoreLine | releaseCode | clearAttention | setClock =>
    simp only [handRequest, atOnce, takeLoadAttention, takePlaceBar, takeRemoveBar, takeTimedRelease,
      takeCreateTrain, takeSetDestination, takeOffer, takeAcknowledge, takeSendCode,
      takeRestoreLine, takeReleaseCode, takeClearAttention, takeSetClock]
    (repeat' split) <;> apply CircuitsKept.of_eq <;> simp
  all_goals exact .of_eq rfl rfl rfl

section
variable {s : State} (law : ClearanceLaw s)
include law

theorem takeLoadTrack_clearance (c d : Nat) (ns : List Nat) :
    ClearanceLaw (takeLoadTrack c d ns s).1 := by
  unfold takeLoadTrack inConfig
  dsimp only
  (repeat' split)
  · exact law
  · exact law
  · exact law
  · exact loadTrack_clearance law _ _ rfl _

/-- R15: the scan starts from STOPPED, with every circuit UNKNOWN. -/
theorem takeScanStart_clearance : ClearanceLaw (takeScanStart s).1 := by
  unfold takeScanStart
  split
  · exact law
  · next start =>
    have stopped : s.sbc.scan = .stopped := by
      by_contra other
      exact start (.inr other)
    exact clearanceLaw_of_unknown fun c => law.unknown (.inl (by simp [stopped]))

theorem takeScanStop_clearance : ClearanceLaw (takeScanStop s).1 := by
  unfold takeScanStop
  (repeat' split)
  · exact law
  · exact law
  · exact stopScan_clearance law

theorem handRequest_clearance (i : Instr) : ClearanceLaw (handRequest i s).1 := by
  by_cases load : ∃ c d ns, i = .loadTrack c d ns
  · obtain ⟨c, d, ns, rfl⟩ := load
    exact takeLoadTrack_clearance law c d ns
  · by_cases start : i = .scanStart
    · subst start; exact takeScanStart_clearance law
    · by_cases stop : i = .scanStop
      · subst stop; exact takeScanStop_clearance law
      · exact (handRequest_circuits s (fun c d ns e => load ⟨c, d, ns, e⟩) start stop).law law

/-! ### Events -/

omit law in
/-- R33: the clearance events touch no more of a circuit than its mark. -/
theorem clearanceEvents_circuits (before s : State) :
    (clearanceEvents before s).tcm.map Track.unmarked = s.tcm.map Track.unmarked := by
  unfold clearanceEvents
  split
  · refine forEach_field (fun u : State => u.tcm.map Track.unmarked) (fun c u => ?_) s
    split
    · simp only [trainClearance_frame, (releasePasses_passWork u).circuits]
    · rfl
  · rfl

theorem execPickupExpiry_clearance : ClearanceLaw (clearanceEvents s (clearDue s)) := by
  have events : CircuitsKept (clearDue s) (clearanceEvents s (clearDue s)) :=
    .of_unmarked (clearanceEvents_circuits _ _) (by simp only [clearanceEvents_frame])
      (by simp only [clearanceEvents_frame])
  exact events.law (clearDue_clearance law)

omit law in
/-- A line's inputs sampled write its Bell Unit and its Block Line Controller only. -/
@[simp] theorem sampleLine_frame (x : Line) (inputs : LineInputs) (s : State) :
    (sampleLine x inputs s).pending = s.pending ∧ (sampleLine x inputs s).draws = s.draws ∧
    (sampleLine x inputs s).cp = s.cp ∧ (sampleLine x inputs s).device = s.device ∧
    (sampleLine x inputs s).cfg = s.cfg ∧ (sampleLine x inputs s).sbc = s.sbc ∧
    (sampleLine x inputs s).boards = s.boards ∧ (sampleLine x inputs s).tcm = s.tcm ∧
    (sampleLine x inputs s).llu = s.llu ∧ (sampleLine x inputs s).ht = s.ht ∧
    (sampleLine x inputs s).ru = s.ru ∧ (sampleLine x inputs s).trt = s.trt ∧
    (sampleLine x inputs s).au = s.au ∧ (sampleLine x inputs s).tb = s.tb := by
  unfold sampleLine
  dsimp only
  split <;> simp

omit law in
/-- The events of the levers, the routes, the lines and the records leave what the law reads. -/
theorem exec_circuits {i : Instr} {s t : State} (event : isEvent i = true)
    (reset : i ≠ .fullReset) (boundary : i ≠ .tenthBoundary) (judge : ∀ sdi, i ≠ .frameJudge sdi)
    (expiry : i ≠ .pickupExpiry) (run : exec i s = .next t) : CircuitsKept s t := by
  cases i
  case fullReset => exact absurd rfl reset
  case tenthBoundary => exact absurd rfl boundary
  case frameJudge sdi => exact absurd rfl (judge sdi)
  case pickupExpiry => exact absurd rfl expiry
  case tick a b c =>
    cases run
    apply CircuitsKept.of_eq <;> simp [takeTick]
  case emergencyExpiry l =>
    simp only [exec, execEmergencyExpiry] at run
    split at run <;> cases run
    · exact .of_passWork (((OwnWork.refl l s).clearMarks _).makeIdle.latch _ _).passWork
    · exact .refl s
  case frameOpen | closingFrame | closingSync =>
    simp only [exec, execFrameOpen, execClosingFrame, execClosingSync] at run
    split at run <;> cases run <;> exact .of_eq rfl rfl rfl
  case strokeTimeout | approachExpiry | blankingEnd | repetitionDeadlineExpiry | quietWaitEnd =>
    simp only [exec, execStrokeTimeout, execApproachExpiry, execBlankingEnd,
      execRepetitionDeadlineExpiry, execQuietWaitEnd] at run
    split at run <;> cases run <;> apply CircuitsKept.of_eq <;> simp
  case codeEnd | sendCompletion | instrumentSettling =>
    simp only [exec, execCodeEnd, execSendCompletion, execInstrumentSettling] at run
    split at run <;> cases run <;> apply CircuitsKept.of_eq <;> simp
  case lapseExpiry r h =>
    simp only [exec, execLapseExpiry] at run
    (repeat' split at run) <;> cases run <;> apply CircuitsKept.of_eq <;> simp
  all_goals cases event

theorem exec_event_clearance {i : Instr} {t : State} (event : isEvent i = true)
    (run : exec i s = .next t) : ClearanceLaw t := by
  cases i
  case fullReset =>
    cases run
    exact clearanceLaw_of_unknown fun c => by simp [State.reset, Track.reset]
  case tenthBoundary =>
    change execTenthBoundary s = _ at run
    unfold execTenthBoundary at run
    split at run <;> cases run
    · exact takeBoundary_clearance law
    · exact law
  case frameJudge sdi =>
    change execFrameJudge sdi s = _ at run
    unfold execFrameJudge at run
    split at run <;> cases run
    · exact judgeFrame_clearance law _ _
    · exact law
  case pickupExpiry => cases run; exact execPickupExpiry_clearance law
  all_goals
    refine CircuitsKept.law (exec_circuits event ?_ ?_ ?_ ?_ run) law <;> simp

end

/-- Settles O57: the law is kept by every owner's rule and by every event. -/
theorem stepKeepsTheClearanceLaw : Obligations.StepKeepsTheClearanceLaw := by
  intro s t law run
  exact step_keeps (fun _ _ _ _ law => ⟨law.known, law.timing⟩)
    (fun i _ law => handRequest_clearance law i)
    (fun _ _ _ event law run => exec_event_clearance law event run) law run

end Sys2Proof.Machine

/-! The requests about one circuit: READ_TRACK and CLEAR_MARK. -/

namespace Sys2Proof.Machine

/-! ### Bytes and slots of a reply -/

/-- R187: a list of one-byte numbers: the count, then the numbers. -/
theorem listBytes_bytesOne_map {α : Type} (f : α → Nat) (l : List α) :
    listBytes bytesOne (l.map f) = BitVec.ofNat 8 l.length :: l.map fun v => BitVec.ofNat 8 (f v) := by
  have ones : (l.map f).flatMap bytesOne = l.map fun v => BitVec.ofNat 8 (f v) := by
    induction l with
    | nil => rfl
    | cons v l ih => rw [List.map_cons, List.flatMap_cons, ih]; rfl
  rw [listBytes, ones, List.length_map]
  rfl

/-- R187: four flags in one byte. -/
theorem bitsByte_four (a b c d : Bool) : bitsByte [a, b, c, d] =
    BitVec.ofNat 8 (a.toNat + 2 * b.toNat + 4 * c.toNat + 8 * d.toNat) := by
  simp only [bitsByte, List.foldr]
  congr 1
  omega

/-- R34: the lowest slot below the marker slot that carries an input function. -/
theorem inputSlot_eq_some {slots : Vector SlotEntry 192} {n : Nat} {f : InputFunction} {k : SlotId}
    (below : k.val + 1 < n) (carries : slots[k].input = f)
    (first : ∀ j : SlotId, j.val < k.val → slots[j].input ≠ f) : inputSlot slots n f = some k :=
  lowest_eq_some.mpr ⟨by simpa using ⟨below, carries⟩, fun j lower => by
    simpa using fun _ => first j lower⟩

theorem inputSlot_eq_none {slots : Vector SlotEntry 192} {n : Nat} {f : InputFunction}
    (absent : ∀ k : SlotId, k.val + 1 < n → slots[k].input ≠ f) : inputSlot slots n f = none :=
  lowest_eq_none.mpr fun k => by simpa using absent k

/-! ### READ_TRACK -/

section
variable {s : State} {c : TrackId}

/-- R34: READ_TRACK answers the track record of a circuit in range. -/
theorem takeReadTrack_circuit (s : State) (c : TrackId) :
    takeReadTrack (c.val + 1) s = (s, .done (s.trackData c)) := by
  rw [takeReadTrack, trackOf_inverse.eq c]

theorem trackView_configured (conf : s.cfg.tracks[c].configured = true) : s.trackView c =
    ⟨true, s.sbc.input.tracks[c], inputSlot s.cfg.slots s.cfg.frameLength (.track c),
      s.cfg.tracks[c], s.tcm[c]⟩ := if_pos conf

theorem trackView_unconfigured (conf : s.cfg.tracks[c].configured = false) :
    s.trackView c = ⟨false, false, none, TrackConfig.reset, Track.reset⟩ :=
  if_neg (by simpa using conf)

end

/-- Settles O27: the track record byte by byte, of a configured circuit and of any other. -/
theorem readTrackFollowsItsLayout : Obligations.ReadTrackFollowsItsLayout := by
  intro s free
  refine ⟨fun c slot conf input => ?_, fun c conf => ?_, fun n out => ?_⟩
  · have slotByte : orAbsent ((inputSlot s.cfg.slots s.cfg.frameLength (.track c)).map
        fun k => k.val) = [slot] := by
      rcases input with ⟨k, below, carries, first, rfl⟩ | ⟨absent, rfl⟩
      · rw [inputSlot_eq_some below carries first]; rfl
      · rw [inputSlot_eq_none absent]; rfl
    have state : bytesOne (trackStateNo s.tcm[c].state) = [match s.tcm[c].state with
        | .unknown => 0 | .occupied => 1 | .pickupTiming => 2 | .clear => 3] := by
      cases s.tcm[c].state <;> rfl
    have timer : shownTimer s.tcm[c].timer = s.tcm[c].timer.getD 0 := by
      cases s.tcm[c].timer <;> rfl
    have data := serve_eq (n := 34) free (takeReadTrack_circuit s c)
    rw [State.trackData, trackView_configured conf] at data
    simp only [slotByte, state, timer, bitsByte_four, listBytes_bytesOne_map] at data
    exact data
  · have data := serve_eq (n := 34) free (takeReadTrack_circuit s c)
    rw [State.trackData, trackView_unconfigured conf] at data
    exact data
  · have refused : takeReadTrack n s = (s, .badArgument 1) := by
      rw [takeReadTrack, trackOf_eq_none.mpr out]
    exact serve_eq free refused

/-! ### CLEAR_MARK -/

/-- R35: CLEAR_MARK of a circuit in range. -/
theorem takeClearMark_circuit (s : State) (c : TrackId) : takeClearMark (c.val + 1) s =
    if s.cfg.tracks[c].configured then
      (s.updTrack c fun r => { r with mark := false, fault := false },
        .done [bitsByte [s.tcm[c].mark, s.tcm[c].fault]])
    else (s, .noRecord) := by
  rw [takeClearMark, trackOf_inverse.eq c]

/-- Settles O18: the mark and the flag of a configured circuit, and the two refusals. -/
theorem clearMarkClearsMarkAndFlag : Obligations.ClearMarkClearsMarkAndFlag := by
  intro s free
  refine ⟨fun c conf => ?_, fun c conf => ?_, fun n out => ?_⟩
  · have run := serve_eq (n := 48) free ((takeClearMark_circuit s c).trans (if_pos conf))
    have flags : bitsByte [s.tcm[c].mark, s.tcm[c].fault] =
        BitVec.ofNat 8 (s.tcm[c].mark.toNat + 2 * s.tcm[c].fault.toNat) := rfl
    rw [flags] at run
    exact ⟨_, run, tableUpdate_get_self _ _ _, fun d ne => tableUpdate_get_ne _ _ ne, rfl⟩
  · exact serve_eq free ((takeClearMark_circuit s c).trans (if_neg (by simpa using conf)))
  · have refused : takeClearMark n s = (s, .badArgument 1) := by
      rw [takeClearMark, trackOf_eq_none.mpr out]
    exact serve_eq free refused

end Sys2Proof.Machine

/-! The Route Unit's operations, each said once: a route record written, a route freed whole, a section
released, the release pass by its three cases, and an occupation event. -/

namespace Sys2Proof.Machine

/-! ### A route record written -/

/-- The route of lever `l` with its record replaced. -/
def State.withRoute (s : State) (l : LeverId) (r : Route) : State :=
  { s with ru := s.ru.set l.val r }

section
variable (l : LeverId) (s : State)

theorem State.updRoute_eq_withRoute (f : Route → Route) :
    s.updRoute l f = s.withRoute l (f s.ru[l]) := rfl

theorem State.withRoute_own (r : Route) : (s.withRoute l r).ru[l] = r := by
  simp [State.withRoute]

theorem State.withRoute_other (r : Route) {k : LeverId} (ne : k ≠ l) :
    (s.withRoute l r).ru[k] = s.ru[k] := by
  have apart : l.val ≠ k.val := fun e => ne (Fin.ext e.symm)
  simp [State.withRoute, apart]

theorem State.withRoute_withRoute (r r' : Route) :
    (s.withRoute l r).withRoute l r' = s.withRoute l r' := by
  simp [State.withRoute]

/-- A route that changes state, after a write of its record. -/
theorem setRouteState_updRoute (st : RouteState) (f : Route → Route) :
    setRouteState l st (s.updRoute l f) =
      s.withRoute l { f s.ru[l] with state := st, changed := s.tb.clock } := by
  rw [setRouteState, State.updRoute_eq_withRoute, State.updRoute_eq_withRoute,
    State.withRoute_withRoute, State.withRoute_own]
  rfl

/-- A route that changes state. -/
theorem setRouteState_eq (st : RouteState) : setRouteState l st s =
    s.withRoute l { s.ru[l] with state := st, changed := s.tb.clock } := rfl

/-- R94, R98: a route sent to SEQUENCE_FAULT. -/
theorem faultRoute_eq (cause : FaultCause) : faultRoute l cause s =
    latch .route (.lever l) (s.withRoute l { s.ru[l] with
      state := .sequenceFault, cause := some cause, changed := s.tb.clock }) := by
  rw [faultRoute, setRouteState_updRoute]

/-- R87, R89: a route that becomes RELEASING is passed at once. -/
theorem startReleasing_eq : startReleasing l s = releasePass l (s.withRoute l { s.ru[l] with
    state := .releasing, timer := none, k := 1, changed := s.tb.clock }) := by
  rw [startReleasing, setRouteState_updRoute]

/-! ### A route freed whole -/

/-- R71, R83: the route of `l` has become IDLE and its holds are retired between two states, and
nothing else has changed. -/
structure Freed (l : LeverId) (s t : State) : Prop where
  route : t.ru[l] = ⟨.idle, 1, none, s.cfg.routes[l].points.map fun _ => ⟨true, none⟩, false, none,
    s.tb.clock⟩
  otherRoutes : ∀ k : LeverId, k ≠ l → t.ru[k] = s.ru[k]
  holds : ∀ h : HoldId, t.ht[h] = match s.ht[h] with
    | some hold => (match hold.kind with
      | .route o _ => if o = l then none else some hold
      | _ => some hold)
    | none => none
  frame : { t with ru := s.ru, ht := s.ht } = s

/-- R71: the entries after the retirement of a whole route. -/
theorem retireRoute_entry (h : HoldId) : (retireRoute l s).ht[h] = match s.ht[h] with
    | some hold => (match hold.kind with
      | .route o _ => if o = l then none else some hold
      | _ => some hold)
    | none => none := by
  rw [retireRoute, retireWhere, tabulate_get]
  cases s.ht[h] with
  | none => rfl
  | some hold =>
    obtain ⟨kind, lever, position, created⟩ := hold
    cases kind with
    | route o c => by_cases own : o = l <;> simp [Hold.ownedByRoute, own]
    | clearing x => rfl
    | block x => rfl
    | bar why => rfl

theorem makeIdle_freed : Freed l s (makeIdle l s) where
  route := by rw [makeIdle_route, if_pos rfl]; rfl
  otherRoutes k ne := by rw [makeIdle_route, if_neg (Ne.symm ne)]
  holds h := retireRoute_entry l s h
  frame := by simp only [makeIdle_frame]

end

/-! ### A section released -/

theorem protectedBy_iff {l : LeverId} {c : TrackId} {h : Hold} :
    h.protectedBy l c = true ↔ h.kind = .route l c := by
  unfold Hold.protectedBy
  cases h.kind <;> simp

/-- R92 step 1: the entries that a circuit protects are released, and no other. -/
theorem releaseEntries_entry (c : TrackId) (points : List PointsEntry) (entries : List EntryRun)
    (i : Nat) : (releaseEntries c points entries)[i]? = entries[i]?.map fun e =>
      if (points[i]?.map fun p => p.circuit) = some c then ⟨true, none⟩ else e := by
  induction points generalizing entries i with
  | nil => cases entries <;> simp [releaseEntries]
  | cons p points ih =>
    cases entries with
    | nil => simp [releaseEntries]
    | cons e entries =>
      cases i with
      | zero => by_cases own : p.circuit = c <;> simp [releaseEntries, own, EntryRun.released_]
      | succ i => simpa [releaseEntries] using ih entries i

section
variable (l : LeverId) (c : TrackId) (s : State)

/-- R71, R92: the entries of the Hold Table after a section is released. -/
theorem releaseSection_hold (h : HoldId) : (releaseSection l c s).ht[h] = match s.ht[h] with
    | some hold => if hold.kind = .route l c then none else some hold
    | none => none := by
  have table : (releaseSection l c s).ht = (retireWhere (Hold.protectedBy l c) s).ht := rfl
  rw [table, retireWhere, tabulate_get]
  cases s.ht[h] with
  | none => rfl
  | some hold => simp only [protectedBy_iff]

/-- R92: the route after a section is released. -/
theorem releaseSection_route : (releaseSection l c s).ru[l] = { s.ru[l] with
    k := s.ru[l].k + 1
    entries := releaseEntries c s.cfg.routes[l].points s.ru[l].entries } := by
  have table : (releaseSection l c s).ru = tableUpdate (tableUpdate s.ru l fun r =>
      { r with entries := releaseEntries c s.cfg.routes[l].points r.entries }) l fun r =>
      { r with k := r.k + 1 } := by
    simp only [releaseSection, State.updRoute_ru, clearMark_frame, retireProtected,
      retireWhere_frame]
  rw [table, tableUpdate_get_self, tableUpdate_get_self]

/-- R26, R92: the circuit of the section loses its mark. -/
theorem releaseSection_circuit (d : TrackId) : (releaseSection l c s).tcm[d] =
    { s.tcm[d] with mark := s.tcm[d].mark && decide (d ≠ c) } := by
  have table : (releaseSection l c s).tcm = tableUpdate s.tcm c fun r => { r with mark := false } := by
    simp only [releaseSection, clearMark, State.updRoute_tcm, State.updTrack_tcm, retireProtected,
      retireWhere_frame]
  rw [table, tableUpdate_get]
  by_cases own : c = d
  · simp [own]
  · simp [own, Ne.symm own]

end

/-! ### The release pass -/

section
variable {l : LeverId} {s : State}

theorem releasePass_other (other : s.ru[l].state ≠ .releasing) : releasePass l s = s := if_neg other

/-- R91: the pass of a RELEASING route is known from the sections it releases. -/
theorem releasePass_of_sections {u : State} (releasing : s.ru[l].state = .releasing)
    (sections : releaseSections l (s.cfg.routes[l].circuits.length + 1) s = u) : releasePass l s =
      if u.ru[l].state = .releasing ∧ sequenceBroken l u = true then faultRoute l .sequence u
      else u := by
  rw [releasePass, if_pos releasing, sections]

theorem releaseSections_done {n : Nat} (past : s.cfg.routes[l].circuitAt s.ru[l].k = none) :
    releaseSections l (n + 1) s = makeIdle l s := by
  rw [releaseSections, past]

theorem releaseSections_releases {n : Nat} {c : TrackId}
    (at_ : s.cfg.routes[l].circuitAt s.ru[l].k = some c) (clear : s.markedClear c = true) :
    releaseSections l (n + 1) s = releaseSections l n (releaseSection l c s) := by
  rw [releaseSections, at_]
  exact if_pos clear

theorem releaseSections_stops {n : Nat} {c : TrackId}
    (at_ : s.cfg.routes[l].circuitAt s.ru[l].k = some c) (waits : s.markedClear c = false) :
    releaseSections l (n + 1) s = s := by
  rw [releaseSections, at_]
  exact if_neg (by simp [waits])

/-- The pass ends within one turn more than the circuits that are left. -/
theorem releaseSections_enough (n : Nat) {s : State}
    (enough : s.cfg.routes[l].circuits.length < n + s.ru[l].k) :
    releaseSections l (n + 2) s = releaseSections l (n + 1) s := by
  induction n generalizing s with
  | zero =>
    have past : s.cfg.routes[l].circuitAt s.ru[l].k = none := by
      rw [RouteConfig.circuitAt, if_neg (by omega)]
      exact List.getElem?_eq_none (by omega)
    rw [releaseSections_done past, releaseSections_done past]
  | succ n ih =>
    cases at_ : s.cfg.routes[l].circuitAt s.ru[l].k with
    | none => rw [releaseSections_done at_, releaseSections_done at_]
    | some c =>
      cases clear : s.markedClear c with
      | false => rw [releaseSections_stops at_ clear, releaseSections_stops at_ clear]
      | true =>
        rw [releaseSections_releases at_ clear, releaseSections_releases at_ clear]
        refine ih ?_
        simp only [releaseSection_frame, releaseSection_route]
        omega

variable (releasing : s.ru[l].state = .releasing)
include releasing

/-- R93: with k past the last circuit the route is freed. -/
theorem releasePass_done (past : ∀ n, s.ru[l].k = n + 1 → s.cfg.routes[l].circuits[n]? = none) :
    releasePass l s = makeIdle l s := by
  have none : s.cfg.routes[l].circuitAt s.ru[l].k = none := by
    unfold RouteConfig.circuitAt
    split
    · rfl
    · next pos => exact past _ (by omega)
  rw [releasePass_of_sections releasing (releaseSections_done none)]
  refine if_neg fun still => ?_
  rw [(makeIdle_freed l s).route] at still
  cases still.1

variable {n : Nat} {c : TrackId} (k : s.ru[l].k = n + 1)
  (at_ : s.cfg.routes[l].circuits[n]? = some c)
include k at_

omit releasing in
theorem circuitAt_k : s.cfg.routes[l].circuitAt s.ru[l].k = some c := by
  rw [k]
  exact at_

/-- R92: a section is released and the pass goes on. -/
theorem releasePass_releases (clear : s.markedClear c = true) :
    releasePass l s = releasePass l (releaseSection l c s) := by
  have route := releaseSection_route l c s
  have still : (releaseSection l c s).ru[l].state = .releasing := by rw [route]; exact releasing
  have cfg : (releaseSection l c s).cfg = s.cfg := by simp only [releaseSection_frame]
  obtain ⟨inside, -⟩ := List.getElem?_eq_some_iff.mp at_
  obtain ⟨m, length⟩ : ∃ m, s.cfg.routes[l].circuits.length = m + 1 :=
    ⟨s.cfg.routes[l].circuits.length - 1, by omega⟩
  have enough : releaseSections l (m + 2) (releaseSection l c s) =
      releaseSections l (m + 1) (releaseSection l c s) := by
    refine releaseSections_enough m ?_
    rw [cfg, route, length]
    dsimp only
    omega
  rw [releasePass_of_sections releasing (releaseSections_releases (circuitAt_k k at_) clear),
    releasePass_of_sections still rfl, cfg, length, enough]

/-- R94: with circuit k not marked and CLEAR the pass makes the sequence check. -/
theorem releasePass_checks (waits : s.markedClear c = false) : releasePass l s =
    if sequenceBroken l s = true then faultRoute l .sequence s else s := by
  rw [releasePass_of_sections releasing (releaseSections_stops (circuitAt_k k at_) waits)]
  simp [-Fin.getElem_fin, releasing]

omit releasing in
/-- R94: the sequence check in the words of the rule. -/
theorem sequenceBroken_iff : sequenceBroken l s = true ↔ s.tcm[c].mark = false ∧
    ∃ (j : Nat) (d : TrackId), n < j ∧ s.cfg.routes[l].circuits[j]? = some d ∧
      s.tcm[d].mark = true ∧ s.tcm[d].state = .clear := by
  have later (d : TrackId) : d ∈ s.cfg.routes[l].circuits.drop (n + 1) ↔
      ∃ j, n < j ∧ s.cfg.routes[l].circuits[j]? = some d := by
    rw [List.mem_iff_getElem?]
    constructor
    · rintro ⟨i, e⟩
      rw [List.getElem?_drop] at e
      exact ⟨n + 1 + i, by omega, e⟩
    · rintro ⟨j, lt, e⟩
      refine ⟨j - (n + 1), ?_⟩
      rw [List.getElem?_drop, ← e]
      congr 1
      omega
  rw [sequenceBroken, circuitAt_k k at_, k]
  simp only [Bool.and_eq_true, Bool.not_eq_true', List.any_eq_true, later, State.markedClear,
    Track.isClear, decide_eq_true_eq]
  refine and_congr_right fun _ => ⟨?_, ?_⟩
  · rintro ⟨d, ⟨j, lt, e⟩, marked⟩
    exact ⟨j, d, lt, e, marked⟩
  · rintro ⟨j, d, lt, e, marked⟩
    exact ⟨d, ⟨j, lt, e⟩, marked⟩

end

/-! ### An occupation event -/

/-- A pass none of whose turns changes the state it starts from changes nothing. -/
theorem foldl_fixed {σ ι : Type} {f : ι → σ → σ} {s : σ} (l : List ι)
    (fixed : ∀ j ∈ l, f j s = s) : l.foldl (fun s i => f i s) s = s := by
  induction l with
  | nil => rfl
  | cons j l ih =>
    rw [List.foldl_cons, fixed j List.mem_cons_self]
    exact ih fun k m => fixed k (List.mem_cons_of_mem j m)

/-- A pass in which one turn alone changes anything is that turn. -/
theorem forEach_only {σ : Type} {n : Nat} {f : Fin n → σ → σ} {s : σ} (i : Fin n)
    (before : ∀ j, j ≠ i → f j s = s) (after : ∀ j, j ≠ i → f j (f i s) = f i s) :
    forEach n f s = f i s := by
  obtain ⟨l, l', split⟩ := List.append_of_mem (List.mem_finRange i)
  have once := List.nodup_finRange n
  rw [split] at once
  rw [forEach, split, List.foldl_append, List.foldl_cons,
    foldl_fixed l fun j m => before j fun e =>
      (List.disjoint_of_nodup_append once) (e ▸ m) List.mem_cons_self,
    foldl_fixed l' fun j m => after j fun e =>
      (List.nodup_cons.mp once.of_append_right).1 (e ▸ m)]

/-- R89: an occupation event of circuit `c` at the turn of route `l`. -/
def occupationTurn (c : TrackId) (l : LeverId) (s : State) : State :=
  if s.ru[l].state = .approachLocked ∧ s.cfg.routes[l].circuits[0]? = some c then
    startReleasing l s
  else s

theorem routeOccupation_eq (c : TrackId) (s : State) :
    routeOccupation c s = forEach 40 (occupationTurn c) s := by
  simp only [routeOccupation, List.head?_eq_getElem?]
  rfl

/-- R89: an occupation that concerns no route changes nothing. -/
theorem routeOccupation_none {c : TrackId} {s : State} (none : ∀ l : LeverId,
    ¬(s.ru[l].state = .approachLocked ∧ s.cfg.routes[l].circuits[0]? = some c)) :
    routeOccupation c s = s := by
  rw [routeOccupation_eq]
  exact foldl_fixed _ fun l _ => if_neg (none l)

/-- R89: an occupation that concerns one route starts its release. -/
theorem routeOccupation_one {c : TrackId} {s : State} {l : LeverId}
    (concerned : s.ru[l].state = .approachLocked ∧ s.cfg.routes[l].circuits[0]? = some c)
    (only : ∀ k : LeverId, k ≠ l →
      ¬(s.ru[k].state = .approachLocked ∧ s.cfg.routes[k].circuits[0]? = some c)) :
    routeOccupation c s = startReleasing l s := by
  have work := (OwnWork.refl l s).startReleasing
  have own : occupationTurn c l s = startReleasing l s := if_pos concerned
  have before (k : LeverId) (ne : k ≠ l) : occupationTurn c k s = s := if_neg (only k ne)
  have after (k : LeverId) (ne : k ≠ l) :
      occupationTurn c k (occupationTurn c l s) = occupationTurn c l s := by
    refine if_neg ?_
    rw [own, work.routes k ne, work.cfg]
    exact only k ne
  rw [routeOccupation_eq, forEach_only l before after, own]

end Sys2Proof.Machine

/-! The pickup expiry: the circuits that are due, the events of their clearances, and the release passes
that the events run. -/

namespace Sys2Proof.Machine

/-! ### The circuits and the lamps -/

/-- Two circuits that differ at most in their marks. -/
theorem Track.eq_of_unmarked {r r' : Track} (same : r.unmarked = r'.unmarked) :
    r = { r' with mark := r.mark } := by
  cases r; cases r'
  simp_all [Track.unmarked]

section
variable (s : State) (c : TrackId)

theorem pickupDue_iff : s.pickupDue c = true ↔
    s.tcm[c].timer = some 0 ∧ s.tcm[c].state = .pickupTiming := by
  simp only [State.pickupDue, Bool.and_eq_true, decide_eq_true_eq]

/-- R23, R29: every lamp bit after an expiry. -/
theorem clearDue_lamp : (clearDue s).sbc.lamps[c] = (!s.pickupDue c && s.sbc.lamps[c]) :=
  tabulate_get _ c

theorem clearDue_sbc : (clearDue s).sbc =
    { s.sbc with lamps := tabulate fun c => !s.pickupDue c && s.sbc.lamps[c] } := by
  dsimp only [clearDue]

/-- R23, R33: the part after an expiry and its clearance events. -/
def expired : State := clearanceEvents s (clearDue s)

theorem expired_sbc : (expired s).sbc = (clearDue s).sbc := by
  simp only [expired, clearanceEvents_frame]

/-- R33: the clearance events change no more of a circuit than its mark. -/
theorem expired_circuit : (expired s).tcm[c] =
    { (clearDue s).tcm[c] with mark := (expired s).tcm[c].mark } := by
  have same : ((expired s).tcm.map Track.unmarked)[c] = ((clearDue s).tcm.map Track.unmarked)[c] := by
    rw [expired, clearanceEvents_circuits]
  rw [map_get, map_get] at same
  exact Track.eq_of_unmarked same

/-- R26: an expiry clears no mark before its clearance events. -/
theorem clearDue_mark : (clearDue s).tcm[c].mark = s.tcm[c].mark := by
  rw [clearDue_circuit]
  split <;> rfl

/-- R33: in CONFIG no clearance event is handed over. -/
theorem expired_config {s : State} (config : s.device = .config) : expired s = clearDue s :=
  if_neg (by simp [config])

/-- R33: in SERVICE each clearance, in ascending order, runs the release passes and is then judged by the
Train Record Table. -/
theorem expired_service {s : State} (service : s.device = .service) : expired s =
    forEach 32 (fun c v => if s.tcm[c].timer = some 0 ∧ s.tcm[c].state = .pickupTiming then
      trainClearance c (releasePasses v) else v) (clearDue s) := by
  have handed : (clearDue s).device = .service := by simpa using service
  rw [expired, clearanceEvents, if_pos handed]
  simp only [pickupDue_iff]

theorem expired_due {s : State} {c : TrackId}
    (due : s.tcm[c].timer = some 0 ∧ s.tcm[c].state = .pickupTiming) :
    (expired s).tcm[c].state = .clear ∧ (expired s).tcm[c].timer = none ∧
    (expired s).tcm[c].changed = s.tb.clock ∧ (expired s).sbc.lamps[c] = false := by
  have yes := (pickupDue_iff s c).mpr due
  rw [expired_circuit, expired_sbc, clearDue_lamp, clearDue_circuit, if_pos yes, yes]
  exact ⟨rfl, rfl, rfl, rfl⟩

theorem expired_waits {s : State} {c : TrackId}
    (waits : ¬(s.tcm[c].timer = some 0 ∧ s.tcm[c].state = .pickupTiming)) :
    (expired s).tcm[c].state = s.tcm[c].state ∧ (expired s).tcm[c].timer = s.tcm[c].timer ∧
    (expired s).tcm[c].fault = s.tcm[c].fault ∧ (expired s).sbc.lamps[c] = s.sbc.lamps[c] := by
  have no : s.pickupDue c = false := by rw [← Bool.not_eq_true, pickupDue_iff]; exact waits
  rw [expired_circuit, expired_sbc, clearDue_lamp, clearDue_circuit, no]
  exact ⟨rfl, rfl, rfl, rfl⟩

end

/-! ### The obligation's clauses -/

theorem markedClear_iff {s : State} {c : TrackId} : s.markedClear c = true ↔
    s.tcm[c].mark = true ∧ s.tcm[c].state = .clear := by
  simp only [State.markedClear, Track.isClear, Bool.and_eq_true, decide_eq_true_eq]

/-- Settles O17: the expiry from the circuits and the events, the passes and R89 from the Route Unit's
operations. -/
theorem pickupExpiryClearsEveryDueCircuit : Obligations.PickupExpiryClearsEveryDueCircuit := by
  refine ⟨fun s => ⟨expired s, rfl, fun c timer state => expired_due ⟨timer, state⟩,
    fun c waits => expired_waits waits, ?sbc, fun config => ?config, fun service => ?service, ?frames⟩,
    fun s => rfl, fun s l => ⟨releasePass_other, fun releasing past => ?done,
      fun n c releasing k at_ => ⟨fun mark clear => ?releases, fun waits => ?checks⟩⟩,
    fun s c => ⟨?none, fun l concerned only => ?one⟩⟩
  case sbc => rw [expired_sbc, clearDue_sbc]
  case config => rw [expired_config config]; simp only [clearDue_frame]
  case service =>
    refine ⟨clearDue s, (expired_sbc s).symm, fun c => ?_, by simp only [clearDue_frame],
      expired_service service⟩
    rw [expired_circuit, ← clearDue_mark s c]
  case frames => simp [expired]
  case done =>
    rw [releasePass_done releasing past]
    obtain ⟨route, others, holds, frame⟩ := makeIdle_freed l s
    exact ⟨route, others, holds, frame⟩
  case releases =>
    have route := releaseSection_route l c s
    refine ⟨releaseSection l c s, releasePass_releases releasing k at_ (markedClear_iff.mpr ⟨mark, clear⟩),
      releaseSection_hold l c s, ?_, fun i => ?_,
      ((OwnWork.refl l s).releaseSection c).routes, releaseSection_circuit l c s,
      by simp only [releaseSection_frame]⟩
    · rw [route, k]
    · rw [route]
      exact releaseEntries_entry c _ _ i
  case checks =>
    rw [← markedClear_iff, Bool.not_eq_true] at waits
    have pass := releasePass_checks releasing k at_ waits
    refine ⟨fun sound => ?_, fun broken => ?_⟩
    · rw [pass, if_neg fun b => sound ((sequenceBroken_iff k at_).mp b)]
    · rw [pass, if_pos ((sequenceBroken_iff k at_).mpr broken)]
      refine ⟨faultRoute_route l .sequence s, ((OwnWork.refl l s).faultRoute _).routes, ?_,
        by simp only [faultRoute_frame]⟩
      exact latch_latched_of rfl
  case none => exact routeOccupation_none
  case one => exact (routeOccupation_one concerned only).trans (startReleasing_eq l s)

end Sys2Proof.Machine

/-! What the notices of a SIGNAL lever and the two expiries do to its route. -/

namespace Sys2Proof.Machine

/-! ### A list that is judged -/

/-- R40: no element fails exactly when all pass. -/
theorem firstFailing_eq_none {α : Type} {ok : α → Bool} {place : Nat} {l : List α} :
    firstFailing ok place l = none ↔ ∀ v ∈ l, ok v = true := by
  induction l generalizing place with
  | nil => simp [firstFailing]
  | cons v l ih =>
    cases pass : ok v <;> simp [firstFailing, pass, ih]

theorem firstMarked_iff {l : LeverId} {s : State} : firstMarked l s = true ↔
    ∃ c, s.cfg.routes[l].circuits[0]? = some c ∧ s.tcm[c].mark = true := by
  unfold firstMarked
  cases s.cfg.routes[l].circuits <;> simp [-Fin.getElem_fin]

theorem approachOccupied_iff {l : LeverId} {s : State} : approachOccupied l s = true ↔
    0 < s.cfg.routes[l].approachTime ∧
      ∃ c ∈ s.cfg.routes[l].approach, s.tcm[c].state ≠ .clear := by
  simp [-Fin.getElem_fin, approachOccupied, Track.isClear]

/-! ### The expiries -/

section
variable {l : LeverId} {s : State}

theorem execApproachExpiry_due (timer : s.ru[l].timer = some ⟨.approach, 0⟩)
    (state : s.ru[l].state = .approachLocked) :
    exec (.approachExpiry l) s = .next (makeIdle l s) :=
  if_pos (by simp [-Fin.getElem_fin, routeTimerDue, timer, state])

theorem execEmergencyExpiry_due (timer : s.ru[l].timer = some ⟨.emergency, 0⟩)
    (state : s.ru[l].state = .timedRelease) : exec (.emergencyExpiry l) s =
      .next (latch .route (.lever l) (makeIdle l (clearMarks s.cfg.routes[l].circuits s))) :=
  if_pos (by simp [-Fin.getElem_fin, routeTimerDue, timer, state])

/-! ### The returned notice -/

theorem routeWithdrawn_granted (granted : s.ru[l].state = .granted) :
    routeWithdrawn l s = makeIdle l s := if_pos granted

theorem routeReturned_set (set : s.ru[l].state = .set) : routeReturned l s = returnDecision l s :=
  if_pos set

/-- R87 case 1: after an escape. -/
theorem returnDecision_escape (escape : s.ru[l].escape = true) :
    returnDecision l s = faultRoute l .unreleased s := if_pos escape

variable (plain : s.ru[l].escape = false)
include plain

/-- R87 case 2: the train has passed the signal. -/
theorem returnDecision_passed (passed : firstMarked l s = true) :
    returnDecision l s = startReleasing l s := by
  rw [returnDecision, plain, if_neg Bool.false_ne_true, if_pos passed]

/-- R87 case 3: a train approaches. -/
theorem returnDecision_locked (ahead : firstMarked l s = false)
    (approaches : approachOccupied l s = true) : returnDecision l s =
      s.withRoute l { s.ru[l] with
        state := .approachLocked
        timer := some ⟨.approach, s.cfg.routes[l].approachTime⟩
        changed := s.tb.clock } := by
  rw [returnDecision, plain, if_neg Bool.false_ne_true, ahead, if_neg Bool.false_ne_true,
    if_pos approaches, setRouteState_updRoute]

/-- R87 case 4: no train is near. -/
theorem returnDecision_freed (ahead : firstMarked l s = false)
    (clear : approachOccupied l s = false) : returnDecision l s = makeIdle l s := by
  rw [returnDecision, plain, if_neg Bool.false_ne_true, ahead, if_neg Bool.false_ne_true, clear,
    if_neg Bool.false_ne_true]

end

/-! ### The escape -/

section
variable (l : LeverId) (s : State)

/-- R86: the record an escape leaves, from the record it finds. -/
def Route.escapes (r : Route) (clock : Clock) : Route :=
  { r with state := .set, escape := true, changed := clock }

/-- A latch and a change of a route's state stand in either order. -/
theorem setRouteState_latch (st : RouteState) (src : Source) (d : Detail) :
    setRouteState l st (latch src d s) = latch src d (setRouteState l st s) := rfl

/-- Marks cleared and a route's record written stand in either order. -/
theorem clearMarks_withRoute (cs : List TrackId) (r : Route) :
    clearMarks cs (s.withRoute l r) = (clearMarks cs s).withRoute l r := by
  unfold clearMarks
  induction cs generalizing s with
  | nil => rfl
  | cons c cs ih => exact ih (clearMark c s)

/-- R86: an escape in a state other than IDLE. -/
theorem routeEscape_busy (busy : s.ru[l].state ≠ .idle) : routeEscape l s =
    latch .route (.lever l)
      (s.withRoute l (Route.escapes { s.ru[l] with timer := none } s.tb.clock)) := by
  rw [routeEscape, if_neg busy, setRouteState_latch, setRouteState_updRoute,
    State.updRoute_eq_withRoute, State.withRoute_withRoute, State.withRoute_own]
  rfl

/-- R86, first row: what an escape from IDLE does at the Hold Table, and the entries it gives the
route. -/
def escapeHolds : State × List EntryRun :=
  let unheld := s.cfg.routes[l].points.map fun _ => EntryRun.released_
  match pointsFailing l s with
  | some _ => (s, unheld)
  | none =>
    match createGroup (routeGroup l s.cfg.routes[l]) (.lever l) s with
    | (.created numbers, s1) => (s1, numbers.map fun h => ⟨false, some h⟩)
    | (.pool, s1) => (s1, unheld)
    | (.state, s1) => (s1, unheld)

/-- The Hold Table's part of an escape writes holds and attention records only. -/
@[simp] theorem escapeHolds_frame :
    (escapeHolds l s).1.pending = s.pending ∧ (escapeHolds l s).1.draws = s.draws ∧
    (escapeHolds l s).1.cp = s.cp ∧ (escapeHolds l s).1.device = s.device ∧
    (escapeHolds l s).1.cfg = s.cfg ∧ (escapeHolds l s).1.sbc = s.sbc ∧
    (escapeHolds l s).1.boards = s.boards ∧ (escapeHolds l s).1.tcm = s.tcm ∧
    (escapeHolds l s).1.llu = s.llu ∧ (escapeHolds l s).1.ru = s.ru ∧
    (escapeHolds l s).1.bu = s.bu ∧ (escapeHolds l s).1.blc = s.blc ∧
    (escapeHolds l s).1.trt = s.trt ∧ (escapeHolds l s).1.tb = s.tb := by
  unfold escapeHolds
  rcases createGroup_cases (routeGroup l s.cfg.routes[l]) (.lever l) s with
    ⟨-, e⟩ | ⟨-, -, e⟩ | ⟨-, -, e⟩ <;> rw [e] <;> cases pointsFailing l s <;> simp

/-- R86: the holds of an escape in the words of the rule: the levers are in place and there is room, a
lever is elsewhere, or there is no room. -/
theorem escapeHolds_cases (service : s.device = .service) :
    let points := s.cfg.routes[l].points
    let inPlace := ∀ e ∈ points, s.stands s.decoded e.lever e.position = true
    let numbers := (freeShared s.ht).take points.length
    let unheld : List EntryRun := points.map fun _ => ⟨true, none⟩
    (inPlace ∧ points.length ≤ (freeShared s.ht).length ∧ escapeHolds l s =
      ({ s with ht := writeGroup s.tb.clock s.ht (numbers.zip (routeGroup l s.cfg.routes[l])) },
        numbers.map fun h => ⟨false, some h⟩)) ∨
    (¬inPlace ∧ escapeHolds l s = (s, unheld)) ∨
    (inPlace ∧ ¬points.length ≤ (freeShared s.ht).length ∧
      escapeHolds l s = (latch .pool (.lever l) s, unheld)) := by
  intro points inPlace numbers unheld
  have size : (routeGroup l s.cfg.routes[l]).length = points.length := List.length_map _
  have placed : pointsFailing l s = none ↔ inPlace := firstFailing_eq_none
  unfold escapeHolds
  cases at_ : pointsFailing l s with
  | some place =>
    refine .inr (.inl ⟨fun h => ?_, rfl⟩)
    rw [placed.mpr h] at at_
    cases at_
  | none =>
    have group := createGroup_cases (routeGroup l s.cfg.routes[l]) (.lever l) s
    rw [size] at group
    dsimp only
    rcases group with ⟨config, -⟩ | ⟨-, room, e⟩ | ⟨-, full, e⟩
    · rw [service] at config; cases config
    · exact .inl ⟨placed.mp at_, room, by rw [e]⟩
    · exact .inr (.inr ⟨placed.mp at_, by omega, by rw [e]; rfl⟩)

theorem escapeFromIdle_eq : escapeFromIdle l s = clearMarks s.cfg.routes[l].circuits
    ((escapeHolds l s).1.withRoute l
      { (escapeHolds l s).1.ru[l] with k := 1, entries := (escapeHolds l s).2 }) := by
  unfold escapeFromIdle escapeHolds
  cases pointsFailing l s with
  | some place => rfl
  | none =>
    dsimp only
    rcases createGroup_cases (routeGroup l s.cfg.routes[l]) (.lever l) s with
      ⟨-, e⟩ | ⟨-, -, e⟩ | ⟨-, -, e⟩ <;> rw [e] <;> rfl

/-- R86: an escape from IDLE. -/
theorem routeEscape_idle (idle : s.ru[l].state = .idle) : routeEscape l s =
    latch .route (.lever l) ((clearMarks s.cfg.routes[l].circuits (escapeHolds l s).1).withRoute l
      (Route.escapes { s.ru[l] with k := 1, entries := (escapeHolds l s).2 } s.tb.clock)) := by
  rw [routeEscape, if_pos idle, setRouteState_latch, setRouteState_updRoute, escapeFromIdle_eq,
    clearMarks_withRoute, State.withRoute_withRoute, State.withRoute_own]
  simp only [Route.escapes, State.withRoute, clearMarks_frame, escapeHolds_frame]

end

/-! ### The holds of an escape -/

section
variable {l : LeverId} {s : State}
  (room : s.cfg.routes[l].points.length ≤ (freeShared s.ht).length)
include room

/-- R67, R86: each points entry has its hold under the number given to it. -/
theorem routeGroup_inside {i : Nat} {h : HoldId} {e : PointsEntry}
    (number : ((freeShared s.ht).take s.cfg.routes[l].points.length)[i]? = some h)
    (entry : s.cfg.routes[l].points[i]? = some e) :
    (writeGroup s.tb.clock s.ht (((freeShared s.ht).take s.cfg.routes[l].points.length).zip
      (routeGroup l s.cfg.routes[l])))[h] =
      some ⟨.route l e.circuit, e.lever, e.position, s.tb.clock⟩ := by
  have size : ((freeShared s.ht).take s.cfg.routes[l].points.length).length =
      (routeGroup l s.cfg.routes[l]).length := by simp [-Fin.getElem_fin, routeGroup, room]
  refine writeGroup_inside s.tb.clock _ (e := ⟨.route l e.circuit, e.lever, e.position⟩) s.ht ?_ ?_
  · rw [List.map_fst_zip size.le]
    exact (freeShared_nodup s.ht).sublist (List.take_sublist _ _)
  · refine List.mem_iff_getElem?.mpr ⟨i, ?_⟩
    rw [List.getElem?_zip_eq_some]
    exact ⟨number, by simp [-Fin.getElem_fin, routeGroup, entry]⟩

omit room in
/-- R67: no other entry is written. -/
theorem routeGroup_outside {h : HoldId}
    (out : h ∉ (freeShared s.ht).take s.cfg.routes[l].points.length) :
    (writeGroup s.tb.clock s.ht (((freeShared s.ht).take s.cfg.routes[l].points.length).zip
      (routeGroup l s.cfg.routes[l])))[h] = s.ht[h] :=
  writeGroup_outside s.tb.clock _ s.ht fun _ m same => out (same ▸ (List.of_mem_zip m).1)

end

end Sys2Proof.Machine

/-! The Route Unit under other lever records, and what the judgement of a SIGNAL lever hands it. -/

namespace Sys2Proof.Machine

/-! ### The Route Unit and the lever records -/

/-- The state with other lever records. -/
def State.withLevers (s : State) (v : Vector Lever 40) : State := { s with llu := v }

section
variable (l : LeverId) (s : State) (v : Vector Lever 40)

theorem makeIdle_withLevers : makeIdle l (s.withLevers v) = (makeIdle l s).withLevers v := rfl

theorem faultRoute_withLevers (c : FaultCause) :
    faultRoute l c (s.withLevers v) = (faultRoute l c s).withLevers v := rfl

theorem routeWithdrawn_withLevers :
    routeWithdrawn l (s.withLevers v) = (routeWithdrawn l s).withLevers v := by
  have same : (s.withLevers v).ru = s.ru := rfl
  unfold routeWithdrawn
  rw [same, makeIdle_withLevers]
  split <;> rfl

theorem leftNormalGranted_withLevers :
    leftNormalGranted l (s.withLevers v) = (leftNormalGranted l s).withLevers v := by
  have same : (s.withLevers v).ru = s.ru := rfl
  unfold leftNormalGranted
  rw [same]
  split <;> rfl

theorem releaseSections_withLevers (n : Nat) :
    releaseSections l n (s.withLevers v) = (releaseSections l n s).withLevers v := by
  induction n generalizing s with
  | zero => rfl
  | succ n ih =>
    have routes : (s.withLevers v).ru = s.ru := rfl
    have cfg : (s.withLevers v).cfg = s.cfg := rfl
    have marked (c : TrackId) : (s.withLevers v).markedClear c = s.markedClear c := rfl
    have section_ (c : TrackId) :
        releaseSection l c (s.withLevers v) = (releaseSection l c s).withLevers v := rfl
    simp only [releaseSections, routes, cfg, marked, section_, ih, makeIdle_withLevers]
    cases s.cfg.routes[l].circuitAt s.ru[l].k with
    | none => rfl
    | some c => dsimp only; split <;> rfl

theorem releasePass_withLevers :
    releasePass l (s.withLevers v) = (releasePass l s).withLevers v := by
  have routes (u : State) : (u.withLevers v).ru = u.ru := rfl
  have cfg : (s.withLevers v).cfg = s.cfg := rfl
  have broken (u : State) : sequenceBroken l (u.withLevers v) = sequenceBroken l u := rfl
  unfold releasePass
  simp only [routes, cfg, releaseSections_withLevers, broken, faultRoute_withLevers]
  (repeat' split) <;> rfl

theorem routeReturned_withLevers :
    routeReturned l (s.withLevers v) = (routeReturned l s).withLevers v := by
  have routes : (s.withLevers v).ru = s.ru := rfl
  have marked : firstMarked l (s.withLevers v) = firstMarked l s := rfl
  have occupied : approachOccupied l (s.withLevers v) = approachOccupied l s := rfl
  have release : startReleasing l (s.withLevers v) = (startReleasing l s).withLevers v := by
    rw [startReleasing_eq, startReleasing_eq, ← releasePass_withLevers]
    rfl
  unfold routeReturned returnDecision
  simp only [routes, marked, occupied, release, faultRoute_withLevers, makeIdle_withLevers]
  (repeat' split) <;> rfl

/-- R40: what a condition reads of the levers is their unseen flags, with the contacts. -/
theorem stands_withLevers (unseen : ∀ k : LeverId, v[k].unseen = s.llu[k].unseen) (k : LeverId)
    (p : EndPos) : (s.withLevers v).stands (s.withLevers v).decoded k p =
      s.stands s.decoded k p := by
  have cfg : (s.withLevers v).cfg = s.cfg := rfl
  have seen : (s.withLevers v).llu[k].unseen = s.llu[k].unseen := unseen k
  unfold State.stands
  rw [cfg, seen]
  cases conf : s.cfg.levers[k].configured with
  | false => rfl
  | true => simp only [State.decoded, cfg, conf, if_true]; rfl

theorem clearMarks_withLevers (cs : List TrackId) :
    clearMarks cs (s.withLevers v) = (clearMarks cs s).withLevers v := by
  unfold clearMarks
  induction cs generalizing s with
  | nil => rfl
  | cons c cs ih => exact ih (clearMark c s)

theorem createGroup_withLevers (es : List GroupEntry) (d : Detail) :
    createGroup es d (s.withLevers v) =
      ((createGroup es d s).1, (createGroup es d s).2.withLevers v) := by
  have device : (s.withLevers v).device = s.device := rfl
  have holds : (s.withLevers v).ht = s.ht := rfl
  unfold createGroup
  rw [device, holds]
  (repeat' split) <;> rfl

theorem escapeHolds_withLevers (unseen : ∀ k : LeverId, v[k].unseen = s.llu[k].unseen) :
    escapeHolds l (s.withLevers v) =
      ((escapeHolds l s).1.withLevers v, (escapeHolds l s).2) := by
  have cfg : (s.withLevers v).cfg = s.cfg := rfl
  have failing : pointsFailing l (s.withLevers v) = pointsFailing l s := by
    unfold pointsFailing
    simp only [stands_withLevers s v unseen, cfg]
  unfold escapeHolds
  rw [failing, cfg, createGroup_withLevers]
  dsimp only
  rcases createGroup (routeGroup l s.cfg.routes[l]) (.lever l) s with ⟨answer, s1⟩
  cases pointsFailing l s with
  | some place => rfl
  | none => cases answer <;> rfl

/-- R86: an escape reads the unseen flags of the levers, and writes no lever. -/
theorem routeEscape_withLevers (unseen : ∀ k : LeverId, v[k].unseen = s.llu[k].unseen) :
    routeEscape l (s.withLevers v) = (routeEscape l s).withLevers v := by
  by_cases idle : s.ru[l].state = .idle
  · have idle' : (s.withLevers v).ru[l].state = .idle := idle
    have cfg : (s.withLevers v).cfg = s.cfg := rfl
    rw [routeEscape_idle l s idle, routeEscape_idle l _ idle', escapeHolds_withLevers l s v unseen,
      cfg]
    dsimp only
    rw [clearMarks_withLevers]
    rfl
  · rw [routeEscape_busy l s idle, routeEscape_busy l (s.withLevers v) idle]
    rfl

end

/-! ### The lever at its evaluation -/

theorem notice_service {f : State → State} {s : State} (service : s.device = .service) :
    notice f s = f s := if_pos service

section
variable {l : LeverId} {s : State}

/-- R42: what the grip record's judgement leaves of the lever. -/
theorem Lever.gripAt_kept (r : Lever) (gripped : Bool) :
    (r.gripAt gripped).release = r.release ∧ (r.gripAt gripped).position = r.position ∧
    (r.gripAt gripped).unseen = r.unseen := by
  unfold Lever.gripAt
  (repeat' split) <;> exact ⟨rfl, rfl, rfl⟩

/-- R42: the grip of a lever that is let go. -/
theorem Lever.gripAt_free (r : Lever) : (r.gripAt false).grip = .free := by
  simp [Lever.gripAt]

/-- The lever records at the judgement of lever `l` in an evaluation at a CONTINUOUS arrival. -/
def grippedLevers (l : LeverId) (s : State) : Vector Lever 40 :=
  tableUpdate s.llu l fun r => r.gripAt (s.gripped l)

theorem evaluateLever_withLevers (conf : s.cfg.levers[l].configured = true) :
    (evaluateLever .continuous l s).withLevers s.llu =
      (judgeLever .continuous l (s.withLevers (grippedLevers l s))).withLevers s.llu := by
  rw [evaluateLever_configured _ conf]
  rfl

end

/-! ### What the judgement of a SIGNAL lever hands -/

section
variable {l : LeverId} {s : State}

theorem signalNormal_reverse : signalNormal l .reverse s = false := by simp [signalNormal]

theorem noticeReturned_reverse : noticeReturned l .reverse s = s := by
  rw [noticeReturned, signalNormal_reverse, if_neg Bool.false_ne_true]

/-- What keeps the unseen flag of a lever keeps those of all. -/
theorem unseen_tableUpdate (v : Vector Lever 40) {f : Lever → Lever}
    (kept : ∀ r, (f r).unseen = r.unseen) (k : LeverId) :
    (tableUpdate v l f)[k].unseen = v[k].unseen := by
  rw [tableUpdate_get]
  split
  · exact kept _
  · rfl

/-- R49 to R51: the lever records with a fault recorded. -/
def faultedLevers (l : LeverId) (f : LeverFault) (s : State) : Vector Lever 40 :=
  tableUpdate s.llu l fun r => { r with lastFault := some (f, s.tb.clock) }

theorem leverFault_eq (f : LeverFault) : leverFault l f s =
    (latch .leverFault (.lever l) s).withLevers (faultedLevers l f s) := rfl

theorem faultedLevers_unseen (l : LeverId) (f : LeverFault) (s : State) (k : LeverId) :
    (faultedLevers l f s)[k].unseen = s.llu[k].unseen := by
  unfold faultedLevers
  exact unseen_tableUpdate s.llu (by intros; rfl) k

theorem leverFault_lever (f : LeverFault) : (leverFault l f s).llu[l] =
    { s.llu[l] with lastFault := some (f, s.tb.clock) } := by
  simp only [leverFault, latch_frame, State.updLever_own]

theorem leverFault_release (f : LeverFault) :
    (leverFault l f s).llu[l].release = s.llu[l].release := by rw [leverFault_lever]

theorem leverFault_recorded (f : LeverFault) : (leverFault l f s).recorded l = s.recorded l := by
  rw [State.recorded, leverFault_lever]
  rfl

/-- R50: the levers and the latch of an unreleased departure, before its notices. -/
def departed (l : LeverId) (s : State) : State :=
  if s.gripped l then (leverFault l .unreleased s).updLever l fun r => { r with grip := .spent }
  else leverFault l .unreleased s

theorem unreleasedDeparture_eq (p : EndPos) : unreleasedDeparture l p s =
    let s1 := if signalNormal l p s then notice (routeEscape l) (departed l s) else departed l s
    if s.decoded l = p.other.toPosition then noticeReturned l p.other s1 else s1 := rfl

theorem departed_levers (l : LeverId) (s : State) : ∃ v : Vector Lever 40,
    (∀ k : LeverId, v[k].unseen = s.llu[k].unseen) ∧
      departed l s = (latch .leverFault (.lever l) s).withLevers v := by
  have faulted := faultedLevers_unseen l .unreleased s
  unfold departed
  split
  · refine ⟨tableUpdate (faultedLevers l .unreleased s) l fun r => { r with grip := .spent },
      fun k => ?_, rfl⟩
    rw [← faulted k]
    exact unseen_tableUpdate (faultedLevers l .unreleased s) (by intros; rfl) k
  · exact ⟨_, faulted, rfl⟩

theorem signalNormal_normal (signal : s.isSignal l = true) : signalNormal l .normal s = true := by
  simp [signalNormal, signal]

variable (service : s.device = .service) (signal : s.isSignal l = true)
include service signal

/-- R54: the returned notice at NORMAL. -/
theorem noticeReturned_normal : noticeReturned l .normal s = routeReturned l s := by
  rw [noticeReturned, signalNormal_normal signal, if_pos rfl, notice_service service]

/-- R47, R84: a grant that leaves NORMAL withdrawn. -/
theorem withdrawGrant_normal : withdrawGrant l .normal s =
    routeWithdrawn l (s.updLever l fun r => { r with release := .notGranted }) := by
  rw [withdrawGrant, signalNormal_normal signal, if_pos rfl]
  exact notice_service service

/-- R46, R85: the departure from NORMAL under a grant. -/
theorem beginStroke_normal : beginStroke l .normal s = leftNormalGranted l (s.updLever l fun r =>
    { r with release := .stroke .normal, strokeTimer := some s.cfg.levers[l].strokeTimeout }) := by
  rw [beginStroke, signalNormal_normal signal, if_pos rfl]
  exact notice_service service

/-- R48, R54: the end of a stroke at NORMAL. -/
theorem arriveAt_normal (p : EndPos) : ∃ v, arriveAt l p .normal s = routeReturned l (s.withLevers v) :=
  ⟨_, noticeReturned_normal (s := s.updLever l _) service signal⟩

/-- R47: the grant of a lever that lets its catch go. -/
theorem judgeLever_letsGo (release : s.llu[l].release = .granted .normal)
    (decoded : s.decoded l = .normal) (free : s.gripped l = false) :
    ∃ v, judgeLever .continuous l s = routeWithdrawn l (s.withLevers v) := by
  have judged : judgeLever .continuous l s =
      withdrawGrant l .normal (s.updLever l fun r => { r with grip := .free }) := by
    simp [-Fin.getElem_fin, judgeLever, decoded, release, EndPos.toPosition, retestGrant, free]
  exact ⟨_, judged.trans (withdrawGrant_normal (s := s.updLever l _) service signal)⟩

/-- R46: the departure of a granted lever from NORMAL. -/
theorem judgeLever_leaves (release : s.llu[l].release = .granted .normal)
    (decoded : s.decoded l = .between ∨ s.decoded l = .reverse) :
    ∃ v w, judgeLever .continuous l s = (leftNormalGranted l (s.withLevers v)).withLevers w := by
  have begun := beginStroke_normal service signal
  rcases decoded with decoded | decoded
  · have judged : judgeLever .continuous l s = beginStroke l .normal s := by
      simp [-Fin.getElem_fin, judgeLever, decoded, release, EndPos.toPosition, leaveOrigin,
        Position.asEnd]
    exact ⟨_, _, judged.trans begun⟩
  · have judged : judgeLever .continuous l s = arriveAt l .normal .reverse (beginStroke l .normal s) := by
      simp [-Fin.getElem_fin, judgeLever, decoded, release, EndPos.toPosition, leaveOrigin,
        Position.asEnd]
    rw [judged, arriveAt, noticeReturned_reverse, begun]
    exact ⟨_, _, rfl⟩

/-- R48: the end of a stroke at NORMAL. -/
theorem judgeLever_arrives {p : EndPos} (release : s.llu[l].release = .stroke p)
    (decoded : s.decoded l = .normal) :
    ∃ v, judgeLever .continuous l s = routeReturned l (s.withLevers v) := by
  have judged : judgeLever .continuous l s = arriveAt l p .normal s := by
    simp [-Fin.getElem_fin, judgeLever, decoded, release, Position.asEnd]
  rw [judged]
  exact arriveAt_normal service signal p

variable (release : s.llu[l].release = .notGranted)
include release

/-- R54: a lever found at NORMAL that stood at no end. -/
theorem judgeLever_returns (position : s.recorded l = .between ∨ s.recorded l = .contradictory)
    (decoded : s.decoded l = .normal) (content : s.llu[l].grip ≠ .seeking) :
    judgeLever .continuous l s = routeReturned l s := by
  have noEnd : (s.recorded l).asEnd = none := by
    rcases position with h | h <;> rw [h] <;> rfl
  have stays : departs .continuous l s = none := by simp [departs, noEnd]
  have judged : judgeLever .continuous l s = seekAtEnd l (noticeReturned l .normal s) := by
    simp [-Fin.getElem_fin, judgeLever, decoded, release, judgeNotGranted, stays, noEnd]
  rw [judged, noticeReturned_normal service signal]
  exact seekAtEnd_of_not_seeking (by simpa [-Fin.getElem_fin] using content)

/-- R50, R51, R86: a departure from NORMAL without a grant. -/
theorem judgeLever_escapes (position : s.recorded l = .normal) (decoded : s.decoded l ≠ .normal) :
    ∃ v : Vector Lever 40, (∀ k : LeverId, v[k].unseen = s.llu[k].unseen) ∧
      judgeLever .continuous l s =
        routeEscape l ((latch .leverFault (.lever l) s).withLevers v) := by
  by_cases agree : s.decoded l = .contradictory
  · have judged : judgeLever .continuous l s = contactEffect l (leverFault l .contradictory s) := by
      simp [-Fin.getElem_fin, judgeLever, agree, contactFault, position]
    have owner : (leverFault l .contradictory s).isSignal l = true := signal
    rw [judged, contactEffect, leverFault_release, release]
    simp only [owner, leverFault_recorded, position, decide_true, Bool.and_self, if_true]
    rw [notice_service (by simpa using service)]
    exact ⟨_, faultedLevers_unseen l .contradictory s, rfl⟩
  · have gone : departs .continuous l s = some .normal := by
      simp [departs, service, position, Position.asEnd, EndPos.toPosition, decoded]
    have judged : judgeLever .continuous l s = unreleasedDeparture l .normal s := by
      simp [-Fin.getElem_fin, judgeLever, agree, release, judgeNotGranted, gone]
    obtain ⟨v, unseen, levers⟩ := departed_levers l s
    refine ⟨v, unseen, ?_⟩
    rw [judged, unreleasedDeparture_eq, levers, signalNormal_normal signal, if_pos rfl,
      notice_service (by simpa [State.withLevers] using service)]
    simp only [EndPos.other, noticeReturned_reverse, ite_self]

/-- R50: a departure from REVERSE without a grant that ends at NORMAL. -/
theorem judgeLever_departsReverse (position : s.recorded l = .reverse)
    (decoded : s.decoded l = .normal) :
    ∃ v : Vector Lever 40, judgeLever .continuous l s =
      routeReturned l ((latch .leverFault (.lever l) s).withLevers v) := by
  have gone : departs .continuous l s = some .reverse := by
    simp [departs, service, position, Position.asEnd, EndPos.toPosition, decoded]
  have judged : judgeLever .continuous l s = unreleasedDeparture l .reverse s := by
    simp [-Fin.getElem_fin, judgeLever, decoded, release, judgeNotGranted, gone]
  obtain ⟨v, -, levers⟩ := departed_levers l s
  refine ⟨v, ?_⟩
  rw [judged, unreleasedDeparture_eq, levers, signalNormal_reverse, if_neg Bool.false_ne_true,
    decoded, EndPos.other, EndPos.toPosition, if_pos rfl]
  exact noticeReturned_normal (by simpa [State.withLevers] using service) signal

omit release in
/-- R51, R85: the contacts of a granted lever disagree. -/
theorem judgeLever_disagrees (release : s.llu[l].release = .granted .normal)
    (position : s.recorded l ≠ .contradictory) (decoded : s.decoded l = .contradictory) :
    ∃ v : Vector Lever 40, judgeLever .continuous l s =
      leftNormalGranted l ((latch .leverFault (.lever l) s).withLevers v) := by
  have judged : judgeLever .continuous l s = contactEffect l (leverFault l .contradictory s) := by
    simp [-Fin.getElem_fin, judgeLever, decoded, contactFault, position]
  have handed := signalNormal_normal (s := leverFault l .contradictory s) signal
  rw [judged, contactEffect, leverFault_release, release]
  dsimp only
  rw [handed, if_pos rfl, notice_service (by simpa using service)]
  exact ⟨_, rfl⟩

end

end Sys2Proof.Machine

/-! The notices that the evaluation of a SIGNAL lever in SERVICE hands to the Route Unit. -/

namespace Sys2Proof.Machine

/-! ### The evaluation of a SIGNAL lever in SERVICE -/

theorem State.withLevers_of_llu {s u : State} (kept : u.llu = s.llu) : u.withLevers s.llu = u := by
  rw [← kept]
  rfl

section
variable {l : LeverId} {s : State}

/-- R42: the judged lever as the evaluation finds it. -/
theorem regripped_lever : (s.withLevers (grippedLevers l s)).llu[l] =
    s.llu[l].gripAt (s.gripped l) :=
  tableUpdate_get_self _ _ _

theorem regripped_release :
    (s.withLevers (grippedLevers l s)).llu[l].release = s.llu[l].release := by
  obtain ⟨release, -, -⟩ := s.llu[l].gripAt_kept (s.gripped l)
  rw [regripped_lever, release]

theorem regripped_recorded :
    (s.withLevers (grippedLevers l s)).recorded l = s.recorded l := by
  obtain ⟨-, position, -⟩ := s.llu[l].gripAt_kept (s.gripped l)
  rw [State.recorded, regripped_lever, position]
  rfl

theorem regripped_unseen (k : LeverId) : (grippedLevers l s)[k].unseen = s.llu[k].unseen := by
  unfold grippedLevers
  refine unseen_tableUpdate s.llu (fun r => ?_) k
  obtain ⟨-, -, unseen⟩ := r.gripAt_kept (s.gripped l)
  exact unseen

variable (conf : s.cfg.levers[l].configured = true)
include conf

/-- R39: the contacts of a configured lever do not depend on the lever records. -/
theorem regripped_decoded : (s.withLevers (grippedLevers l s)).decoded l = s.decoded l := by
  have conf' : (s.withLevers (grippedLevers l s)).cfg.levers[l].configured = true := conf
  rw [State.decoded, State.decoded, if_pos conf, if_pos conf']
  rfl

/-- An evaluation whose judgement ends in a notice, which reads no lever record that the evaluation
writes, has the notice's effect on everything but the levers. -/
theorem evaluateLever_hands {F : State → State} {u : State} {v w : Vector Lever 40}
    (blind : F (u.withLevers v) = (F u).withLevers v) (kept : (F u).llu = s.llu)
    (judged : judgeLever .continuous l (s.withLevers (grippedLevers l s)) =
      (F (u.withLevers v)).withLevers w) :
    { evaluateLever .continuous l s with llu := s.llu } = F u := by
  have handed : (evaluateLever .continuous l s).withLevers s.llu = (F u).withLevers s.llu := by
    rw [evaluateLever_withLevers conf, judged, blind]
    rfl
  exact handed.trans (State.withLevers_of_llu kept)

variable (service : s.device = .service) (kind : s.cfg.levers[l].kind = .signal)
include service kind

omit service in
theorem isSignal_of : s.isSignal l = true := by
  simp [-Fin.getElem_fin, State.isSignal, conf, kind]

theorem evaluateLever_letsGo (release : s.llu[l].release = .granted .normal)
    (decoded : s.decoded l = .normal) (free : s.gripped l = false) :
    { evaluateLever .continuous l s with llu := s.llu } = routeWithdrawn l s := by
  obtain ⟨v, judged⟩ := judgeLever_letsGo (s := s.withLevers (grippedLevers l s)) service
    (isSignal_of conf kind) (regripped_release.trans release)
    ((regripped_decoded conf).trans decoded) free
  exact evaluateLever_hands conf (routeWithdrawn_withLevers l s v)
    (by simp only [routeWithdrawn_frame]) judged

theorem evaluateLever_leaves (release : s.llu[l].release = .granted .normal)
    (decoded : s.decoded l = .between ∨ s.decoded l = .reverse) :
    { evaluateLever .continuous l s with llu := s.llu } = leftNormalGranted l s := by
  rw [← regripped_decoded conf] at decoded
  obtain ⟨v, w, judged⟩ := judgeLever_leaves (s := s.withLevers (grippedLevers l s)) service
    (isSignal_of conf kind) (regripped_release.trans release) decoded
  exact evaluateLever_hands conf (leftNormalGranted_withLevers l s v)
    (by simp only [leftNormalGranted_frame]) judged

theorem evaluateLever_arrives {p : EndPos} (release : s.llu[l].release = .stroke p)
    (decoded : s.decoded l = .normal) :
    { evaluateLever .continuous l s with llu := s.llu } = routeReturned l s := by
  obtain ⟨v, judged⟩ := judgeLever_arrives (s := s.withLevers (grippedLevers l s)) service
    (isSignal_of conf kind) (regripped_release.trans release)
    ((regripped_decoded conf).trans decoded)
  exact evaluateLever_hands conf (routeReturned_withLevers l s v)
    (by simp only [routeReturned_frame]) judged

theorem evaluateLever_disagrees (release : s.llu[l].release = .granted .normal)
    (position : s.recorded l ≠ .contradictory) (decoded : s.decoded l = .contradictory) :
    { evaluateLever .continuous l s with llu := s.llu } =
      leftNormalGranted l (latch .leverFault (.lever l) s) := by
  obtain ⟨v, judged⟩ := judgeLever_disagrees (s := s.withLevers (grippedLevers l s)) service
    (isSignal_of conf kind) (regripped_release.trans release)
    (by rw [regripped_recorded]; exact position) ((regripped_decoded conf).trans decoded)
  exact evaluateLever_hands conf (leftNormalGranted_withLevers l (latch .leverFault (.lever l) s) v)
    (by simp only [leftNormalGranted_frame, latch_frame]) judged

variable (release : s.llu[l].release = .notGranted)
include release

theorem evaluateLever_returns (position : s.recorded l = .between ∨ s.recorded l = .contradictory)
    (decoded : s.decoded l = .normal) (free : s.gripped l = false) :
    { evaluateLever .continuous l s with llu := s.llu } = routeReturned l s := by
  have content : (s.withLevers (grippedLevers l s)).llu[l].grip ≠ .seeking := by
    rw [regripped_lever, free, Lever.gripAt_free]
    simp
  rw [← regripped_recorded] at position
  have judged := judgeLever_returns (s := s.withLevers (grippedLevers l s)) service
    (isSignal_of conf kind) (regripped_release.trans release) position
    ((regripped_decoded conf).trans decoded) content
  exact evaluateLever_hands conf (routeReturned_withLevers l s _)
    (by simp only [routeReturned_frame]) judged

theorem evaluateLever_escapes (position : s.recorded l = .normal) (decoded : s.decoded l ≠ .normal) :
    { evaluateLever .continuous l s with llu := s.llu } =
      routeEscape l (latch .leverFault (.lever l) s) := by
  obtain ⟨v, unseen, judged⟩ := judgeLever_escapes (s := s.withLevers (grippedLevers l s)) service
    (isSignal_of conf kind) (regripped_release.trans release)
    (regripped_recorded.trans position) (by rw [regripped_decoded conf]; exact decoded)
  exact evaluateLever_hands conf
    (routeEscape_withLevers l (latch .leverFault (.lever l) s) v fun k =>
      (unseen k).trans (regripped_unseen k))
    (by simp only [routeEscape_frame, latch_frame]) judged

theorem evaluateLever_departsReverse (position : s.recorded l = .reverse)
    (decoded : s.decoded l = .normal) :
    { evaluateLever .continuous l s with llu := s.llu } =
      routeReturned l (latch .leverFault (.lever l) s) := by
  obtain ⟨v, judged⟩ := judgeLever_departsReverse (s := s.withLevers (grippedLevers l s)) service
    (isSignal_of conf kind) (regripped_release.trans release)
    (regripped_recorded.trans position) ((regripped_decoded conf).trans decoded)
  exact evaluateLever_hands conf (routeReturned_withLevers l (latch .leverFault (.lever l) s) v)
    (by simp only [routeReturned_frame, latch_frame]) judged

end

end Sys2Proof.Machine

/-! The obligation about the notices and the expiries of a route, clause by clause. -/

namespace Sys2Proof.Machine

section
variable {l : LeverId} {s : State}

/-! ### The expiries -/

/-- R97: the emergency expiry frees the route, clears the marks of its circuits and latches ROUTE. -/
theorem emergency_latched : Latched .route (.lever l) s
    (latch .route (.lever l) (makeIdle l (clearMarks s.cfg.routes[l].circuits s))) :=
  latch_latched_of (by simp only [makeIdle_frame, clearMarks_frame])

/-! ### The return -/

/-- R87, after an escape: the route is faulted and ROUTE latched. -/
theorem routeReturned_escape (set : s.ru[l].state = .set) (escape : s.ru[l].escape = true) :
    Latched .route (.lever l) s (routeReturned l s) ∧ { routeReturned l s with au := s.au } =
      s.withRoute l { s.ru[l] with
        state := .sequenceFault, cause := some .unreleased, changed := s.tb.clock } := by
  rw [routeReturned_set set, returnDecision_escape escape, faultRoute_eq]
  exact ⟨latch_latched_of rfl, rfl⟩

/-- R87 cases 2 to 4: whether the first circuit is marked, in the words of the rule. -/
theorem firstMarked_eq_false
    (unmarked : ∀ c, s.cfg.routes[l].circuits[0]? = some c → s.tcm[c].mark = false) :
    firstMarked l s = false := by
  rw [← Bool.not_eq_true, firstMarked_iff]
  rintro ⟨c, first, marked⟩
  rw [unmarked c first] at marked
  cases marked

/-! ### The escape -/

section
variable (service : s.device = .service)
include service

/-- R86: with the levers in place and room in the Hold Table each points entry has a hold. -/
theorem escapeHolds_held
    (inPlace : ∀ e ∈ s.cfg.routes[l].points, s.stands s.decoded e.lever e.position = true)
    (room : s.cfg.routes[l].points.length ≤ (freeShared s.ht).length) :
    escapeHolds l s =
      let numbers := (freeShared s.ht).take s.cfg.routes[l].points.length
      ({ s with ht := writeGroup s.tb.clock s.ht (numbers.zip (routeGroup l s.cfg.routes[l])) },
        numbers.map fun h => ⟨false, some h⟩) := by
  rcases escapeHolds_cases l s service with ⟨-, -, e⟩ | ⟨elsewhere, -⟩ | ⟨-, full, -⟩
  · exact e
  · exact absurd inPlace elsewhere
  · exact absurd room full

/-- R86: with a lever out of place no hold is made. -/
theorem escapeHolds_elsewhere
    (elsewhere : ¬∀ e ∈ s.cfg.routes[l].points, s.stands s.decoded e.lever e.position = true) :
    escapeHolds l s = (s, s.cfg.routes[l].points.map fun _ => ⟨true, none⟩) := by
  rcases escapeHolds_cases l s service with ⟨inPlace, -⟩ | ⟨-, e⟩ | ⟨inPlace, -⟩
  · exact absurd inPlace elsewhere
  · exact e
  · exact absurd inPlace elsewhere

/-- R73, R86: without room in the Hold Table no hold is made and POOL is latched. -/
theorem escapeHolds_full
    (inPlace : ∀ e ∈ s.cfg.routes[l].points, s.stands s.decoded e.lever e.position = true)
    (full : ¬s.cfg.routes[l].points.length ≤ (freeShared s.ht).length) :
    escapeHolds l s = (latch .pool (.lever l) s,
      s.cfg.routes[l].points.map fun _ => ⟨true, none⟩) := by
  rcases escapeHolds_cases l s service with ⟨-, room, -⟩ | ⟨elsewhere, -⟩ | ⟨-, -, e⟩
  · exact absurd room full
  · exact absurd inPlace elsewhere
  · exact e

end

/-- R86: every escape ends with a latch of ROUTE. -/
theorem routeEscape_latches : (routeEscape l s).au[Source.id .route].pending = true ∧
    (routeEscape l s).au[Source.id .route].detail = some (.lever l) := by
  have latched (u : State) := latch_latched .route (.lever l) u
  by_cases idle : s.ru[l].state = .idle
  · rw [routeEscape_idle l s idle]
    exact ⟨(latched _).pending, (latched _).detail⟩
  · rw [routeEscape_busy l s idle]
    exact ⟨(latched _).pending, (latched _).detail⟩

variable (idle : s.ru[l].state = .idle)
include idle

theorem routeEscape_idle_circuit (c : TrackId) : (routeEscape l s).tcm[c] = { s.tcm[c] with
    mark := s.tcm[c].mark && decide (c ∉ s.cfg.routes[l].circuits) } := by
  have marks : (routeEscape l s).tcm =
      (clearMarks s.cfg.routes[l].circuits (escapeHolds l s).1).tcm := by
    rw [routeEscape_idle l s idle]
    simp only [latch_frame, State.withRoute]
  rw [marks, clearMarks_circuit]
  by_cases on : c ∈ s.cfg.routes[l].circuits <;> simp [-Fin.getElem_fin, on]

theorem routeEscape_idle_route : (routeEscape l s).ru[l] = { s.ru[l] with
    state := .set, k := 1, entries := (escapeHolds l s).2, escape := true, changed := s.tb.clock } := by
  rw [routeEscape_idle l s idle]
  simp only [latch_frame, State.withRoute_own, Route.escapes]

theorem routeEscape_idle_ht : (routeEscape l s).ht = (escapeHolds l s).1.ht := by
  rw [routeEscape_idle l s idle]
  simp only [latch_frame, State.withRoute, clearMarks_frame]

theorem routeEscape_idle_au {src : Source} (other : src.id ≠ Source.id .route) :
    (routeEscape l s).au[src.id] = (escapeHolds l s).1.au[src.id] := by
  rw [routeEscape_idle l s idle, (latch_latched .route (.lever l) _).others _ other]
  simp only [State.withRoute, clearMarks_frame]

/-- R86: where the Hold Table latches nothing the escape latches ROUTE alone. -/
theorem routeEscape_idle_latched (quiet : (escapeHolds l s).1.au = s.au) :
    Latched .route (.lever l) s (routeEscape l s) := by
  rw [routeEscape_idle l s idle]
  exact latch_latched_of (by simp only [State.withRoute, clearMarks_frame, quiet])

end

/-! ### The obligation -/

/-- Settles O21: the expiries and the notices from the Route Unit's operations, and what an evaluation
hands from the judgement of the lever. -/
theorem routeExpiriesFreeTheWholeRoute : Obligations.RouteExpiriesFreeTheWholeRoute := by
  refine ⟨fun s l => ⟨fun timer state => ?approach, fun timer state => ?emergency⟩,
    fun s l => ⟨fun granted => ?granted, fun other => ⟨if_neg other, if_neg other⟩,
      routeReturned_of_not_set,
      fun set => ⟨fun escape => ?returnEscape, fun c plain first marked => ?returnPassed,
        fun plain unmarked => ⟨fun locked => ?returnLocked, fun clear => ?returnFreed⟩⟩,
      routeEscape_latches.1, routeEscape_latches.2, ((OwnWork.refl l s).routeEscape).routes,
      fun busy => ?escapeBusy, fun idle service => ⟨routeEscape_idle_circuit idle,
        by simp only [routeEscape_frame], (escapeHolds l s).2, routeEscape_idle_route idle,
        ?escapeHeld, ?escapeUnheld, ?escapeElsewhere, ?escapeFull⟩⟩,
    fun s l service conf kind => ⟨evaluateLever_letsGo conf service kind,
      evaluateLever_leaves conf service kind, fun p => evaluateLever_arrives conf service kind,
      evaluateLever_returns conf service kind,
      fun release position decoded => ?handsEscape, fun release position decoded => ?handsReturn,
      fun release position decoded => ?handsLeft⟩⟩
  case approach =>
    obtain ⟨route, others, holds, frame⟩ := makeIdle_freed l s
    refine ⟨_, execApproachExpiry_due timer state, ?_, ?_, ?_, ?_, ?_, others, holds, frame⟩ <;>
      rw [route]
  case emergency =>
    obtain ⟨route, others, holds, -⟩ := makeIdle_freed l (clearMarks s.cfg.routes[l].circuits s)
    have latched := emergency_latched (l := l) (s := s)
    refine ⟨_, execEmergencyExpiry_due timer state, ?_, ?_, ?_, ?_, ?_, ?_, ?_, ?_, latched.pending,
      latched.detail, latched.others, ?_⟩ <;> simp only [latch_frame, makeIdle_frame]
    case refine_6 => simpa only [clearMarks_frame] using others
    case refine_7 =>
      simp only [clearMarks_frame] at holds
      exact holds
    case refine_8 => exact clearMarks_circuit _ s
    case refine_9 => simp only [clearMarks_frame]
    all_goals rw [route]
    simp only [clearMarks_frame]
  case granted =>
    obtain ⟨route, others, holds, frame⟩ := makeIdle_freed l s
    rw [routeWithdrawn_granted granted]
    exact ⟨⟨route, others, holds, frame⟩, if_pos granted⟩
  case returnEscape => exact routeReturned_escape set escape
  case returnPassed =>
    rw [routeReturned_set set, returnDecision_passed plain (firstMarked_iff.mpr ⟨c, first, marked⟩)]
    exact startReleasing_eq l s
  case returnLocked =>
    rw [routeReturned_set set, returnDecision_locked plain (firstMarked_eq_false unmarked)
      (approachOccupied_iff.mpr locked)]
    rfl
  case returnFreed =>
    rw [← approachOccupied_iff, Bool.not_eq_true] at clear
    obtain ⟨route, others, holds, frame⟩ := makeIdle_freed l s
    rw [routeReturned_set set, returnDecision_freed plain (firstMarked_eq_false unmarked) clear]
    exact ⟨route, others, holds, frame⟩
  case escapeBusy =>
    rw [routeEscape_busy l s busy]
    exact ⟨latch_latched_of rfl, rfl⟩
  case escapeHeld =>
    rintro ⟨inPlace, room⟩
    have held := escapeHolds_held service inPlace room
    refine ⟨?_, ?_, fun i h e number entry => ?_, fun h out => ?_,
      routeEscape_idle_latched idle (by rw [held])⟩
    · simp [-Fin.getElem_fin, held, room, Function.comp_def]
    · simp only [held, List.map_map, Function.comp_def]
    · rw [routeEscape_idle_ht idle, held]
      exact routeGroup_inside room number entry
    · rw [routeEscape_idle_ht idle, held]
      exact routeGroup_outside out
  case escapeUnheld =>
    intro refused
    rw [routeEscape_idle_ht idle]
    by_cases inPlace : ∀ e ∈ s.cfg.routes[l].points, s.stands s.decoded e.lever e.position = true
    · rw [escapeHolds_full service inPlace fun room => refused ⟨inPlace, room⟩]
      exact ⟨rfl, by simp only [latch_frame]⟩
    · rw [escapeHolds_elsewhere service inPlace]
      exact ⟨rfl, rfl⟩
  case escapeElsewhere =>
    exact fun elsewhere => routeEscape_idle_latched idle
      (by rw [escapeHolds_elsewhere service elsewhere])
  case escapeFull =>
    intro inPlace full
    rw [routeEscape_idle_au idle (src := .pool) (by decide), escapeHolds_full service inPlace full]
    have latched := latch_latched .pool (.lever l) s
    exact ⟨latched.pending, latched.detail⟩
  case handsEscape =>
    exact ⟨_, ⟨latch_latched _ _ s, by simp only [latch_frame]⟩,
      evaluateLever_escapes conf service kind release position decoded⟩
  case handsReturn =>
    exact ⟨_, ⟨latch_latched _ _ s, by simp only [latch_frame]⟩,
      evaluateLever_departsReverse conf service kind release position decoded⟩
  case handsLeft =>
    exact ⟨_, ⟨latch_latched _ _ s, by simp only [latch_frame]⟩,
      evaluateLever_disagrees conf service kind release position decoded⟩

end Sys2Proof.Machine

/-! The magnet law: a magnet bit is 1 only with the scan RUNNING and the lever released, and neither in
CONFIG nor for a lever that is not configured is one released. -/

namespace Sys2Proof.Machine

/-! ### What leaves the law alone -/

/-- What the magnet law reads is the same in both states. -/
structure MagnetsKept (s t : State) : Prop where
  releases : ∀ l : LeverId, t.llu[l].release = s.llu[l].release
  magnets : t.sbc.magnets = s.sbc.magnets
  scan : t.sbc.scan = s.sbc.scan
  levers : t.cfg.levers = s.cfg.levers
  device : t.device = s.device

namespace MagnetsKept
variable {s t u : State}

theorem of_eq (llu : t.llu = s.llu) (magnets : t.sbc.magnets = s.sbc.magnets)
    (scan : t.sbc.scan = s.sbc.scan) (levers : t.cfg.levers = s.cfg.levers)
    (device : t.device = s.device) : MagnetsKept s t :=
  ⟨fun _ => by rw [llu], magnets, scan, levers, device⟩

theorem refl (s : State) : MagnetsKept s s := of_eq rfl rfl rfl rfl rfl

theorem law (kept : MagnetsKept s t) (law : MagnetLaw s) : MagnetLaw t where
  bit l on := by
    rw [kept.scan, kept.releases]
    rw [kept.magnets] at on
    exact law.bit l on
  inConfig config l := (kept.releases l).trans (law.inConfig (kept.device ▸ config) l)
  unconfigured l out := by
    rw [kept.levers] at out
    exact (kept.releases l).trans (law.unconfigured l out)

end MagnetsKept

section
variable {s : State} (law : MagnetLaw s)
include law

/-- R53: with the scan not RUNNING, or with no lever released, no magnet bit is 1. -/
theorem MagnetLaw.dark {l : LeverId} (out : s.sbc.scan ≠ .running ∨ s.llu[l].release = .notGranted) :
    s.sbc.magnets[l] = false := by
  by_contra on
  obtain ⟨running, released⟩ := law.bit l (by simpa using on)
  exact out.elim (fun stopped => stopped running) released

end

/-! ### Levers that nothing releases -/

/-- In CONFIG no lever is released, and a lever that is not configured never is (R43, R58). -/
def Unreleasable (l : LeverId) (s : State) : Prop :=
  s.device = .config ∨ s.cfg.levers[l].configured = false

section
variable {l : LeverId} {s : State}

theorem Spared.unreleasable {t : State} (h : Spared l s t) (out : Unreleasable l s) :
    Unreleasable l t := by
  rwa [Unreleasable, h.device, h.cfg]

/-- A lever that is not configured, and that a state has as another has it. -/
def SkippedFrom (l : LeverId) (s t : State) : Prop :=
  t.llu[l] = s.llu[l] ∧ t.cfg.levers[l].configured = false

/-- A pass over the levers whose turn skips a lever that is not configured. -/
theorem SkippedFrom.pass {f : LeverId → State → State} {t : State} (h : SkippedFrom l s t)
    (work : ∀ l s, OwnWork l s (f l s))
    (skips : ∀ u : State, u.cfg.levers[l].configured = false → f l u = u) :
    SkippedFrom l s (forEach 40 f t) := by
  obtain ⟨u, before, after⟩ := forEach_lever_turn work t l
  rw [skips u (by rw [before.cfg]; exact h.2)] at after
  have whole := before.trans after
  exact ⟨whole.lever.trans h.1, by rw [whole.cfg]; exact h.2⟩

/-- R57: the steps of a RESTORED arrival do nothing to a lever that is not configured. -/
theorem restoredSteps_unconfigured (conf : s.cfg.levers[l].configured = false) :
    (restoredSteps s).llu[l] = s.llu[l] := by
  have start : SkippedFrom l s (notice restoreNotice s) := by
    unfold notice
    split
    · simp only [SkippedFrom, restoreNotice_frame, conf, and_self]
    · exact ⟨rfl, conf⟩
  have steps : SkippedFrom l s (restoredSteps s) :=
    ((((start.pass restoreRelease_ownWork fun u out => by
      simp [-Fin.getElem_fin, restoreRelease, out]).pass restoreDeparture_ownWork fun u out => by
      simp [-Fin.getElem_fin, restoreDeparture, out]).pass restoreUnseen_ownWork fun u out => by
      simp [-Fin.getElem_fin, restoreUnseen, out]).pass restoreContacts_ownWork fun u out => by
      simp [-Fin.getElem_fin, restoreContacts, out]).pass restoreReturned_ownWork fun u out => by
      simp [-Fin.getElem_fin, restoreReturned, State.isSignal, out]
  exact steps.1

/-- R43, R58: in CONFIG a lever that seeks is refused. -/
theorem seekAtEnd_config (config : s.device = .config) :
    (seekAtEnd l s).llu[l].release = s.llu[l].release := by
  unfold seekAtEnd
  (repeat' split)
  · rw [seekGrant, if_pos config, refuse_lever]
  · rfl
  · rfl

/-- R51: a contact fault leaves a NOT_GRANTED lever so. -/
theorem contactFault_release (still : s.llu[l].release = .notGranted) :
    (contactFault l s).llu[l].release = .notGranted := by
  by_cases new : s.recorded l = .contradictory
  · rw [contactFault, if_pos new, still]
  · rw [contactFault_lever still new, still]

/-- R43, R50: in CONFIG no NOT_GRANTED lever is granted. -/
theorem judgeLever_config (m : Continuity) (config : s.device = .config)
    (still : s.llu[l].release = .notGranted) :
    (judgeLever m l s).llu[l].release = .notGranted := by
  unfold judgeLever
  split
  · split
    · exact still
    · exact contactFault_release still
  · have none : departs m l s = none := if_neg fun h => by rw [config] at h; cases h.2
    rw [still]
    dsimp only [judgeNotGranted]
    rw [none]
    dsimp only
    split
    · rw [seekAtEnd_config (by simpa using config)]
      simp only [noticeReturned_frame, still]
    · rw [seekAtEnd_config config, still]

theorem evaluateLever_unreleasable (m : Continuity) (out : Unreleasable l s)
    (still : s.llu[l].release = .notGranted) :
    (evaluateLever m l s).llu[l].release = .notGranted := by
  by_cases conf : s.cfg.levers[l].configured = true
  · have config : s.device = .config := out.resolve_right (by simp [-Fin.getElem_fin, conf])
    obtain ⟨work, -, -, release⟩ := gripJudged_work (l := l) (s := s) m
    rw [evaluateLever_configured m conf, State.updLever_own]
    exact judgeLever_config m (work.device.trans config) (release.trans still)
  · rw [evaluateLever_unconfigured m conf, still]

/-- R41: the lever part of an arrival releases no lever in CONFIG, and none that is not configured. -/
theorem takeLeverPart_unreleasable (m : Continuity) (out : Unreleasable l s)
    (still : s.llu[l].release = .notGranted) :
    (takeLeverPart m s).llu[l].release = .notGranted := by
  have again : Unreleasable l (seenAgain m s) ∧ (seenAgain m s).llu[l].release = .notGranted := by
    have work := seenAgain_passWork m s
    refine ⟨by rwa [Unreleasable, work.device, work.cfg], ?_⟩
    unfold seenAgain
    split
    · cases conf : s.cfg.levers[l].configured with
      | true => exact (restoredSteps_lever conf).1
      | false => rw [restoredSteps_unconfigured conf, still]
    · exact still
  obtain ⟨u, before, after⟩ :=
    forEach_lever_turn (fun k a => evaluateLever_ownWork k a m) (seenAgain m s) l
  have evaluated : (evaluated m s).llu[l].release = .notGranted := by
    rw [Machine.evaluated, after.lever]
    exact evaluateLever_unreleasable m (before.unreleasable again.1) (before.lever ▸ again.2)
  rcases takeLeverPart_checked (l := l) (m := m) (s := s) |>.release with e | e
  · exact e.trans evaluated
  · exact e

end

/-! ### The arrival and the withdrawal -/

/-- R53: an unconfigured lever's magnet bit is left. -/
theorem takeLeverPart_otherMagnet {m : Continuity} {s : State} {l : LeverId}
    (conf : s.cfg.levers[l].configured = false) :
    (takeLeverPart m s).sbc.magnets[l] = s.sbc.magnets[l] := by
  have work := checked_passWork m s
  have bus : (takeLeverPart m s).sbc = (writeMagnets (checked m s)).sbc :=
    (noticeReleasePasses_passWork _).sbc
  have written : (writeMagnets (checked m s)).sbc.magnets[l] =
      if (checked m s).cfg.levers[l].configured then (checked m s).llu[l].release.magnet
      else (checked m s).sbc.magnets[l] := tabulate_get _ l
  simp only [bus]
  rw [written, work.cfg, if_neg (by simp [-Fin.getElem_fin, conf]), work.sbc]

section
variable {s : State} (law : MagnetLaw s)
include law

theorem takeLeverPart_magnetLaw (m : Continuity) (running : s.sbc.scan = .running) :
    MagnetLaw (takeLeverPart m s) := by
  have scan : (takeLeverPart m s).sbc.scan = .running := by rw [takeLeverPart_sbc]; exact running
  constructor
  · intro l on
    refine ⟨scan, ?_⟩
    cases conf : s.cfg.levers[l].configured with
    | true =>
      rw [takeLeverPart_magnet conf] at on
      exact of_decide_eq_true on
    | false =>
      rw [takeLeverPart_otherMagnet conf, law.dark (.inr (law.unconfigured l conf))] at on
      cases on
  · intro config l
    simp only [takeLeverPart_frame] at config
    exact takeLeverPart_unreleasable m (.inl config) (law.inConfig config l)
  · intro l out
    simp only [takeLeverPart_frame] at out
    exact takeLeverPart_unreleasable m (.inr out) (law.unconfigured l out)

omit law in
/-- R22, R29: the track part of an arrival writes no release state and no magnet bit. -/
theorem MagnetsKept.takeTrackPart : MagnetsKept s (takeTrackPart s) := by
  have bus : (Machine.takeTrackPart s).sbc = { s.sbc with lamps := (tracked s).sbc.lamps } :=
    (takeTrackPart_sbc s).trans (tracked_sbc s)
  apply of_eq <;> simp [bus]

theorem deliverArrival_magnetLaw (m : Continuity) (running : s.sbc.scan = .running) :
    MagnetLaw (deliverArrival m s) :=
  takeLeverPart_magnetLaw (MagnetsKept.takeTrackPart.law law) m
    (MagnetsKept.takeTrackPart.scan.trans running)

/-- The Scan Bus Controller written with the magnet bits of a state that may have them: as they were, or
all 0. -/
theorem setSbc_magnetLaw {b : ScanBus} (bits : ∀ l : LeverId, b.magnets[l] = true →
    s.sbc.magnets[l] = true ∧ b.scan = .running) : MagnetLaw (s.setSbc b) where
  bit l on := ⟨(bits l on).2, (law.bit l (bits l on).1).2⟩
  inConfig := law.inConfig
  unconfigured := law.unconfigured

/-- A change of the bus that writes neither the magnet bits nor the scan state. -/
theorem setSbc_magnetsKept {b : ScanBus} (magnets : b.magnets = s.sbc.magnets)
    (scan : b.scan = s.sbc.scan) : MagnetLaw (s.setSbc b) :=
  MagnetsKept.law (s := s) (.of_eq rfl magnets scan rfl rfl) law

omit law in
/-- R30, R56: the two notices of a withdrawal change no release state and no magnet bit. -/
theorem MagnetsKept.scanWithdrawn : MagnetsKept s (leverWithdrawn (trackWithdrawn s)) where
  releases l := by rw [scanWithdrawn_lever]; exact (Lever.withdrawn_kept _ _ _).2.2
  magnets := by simp [trackWithdrawn_sbc]
  scan := by simp [trackWithdrawn_sbc]
  levers := by simp
  device := by simp

/-- R10, R13: the scan becomes RUNNING. -/
theorem enterRunning_magnetLaw : MagnetLaw (enterRunning s) :=
  setSbc_magnetLaw law fun _ on => ⟨on, rfl⟩

theorem afterGood_magnetLaw : MagnetLaw (afterGood s) := by
  unfold afterGood
  split
  · split
    · exact deliverArrival_magnetLaw (enterRunning_magnetLaw law) _ rfl
    · exact law
  · split
    · exact deliverArrival_magnetLaw (enterRunning_magnetLaw law) _ rfl
    · exact law
  · next running => exact deliverArrival_magnetLaw law _ running
  · exact law

/-- R12: the entry to LOST drops every magnet. -/
theorem afterBad_magnetLaw : MagnetLaw (afterBad s) := by
  unfold afterBad loseScan
  split
  · exact MagnetsKept.scanWithdrawn.law (setSbc_magnetLaw law fun l on => by simp at on)
  · exact law

theorem judgeFrame_magnetLaw (f : Frame) (sdi : BitVec 192) : MagnetLaw (judgeFrame f sdi s) := by
  unfold judgeFrame
  split
  · exact setSbc_magnetsKept law rfl rfl
  · split
    · exact afterGood_magnetLaw (setSbc_magnetsKept law rfl rfl)
    · exact afterBad_magnetLaw (setSbc_magnetsKept law rfl rfl)

/-- R16: a scan is stopped in CONFIG, where no lever is released. -/
theorem stopScan_magnetLaw (config : s.device = .config) : MagnetLaw (stopScan s) := by
  have stopped : MagnetLaw (s.setSbc { s.sbc with
      scan := .stopped
      frame := s.sbc.frame.map fun f => { f with unjudged := true }
      stop := .closingFrame }) :=
    setSbc_magnetLaw law fun l on => by
      have dark : s.sbc.magnets[l] = false := law.dark (.inr (law.inConfig config l))
      rw [dark] at on
      cases on
  unfold stopScan
  dsimp only
  split
  · exact MagnetsKept.scanWithdrawn.law stopped
  · exact stopped

end

end Sys2Proof.Machine

/-! The magnet law over the owners of the requests and over the events. -/

namespace Sys2Proof.Machine

/-! ### Requests -/

namespace MagnetsKept
variable (s : State)

/-- R180: a load of another table than the levers' changes nothing the law reads. -/
theorem inConfig {take : State → State × Reply}
    (owner : (take s).1.llu = s.llu ∧ (take s).1.sbc = s.sbc ∧
      (take s).1.cfg.levers = s.cfg.levers ∧ (take s).1.device = s.device) :
    MagnetsKept s (inConfig take s).1 := by
  unfold Machine.inConfig
  split
  · exact refl s
  · obtain ⟨llu, sbc, levers, device⟩ := owner
    exact of_eq llu (congrArg ScanBus.magnets sbc) (congrArg ScanBus.scan sbc) levers device

/-- A request about a record changes nothing when it is refused, and what its own rule leaves
otherwise. -/
theorem withRecord (train : Nat) {k : TrainId → Train → State → State × Reply}
    (owner : ∀ r t, MagnetsKept s (k r t s).1) : MagnetsKept s (withRecord train k s).1 := by
  unfold Machine.withRecord
  (repeat' split)
  · exact refl s
  · exact refl s
  · exact refl s
  · exact owner _ _

/-- R153: the group of an acceptance writes holds and what follows a send. -/
theorem acceptGroup (x : Line) (r : TrainId) (d : Option Description) (heard : List Nat) :
    MagnetsKept s (acceptGroup x r d heard s).1 := by
  unfold Machine.acceptGroup
  rcases createGroup_cases (clearingGroup x s) (.line x) s with ⟨-, e⟩ | ⟨-, -, e⟩ | ⟨-, -, e⟩ <;>
    rw [e] <;> dsimp only
  · exact refl s
  · split <;> apply of_eq <;> simp [retireClearing]
  · apply of_eq <;> simp

theorem takeAccept (r : Nat) (d : Option Description) : MagnetsKept s (takeAccept r d s).1 := by
  refine withRecord s r fun r t => ?_
  (repeat' split)
  · exact refl s
  · exact refl s
  · exact refl s
  · exact refl s
  · exact acceptGroup s _ r d _
  · exact refl s

end MagnetsKept

/-- The requests whose owners write what the magnet law reads: the lever table, the scan state and the
device state. -/
def writesMagnetWorld : Instr → Bool
  | .loadLever _ _ _ _ _ | .scanStart | .scanStop | .enterService | .restart => true
  | _ => false

/-- What the owners of all other requests leave alone. -/
theorem handRequest_magnets {i : Instr} (s : State) (other : writesMagnetWorld i = false) :
    MagnetsKept s (handRequest i s).1 := by
  cases i
  case loadLever | scanStart | scanStop | enterService | restart => cases other
  case loadSlots | loadRoute | loadTrack | loadLine | loadCode | loadTiming =>
    refine MagnetsKept.inConfig s ?_
    dsimp only
    (repeat' split) <;> simp [loadTimingSet]
  case accept => exact .takeAccept s _ _
  case retireTrain | tailSeen | outOfSection | cancelOffer =>
    refine MagnetsKept.withRecord s _ fun r t => ?_
    (repeat' split) <;> apply MagnetsKept.of_eq <;> simp
  case readLever | readTrack | readRoute | readHold | listHolds | readLine | readCode | readTrain =>
    simp only [handRequest, atOnce, takeReadLever, takeReadTrack, takeReadRoute, takeReadHold,
      takeListHolds, takeReadLine, takeReadCode, takeReadTrain]
    (repeat' split) <;> exact .refl s
  case loadAttention | clearMark | placeBar | removeBar | timedRelease | createTrain
      | setDestination | offer | acknowledge | sendCode | restoreLine | releaseCode
      | clearAttention | setClock =>
    simp only [handRequest, atOnce, takeLoadAttention, takeClearMark, takePlaceBar, takeRemoveBar,
      takeTimedRelease, takeCreateTrain, takeSetDestination, takeOffer, takeAcknowledge, takeSendCode,
      takeRestoreLine, takeReleaseCode, takeClearAttention, takeSetClock]
    (repeat' split) <;> apply MagnetsKept.of_eq <;> simp
  all_goals exact .of_eq rfl rfl rfl rfl rfl

section
variable {s : State} (law : MagnetLaw s)
include law

/-- R37: a lever loaded is configured, so no more levers must be NOT_GRANTED. -/
theorem takeLoadLever_magnetLaw (l kind timeout : Nat) (a b : List RawCondition) :
    MagnetLaw (takeLoadLever l kind timeout a b s).1 := by
  unfold takeLoadLever inConfig
  dsimp only
  (repeat' split)
  case h_5 k cfg _ _ _ _ _ _ _ _ _ =>
    refine ⟨law.bit, law.inConfig, fun m out => law.unconfigured m ?_⟩
    simp only [State.setCfg_cfg, tableUpdate_get] at out
    split at out
    · cases out
    · exact out
  all_goals exact law

/-- R15: the scan starts from STOPPED, with every magnet bit 0. -/
theorem takeScanStart_magnetLaw : MagnetLaw (takeScanStart s).1 := by
  unfold takeScanStart
  split
  · exact law
  · next start =>
    refine setSbc_magnetLaw law fun l on => ?_
    have dark : s.sbc.magnets[l] = false :=
      law.dark (.inl fun running => start (.inr (by simp [running])))
    rw [dark] at on
    cases on

theorem takeScanStop_magnetLaw : MagnetLaw (takeScanStop s).1 := by
  unfold takeScanStop
  split
  · exact law
  · next stop =>
    have config : s.device = .config := by cases d : s.device <;> simp_all
    split
    · exact law
    · exact stopScan_magnetLaw law config

/-- R58, R183: ENTER_SERVICE changes no release state. -/
theorem takeEnterService_magnetLaw : MagnetLaw (takeEnterService s).1 := by
  have entered : MagnetLaw (enterService s) := by
    have release (l : LeverId) : (s.llu.map Lever.entersService)[l].release = s.llu[l].release := by
      rw [map_get]
      rfl
    constructor <;> simp only [enterService, createBlockHolds, forEachLine, ensureBlock_frame]
    · intro l on
      rw [release]
      exact law.bit l on
    · nofun
    · intro l out
      rw [release]
      exact law.unconfigured l out
  unfold takeEnterService
  (repeat' split)
  case h_2 => exact entered
  all_goals exact law

omit law in
/-- R58, R184: RESTART leaves every lever NOT_GRANTED and every magnet bit 0. -/
theorem restartPart_magnetLaw (s : State) : MagnetLaw (restartPart s) := by
  have released (l : LeverId) : (restartPart s).llu[l].release = .notGranted :=
    congrArg Lever.release (map_get s.llu Lever.restarts l)
  exact ⟨fun l on => by simp [restartPart] at on, fun _ => released, fun l _ => released l⟩

theorem handRequest_magnetLaw (i : Instr) : MagnetLaw (handRequest i s).1 := by
  cases other : writesMagnetWorld i with
  | false => exact (handRequest_magnets s other).law law
  | true =>
    cases i
    case loadLever => exact takeLoadLever_magnetLaw law _ _ _ _ _
    case scanStart => exact takeScanStart_magnetLaw law
    case scanStop => exact takeScanStop_magnetLaw law
    case enterService => exact takeEnterService_magnetLaw law
    case restart => exact restartPart_magnetLaw s
    all_goals cases other

/-! ### Events -/

omit law in
/-- R49: a stroke timeout leaves the lever in STROKE. -/
theorem MagnetsKept.strokeTimedOut (l : LeverId) : MagnetsKept s
    (leverFault l .strokeTimeout (s.updLever l fun r => { r with strokeTimer := none })) := by
  refine ⟨fun k => ?_, ?_, ?_, ?_, ?_⟩
  · by_cases own : l = k
    · subst own
      rw [leverFault_release, State.updLever_own]
    · simp only [leverFault, latch_frame, State.updLever_llu, tableUpdate_get, own, if_false]
  all_goals simp

omit law in
/-- R165: a boundary counted changes no release state. -/
theorem MagnetsKept.takeBoundary : MagnetsKept s (takeBoundary s) := by
  refine ⟨fun l => ?_, rfl, rfl, rfl, rfl⟩
  have counted : (Machine.takeBoundary s).llu[l] = s.llu[l].boundary := map_get _ _ _
  rw [counted]
  rfl

omit law in
/-- The events that judge no frame and reset nothing leave what the law reads. -/
theorem exec_magnets {i : Instr} {s t : State} (event : isEvent i = true)
    (reset : i ≠ .fullReset) (judge : ∀ sdi, i ≠ .frameJudge sdi) (run : exec i s = .next t) :
    MagnetsKept s t := by
  cases i
  case fullReset => exact absurd rfl reset
  case frameJudge sdi => exact absurd rfl (judge sdi)
  case tick a b c =>
    cases run
    apply MagnetsKept.of_eq <;> simp [takeTick]
  case pickupExpiry =>
    cases run
    apply MagnetsKept.of_eq <;> simp [clearDue]
  case tenthBoundary =>
    simp only [exec, execTenthBoundary] at run
    split at run <;> cases run
    · exact .takeBoundary
    · exact .refl s
  case strokeTimeout l =>
    simp only [exec, execStrokeTimeout] at run
    split at run <;> cases run
    · exact .strokeTimedOut l
    · exact .refl s
  case frameOpen | closingFrame | closingSync =>
    simp only [exec, execFrameOpen, execClosingFrame, execClosingSync] at run
    split at run <;> cases run <;> exact .of_eq rfl rfl rfl rfl rfl
  case approachExpiry | emergencyExpiry | blankingEnd | repetitionDeadlineExpiry | quietWaitEnd =>
    simp only [exec, execApproachExpiry, execEmergencyExpiry, execBlankingEnd,
      execRepetitionDeadlineExpiry, execQuietWaitEnd] at run
    split at run <;> cases run <;> apply MagnetsKept.of_eq <;> simp
  case codeEnd | sendCompletion | instrumentSettling =>
    simp only [exec, execCodeEnd, execSendCompletion, execInstrumentSettling] at run
    split at run <;> cases run <;> apply MagnetsKept.of_eq <;> simp
  case lapseExpiry r h =>
    simp only [exec, execLapseExpiry] at run
    (repeat' split at run) <;> cases run <;> apply MagnetsKept.of_eq <;> simp
  all_goals cases event

omit law in
/-- R185: a full reset leaves every lever NOT_GRANTED and every magnet bit 0. -/
theorem magnetLaw_of_reset {s : State} (llu : s.llu = Vector.replicate 40 Lever.reset)
    (magnets : s.sbc.magnets = Vector.replicate 40 false) : MagnetLaw s := by
  have released (l : LeverId) : s.llu[l].release = .notGranted := by simp [llu, Lever.reset]
  exact ⟨fun l on => by simp [magnets] at on, fun _ => released, fun l _ => released l⟩

theorem exec_event_magnetLaw {i : Instr} {t : State} (event : isEvent i = true)
    (run : exec i s = .next t) : MagnetLaw t := by
  cases i
  case fullReset => cases run; exact magnetLaw_of_reset rfl rfl
  case frameJudge sdi =>
    change execFrameJudge sdi s = _ at run
    unfold execFrameJudge at run
    split at run <;> cases run
    · exact judgeFrame_magnetLaw law _ _
    · exact law
  all_goals exact (exec_magnets event (by simp) (by simp) run).law law

end

/-- Settles O56: the law is kept by every owner's rule and by every event. -/
theorem stepKeepsTheMagnetLaw : Obligations.StepKeepsTheMagnetLaw := by
  intro s t law run
  exact step_keeps (fun _ _ _ _ law => ⟨law.bit, law.inConfig, law.unconfigured⟩)
    (fun i _ law => handRequest_magnetLaw law i)
    (fun _ _ _ event law run => exec_event_magnetLaw law event run) law run

end Sys2Proof.Machine

/-! The laws of the device right after a full reset. -/

namespace Sys2Proof.Machine

/-! ### A full reset at power-up -/

section
variable (l : LeverId) (h : HoldId) (r : TrainId) (x : Line)

theorem reset_hold : State.reset.ht[h] = none := by simp [State.reset]

theorem reset_record : State.reset.trt.records[r] = none := by simp [State.reset, TrainTable.reset]

theorem reset_circuit (c : TrackId) : State.reset.tcm[c] = Track.reset := by simp [State.reset]

theorem reset_line : State.reset.blc.get x = BlockLine.reset := PerLine.get_same _ _

theorem reset_bell : State.reset.bu.get x = BellUnit.reset := PerLine.get_same _ _

end

/-- R144: without a live record no half stands on a line, in whatever state. -/
theorem noHalf_of_empty {s : State} (empty : ∀ r : TrainId, s.trt.records[r] = none) (x : Line) :
    (∀ r, ¬inboundOn s r x) ∧ (∀ r, ¬outboundOn s r x) ∧ (∀ st, ¬inboundIs s x st) ∧
    ∀ st, ¬outboundIs s x st := by
  refine ⟨?_, ?_, ?_, ?_⟩
  · rintro r ⟨t, live, -⟩
    rw [empty r] at live; cases live
  · rintro r ⟨t, live, -⟩
    rw [empty r] at live; cases live
  · rintro st ⟨r, t, live, -⟩
    rw [empty r] at live; cases live
  · rintro st ⟨r, t, live, -⟩
    rw [empty r] at live; cases live

/-- R144: without a live record the law for halves holds. -/
theorem halvesLaw_of_empty {s : State} (empty : ∀ r : TrainId, s.trt.records[r] = none) :
    HalvesLaw s where
  inbound x q _ stands := absurd stands ((noHalf_of_empty empty x).1 q)
  outbound x q _ stands := absurd stands ((noHalf_of_empty empty x).2.1 q)

/-- R126: without a live record the law holds with every IN instrument BLOCKED. -/
theorem instrumentLaw_of_empty {s : State} (empty : ∀ r : TrainId, s.trt.records[r] = none)
    (blocked : ∀ x, (s.blc.get x).inInstrument = .blocked) : InstrumentLaw s where
  halves := halvesLaw_of_empty empty
  clear x := by
    obtain ⟨-, -, inbound, -⟩ := noHalf_of_empty empty x
    simp [blocked x, inbound]
  onLine x := by
    obtain ⟨-, -, inbound, -⟩ := noHalf_of_empty empty x
    simp [blocked x, inbound]

/-- R135: without a live record the law holds with no outbound standing. -/
theorem standingLaw_of_empty {s : State} (empty : ∀ r : TrainId, s.trt.records[r] = none)
    (unset : ∀ x, (s.blc.get x).standing = .none) : StandingLaw s where
  halves := halvesLaw_of_empty empty
  offered x := by
    obtain ⟨-, -, -, outbound⟩ := noHalf_of_empty empty x
    simp [unset x, outbound]
  accepted x := by
    obtain ⟨-, -, -, outbound⟩ := noHalf_of_empty empty x
    simp [unset x, outbound]
  inSection x := by
    obtain ⟨-, -, -, outbound⟩ := noHalf_of_empty empty x
    simp [unset x, outbound]

/-- R64, R136: in CONFIG the law for the block hold asks for an empty Hold Table. -/
theorem blockHoldLaw_of_empty {s : State} (config : s.device = .config)
    (empty : ∀ h : HoldId, s.ht[h] = none) : BlockHoldLaw s where
  areas h hold live := by rw [empty h] at live; cases live
  starters service := by rw [config] at service; cases service
  inService service := by rw [config] at service; cases service
  outside _ := empty

/-- Settles O3: the tables are empty, so what the laws say of holds, halves, circuits and buffers holds
of none of them. -/
theorem lawsHoldAtReset : Obligations.LawsHoldAtReset := by
  refine ⟨blockHoldLaw_of_empty rfl reset_hold, instrumentLaw_of_empty reset_record fun x => ?inst,
    standingLaw_of_empty reset_record fun x => ?standing, magnetLaw_of_reset rfl rfl,
    clearanceLaw_of_unknown fun c => ?circuit, fun h hold l c live => ?route, fun x full => ?buffer,
    fun x => ?count, fun x t live => ?reserve⟩
  case inst => rw [reset_line]; rfl
  case standing => rw [reset_line]; rfl
  case circuit => rw [reset_circuit]; exact ⟨rfl, rfl⟩
  case route => rw [reset_hold] at live; cases live
  case buffer => rw [reset_bell] at full; cases full
  case count => rw [reset_line]; exact Nat.zero_le _
  case reserve => rw [reset_record] at live; cases live

end Sys2Proof.Machine

/-! READ_LEVER: the lever record byte by byte. -/

namespace Sys2Proof.Machine

/-! ### Bytes of a reply -/

/-- R187: eight flags in one byte. -/
theorem bitsByte_eight (a b c d e f g h : Bool) : bitsByte [a, b, c, d, e, f, g, h] =
    BitVec.ofNat 8 (a.toNat + 2 * b.toNat + 4 * c.toNat + 8 * d.toNat + 16 * e.toNat +
      32 * f.toNat + 64 * g.toNat + 128 * h.toNat) := by
  simp only [bitsByte, List.foldr]
  congr 1
  omega

theorem fill_length (s : State) (pos n : Nat) : (s.fill pos n).length = n := by
  simp [State.fill]

/-- R166: a timer shows the boundaries it still has to count, and 0 where it does not run. -/
theorem shownTimer_eq (timer : Option Nat) : shownTimer timer = timer.getD 0 := by
  cases timer <;> rfl

/-! ### The fields of a lever record -/

section
variable (s : State)

/-- R192: the position, the release state with its origin, and the grip record. -/
theorem leverStates_bytes (r : Lever) :
    bytesOne (positionNo r.position) ++ bytesOne (releaseNo r.release) ++ r.release.originByte ++
      bytesOne (gripNo r.grip) =
    [match r.position with | .normal => 0 | .reverse => 1 | .between => 2 | .contradictory => 3,
      match r.release with | .notGranted => 0 | .granted _ => 1 | .stroke _ => 2,
      match r.release with
        | .notGranted => 255
        | .granted .normal => 0 | .granted .reverse => 1
        | .stroke .normal => 0 | .stroke .reverse => 1,
      match r.grip with | .free => 0 | .seeking => 1 | .spent => 2] := by
  have position : bytesOne (positionNo r.position) = [match r.position with
      | .normal => 0 | .reverse => 1 | .between => 2 | .contradictory => 3] := by
    cases r.position <;> rfl
  have grip : bytesOne (gripNo r.grip) = [match r.grip with
      | .free => 0 | .seeking => 1 | .spent => 2] := by
    cases r.grip <;> rfl
  rw [position, grip]
  cases r.release with
  | notGranted => rfl
  | granted p => cases p <;> rfl
  | stroke p => cases p <;> rfl

/-- R192: the last stroke: how it ended and, where there is one, its stamp. -/
theorem strokeData_bytes (pos : Nat) (last : Option (Bool × Clock)) :
    ∃ at_ : List Byte, at_.length = 3 ∧ (∀ full c, last = some (full, c) → at_ = bytesThree c.toNat) ∧
      s.strokeData pos last =
        (match last with | none => 0 | some (true, _) => 1 | some (false, _) => 2) :: at_ := by
  cases last with
  | none => exact ⟨_, fill_length s _ 3, nofun, rfl⟩
  | some stroke =>
    obtain ⟨full, c⟩ := stroke
    refine ⟨bytesThree c.toNat, rfl, fun _ _ e => by cases e; rfl, ?_⟩
    cases full <;> rfl

/-- R192: the last refusal: its reason, its detail and, where there is one, its stamp. -/
theorem refusalData_bytes (pos : Nat) (last : Option RefusalRecord) :
    ∃ at_ : List Byte, at_.length = 3 ∧ (∀ r, last = some r → at_ = bytesThree r.stamp.toNat) ∧
      s.refusalData pos last = (match last with
        | none => ([0, 255] : List Byte)
        | some r =>
          [(match r.reason with
            | .notService => 1 | .scan => 2 | .condition _ => 3 | .held _ => 4
            | .routeBusy => 5 | .pool => 6) + (if r.superseded then 128 else 0),
          match r.reason with
            | .condition place => BitVec.ofNat 8 place
            | .held h => BitVec.ofNat 8 h.val
            | _ => 255]) ++ at_ := by
  cases last with
  | none => exact ⟨_, fill_length s _ 3, nofun, rfl⟩
  | some r =>
    obtain ⟨reason, stamp, superseded⟩ := r
    refine ⟨bytesThree stamp.toNat, rfl, fun _ e => by cases e; rfl, ?_⟩
    cases superseded <;> cases reason <;> rfl

/-- R192: the last fault: its number and, where there is one, its stamp. -/
theorem faultData_bytes (pos : Nat) (last : Option (LeverFault × Clock)) :
    ∃ at_ : List Byte, at_.length = 3 ∧ (∀ f c, last = some (f, c) → at_ = bytesThree c.toNat) ∧
      s.faultData pos last = (match last with
        | none => 0 | some (.strokeTimeout, _) => 1 | some (.contradictory, _) => 2
        | some (.unreleased, _) => 3) :: at_ := by
  cases last with
  | none => exact ⟨_, fill_length s _ 3, nofun, rfl⟩
  | some fault =>
    obtain ⟨f, c⟩ := fault
    refine ⟨bytesThree c.toNat, rfl, fun _ _ e => by cases e; rfl, ?_⟩
    cases f <;> rfl

end

/-! ### READ_LEVER -/

section
variable {s : State} {l : LeverId}

/-- R59: READ_LEVER answers the lever record of a lever in range. -/
theorem takeReadLever_lever (s : State) (l : LeverId) :
    takeReadLever (l.val + 1) s = (s, .done (s.leverData l)) := by
  rw [takeReadLever, leverOf_inverse.eq l]

theorem leverView_configured (conf : s.cfg.levers[l].configured = true) : s.leverView l =
    ⟨true, s.cfg.levers[l].kind, s.llu[l], s.sbc.magnets[l], s.sbc.input.leverN[l],
      s.sbc.input.leverR[l], s.sbc.input.catches[l]⟩ := if_pos conf

/-- R59, R192: the record of a configured lever, its states taken together. -/
theorem leverData_configured (conf : s.cfg.levers[l].configured = true) : s.leverData l =
    bytesOne (levNo l) ++
      [bitsByte [true, s.llu[l].catchGripped, s.llu[l].unseen, s.sbc.magnets[l],
        s.sbc.input.leverN[l], s.sbc.input.leverR[l], s.sbc.input.catches[l], s.llu[l].reported]] ++
      bytesOne (kindNo s.cfg.levers[l].kind) ++
      (bytesOne (positionNo s.llu[l].position) ++ bytesOne (releaseNo s.llu[l].release) ++
        s.llu[l].release.originByte ++ bytesOne (gripNo s.llu[l].grip)) ++
      bytesTwo (shownTimer s.llu[l].strokeTimer) ++ s.strokeData 9 s.llu[l].lastStroke ++
      s.refusalData 13 s.llu[l].lastRefusal ++ s.faultData 18 s.llu[l].lastFault := by
  rw [State.leverData, leverView_configured conf]
  simp only [List.append_assoc]

theorem leverView_unconfigured (conf : s.cfg.levers[l].configured = false) :
    s.leverView l = ⟨false, .other, Lever.reset, false, false, false, false⟩ :=
  if_neg (by simpa using conf)

end

/-- Settles O26: the lever record field by field, of a configured lever and of any other. -/
theorem readLeverFollowsItsLayout : Obligations.ReadLeverFollowsItsLayout := by
  intro s free
  refine ⟨fun l conf => ?_, fun l conf => ?_, fun n out => ?_⟩
  · obtain ⟨strokeAt, strokeLength, strokeStamp, stroke⟩ := strokeData_bytes s 9 s.llu[l].lastStroke
    obtain ⟨refusedAt, refusedLength, refusedStamp, refused⟩ :=
      refusalData_bytes s 13 s.llu[l].lastRefusal
    obtain ⟨faultAt, faultLength, faultStamp, fault⟩ := faultData_bytes s 18 s.llu[l].lastFault
    refine ⟨strokeAt, refusedAt, faultAt, strokeLength, refusedLength, faultLength, strokeStamp,
      refusedStamp, faultStamp, ?_⟩
    have kind : bytesOne (kindNo s.cfg.levers[l].kind) = [match s.cfg.levers[l].kind with
        | .signal => 0 | .points => 1 | .other => 2] := by
      cases s.cfg.levers[l].kind <;> rfl
    have data := serve_eq (n := 33) free (takeReadLever_lever s l)
    rw [leverData_configured conf, leverStates_bytes, kind, stroke, refused, fault, bitsByte_eight,
      shownTimer_eq] at data
    simp only [List.append_assoc] at data ⊢
    exact data
  · have data := serve_eq (n := 33) free (takeReadLever_lever s l)
    rw [State.leverData, leverView_unconfigured conf] at data
    exact ⟨_, _, _, fill_length s 10 3, fill_length s 15 3, fill_length s 19 3, data⟩
  · have refused : takeReadLever n s = (s, .badArgument 1) := by
      rw [takeReadLever, leverOf_eq_none.mpr out]
    exact serve_eq free refused

end Sys2Proof.Machine

/-! Entering service: the three checks, and the start of the box. -/

namespace Sys2Proof.Machine

/-! ### The checks of R182 -/

section
variable {s : State}

theorem takeEnterService_service (service : s.device = .service) :
    takeEnterService s = (s, .state) := if_pos service

variable (config : s.device = .config)
include config

theorem takeEnterService_scan (scan : s.sbc.scan ≠ .running) :
    takeEnterService s = (s, ⟨.scanNotReady, bytesOne (scanNo s.sbc.scan)⟩) := by
  rw [takeEnterService, if_neg (by simp [config]), if_pos scan]

variable (scan : s.sbc.scan = .running)
include scan

theorem takeEnterService_table {item : TableItem} (bad : s.cfg.offendingItem = some item) :
    takeEnterService s = (s, ⟨.tableError, item.bytes⟩) := by
  rw [takeEnterService, if_neg (by simp [config]), if_neg (by simp [scan]), bad]

variable (sound : s.cfg.offendingItem = none)
include sound

theorem takeEnterService_lever {l : LeverId} (first : lowest s.leverOutOfPlace = some l) :
    takeEnterService s =
      (s, ⟨.leversNotNormal, bytesOne (levNo l) ++ bytesOne (positionNo (s.recorded l))⟩) := by
  rw [takeEnterService, if_neg (by simp [config]), if_neg (by simp [scan]), sound]
  simp only [first]

theorem takeEnterService_enters (placed : lowest s.leverOutOfPlace = none) :
    takeEnterService s = (enterService s, .ok) := by
  rw [takeEnterService, if_neg (by simp [config]), if_neg (by simp [scan]), sound]
  simp only [placed]

end

/-- R182 check 3: a lever out of place, in the words of the rule. -/
theorem leverOutOfPlace_iff {s : State} {l : LeverId} : s.leverOutOfPlace l = true ↔
    s.cfg.levers[l].configured = true ∧ (s.llu[l].position = .contradictory ∨
      (s.cfg.levers[l].kind = .signal ∧ s.llu[l].position ≠ .normal)) := by
  simp only [State.leverOutOfPlace, Bool.and_eq_true, Bool.or_eq_true, decide_eq_true_eq]
  exact Iff.rfl

/-- R182: no lever is out of place exactly when none is the lowest. -/
theorem leverOutOfPlace_eq_false {s : State} {l : LeverId} : s.leverOutOfPlace l = false ↔
    ¬(s.cfg.levers[l].configured = true ∧ (s.llu[l].position = .contradictory ∨
      (s.cfg.levers[l].kind = .signal ∧ s.llu[l].position ≠ .normal))) := by
  rw [← leverOutOfPlace_iff, Bool.not_eq_true]

/-- R182: in tables without an offending item every line has a starter. -/
theorem starter_of_sound {cfg : ConfigStore} (sound : cfg.offendingItem = none) (x : Line) :
    ∃ l, (cfg.lines.get x).starter = some l := by
  have lines : [Line.a, Line.b, Line.c].find? cfg.lineFails = none := by
    simp only [ConfigStore.offendingItem, Option.orElse_eq_none, Option.map_eq_none_iff] at sound
    obtain ⟨-, -, -, -, lines, -⟩ := sound
    exact lines
  have passes : cfg.lineFails x = false := by
    have none_ := List.find?_eq_none.mp lines x (by cases x <;> simp)
    simpa using none_
  cases starter : (cfg.lines.get x).starter with
  | some l => exact ⟨l, rfl⟩
  | none => simp [ConfigStore.lineFails, starter, ConfigStore.namesSignal] at passes

/-! ### The Hold Table at ENTER_SERVICE -/

section
variable (s : State)

/-- R77: the three block holds are created by name. -/
theorem createBlockHolds_entry {x : Line} {l : LeverId}
    (starter : (s.cfg.lines.get x).starter = some l) :
    (createBlockHolds s).ht[blockEntry x] = some ⟨.block x, l, .normal, s.tb.clock⟩ := by
  have empty (y : Line) : (Vector.replicate 72 (none : Option Hold))[blockEntry y] = none := by simp
  have apart {y z : Line} (ne : y ≠ z) : blockEntry y ≠ blockEntry z := mt blockEntry_inj.mp ne
  unfold createBlockHolds forEachLine
  cases x with
  | a =>
    rw [ensureBlock_other (apart (by simp)), ensureBlock_other (apart (by simp)),
      ensureBlock_entry, starter]
    simp only [empty]
  | b =>
    rw [ensureBlock_other (apart (by simp)), ensureBlock_entry,
      ensureBlock_other (apart (by simp))]
    simp only [empty, ensureBlock_frame, starter]
  | c =>
    rw [ensureBlock_entry, ensureBlock_other (apart (by simp)),
      ensureBlock_other (apart (by simp))]
    simp only [empty, ensureBlock_frame, starter]

/-- R77: no other hold is created. -/
theorem createBlockHolds_other {h : HoldId} (out : h.val < 64 ∨ 67 ≤ h.val) :
    (createBlockHolds s).ht[h] = none := by
  have apart (x : Line) : h ≠ blockEntry x := by
    rintro rfl
    cases x <;> simp [blockEntry] at out
  unfold createBlockHolds forEachLine
  rw [ensureBlock_other (apart _), ensureBlock_other (apart _), ensureBlock_other (apart _)]
  simp

/-- R183: what ENTER_SERVICE leaves in each block but the Hold Table. -/
theorem enterService_blocks : (enterService s).device = .service ∧
    (enterService s).tcm = s.tcm.map (fun r => { r with mark := false }) ∧
    (enterService s).llu = s.llu.map Lever.entersService ∧
    (enterService s).ru = s.ru.map (fun r => { Route.reset with changed := r.changed }) ∧
    (enterService s).bu = s.bu.map BellUnit.entersService ∧
    (enterService s).blc = s.blc.map BlockLine.starts ∧ (enterService s).trt = TrainTable.reset := by
  simp only [enterService, createBlockHolds, forEachLine, ensureBlock_frame, and_self]

/-- R183: ENTER_SERVICE leaves the tables, the bus, the queue, the port, the attention records and the
time. -/
theorem enterService_frame :
    (enterService s).pending = s.pending ∧ (enterService s).draws = s.draws ∧
    (enterService s).cp = s.cp ∧ (enterService s).cfg = s.cfg ∧ (enterService s).sbc = s.sbc ∧
    (enterService s).boards = s.boards ∧ (enterService s).au = s.au ∧
    (enterService s).tb = s.tb := by
  simp only [enterService, createBlockHolds, forEachLine, ensureBlock_frame, and_self]

/-- R77, R183: the Hold Table after ENTER_SERVICE. -/
theorem enterService_holds :
    (∀ x l, (s.cfg.lines.get x).starter = some l →
      (enterService s).ht[blockEntry x] = some ⟨.block x, l, .normal, s.tb.clock⟩) ∧
    ∀ h : HoldId, h.val < 64 ∨ 67 ≤ h.val → (enterService s).ht[h] = none := by
  unfold enterService
  exact ⟨fun _ _ starter => createBlockHolds_entry _ starter, fun _ out => createBlockHolds_other _ out⟩

end

/-- Settles O51: the three checks in their order, and each block's record of the box that starts. -/
theorem enterServiceChecksAndStartsTheBox : Obligations.EnterServiceChecksAndStartsTheBox := by
  intro s free misplaced
  refine ⟨fun service => serve_eq free (takeEnterService_service service),
    fun config scan => ?scan, fun item config scan bad =>
      serve_eq free (takeEnterService_table config scan bad),
    fun config scan sound => ⟨fun l out lower => ?lever, fun placed => ?starts⟩⟩
  case scan =>
    have number : bytesOne (scanNo s.sbc.scan) = [match s.sbc.scan with
        | .stopped => 0 | .starting => 1 | .running => 2 | .lost => 3] := by
      cases s.sbc.scan <;> rfl
    have run := serve_eq (n := 20) free (takeEnterService_scan config scan)
    rw [number] at run
    exact run
  case lever =>
    have first : lowest s.leverOutOfPlace = some l := lowest_eq_some.mpr
      ⟨leverOutOfPlace_iff.mpr out, fun k below => leverOutOfPlace_eq_false.mpr (lower k below)⟩
    have position : bytesOne (positionNo (s.recorded l)) = [match s.llu[l].position with
        | .normal => 0 | .reverse => 1 | .between => 2 | .contradictory => 3] := by
      rw [State.recorded]
      cases s.llu[l].position <;> rfl
    have run := serve_eq (n := 20) free (takeEnterService_lever config scan sound first)
    rw [position] at run
    exact run
  case starts =>
    have none_ : lowest s.leverOutOfPlace = none :=
      lowest_eq_none.mpr fun l => leverOutOfPlace_eq_false.mpr (placed l)
    have run := serve_eq (n := 20) free (takeEnterService_enters config scan sound none_)
    obtain ⟨device, tcm, llu, ru, bu, blc, trt⟩ := enterService_blocks s
    obtain ⟨blockHold, noHold⟩ := enterService_holds s
    refine ⟨_, run, ?_⟩
    simp only [State.holding_device, State.holding_tcm, State.holding_llu, State.holding_ru,
      State.holding_ht, State.holding_bu, State.holding_blc, State.holding_trt, device, tcm, llu, ru,
      bu, blc, trt, map_get, PerLine.get_map]
    refine ⟨trivial, fun c => trivial, fun l => ⟨rfl, rfl⟩, fun x => ⟨?_, rfl, rfl, ?_⟩, noHold, ?_, ?_⟩
    · obtain ⟨l, starter⟩ := starter_of_sound sound x
      exact ⟨l, starter, blockHold x l starter⟩
    · exact PerLine.get_same _ _
    · intro r
      simp [TrainTable.reset]
    · simp only [State.holding, enterService_frame]
      rfl

end Sys2Proof.Machine

/-! RESTART: what each block keeps and what it resets. -/

namespace Sys2Proof.Machine

section
variable (s : State)

/-- R184: what RESTART leaves in each block. -/
theorem restartPart_blocks : (restartPart s).device = .config ∧
    (restartPart s).ht = Vector.replicate 72 none ∧ (restartPart s).trt = TrainTable.reset ∧
    (restartPart s).sbc = { s.sbc with magnets := Vector.replicate 40 false } ∧
    (restartPart s).llu = s.llu.map Lever.restarts ∧
    (restartPart s).ru = Vector.replicate 40 Route.reset ∧
    (restartPart s).bu = s.bu.map (fun b => b.restarts s.tb.tickCount) ∧
    (restartPart s).blc = s.blc.map BlockLine.starts ∧
    (restartPart s).au = s.au.map SourceRecord.clear :=
  ⟨rfl, rfl, rfl, rfl, rfl, rfl, rfl, rfl, rfl⟩

variable {s} in
/-- R168, R169: with every latched record clear, every buffer free and no obstruction flag, no source but
SCAN is pending, and SCAN only while the scan is LOST. -/
theorem sourcePending_of_quiet {i : SourceId} (latched : s.au[i].pending = false)
    (buffers : ∀ x, (s.bu.get x).buffer0 = none ∧ (s.bu.get x).buffer1 = none)
    (clear : ∀ x, (s.blc.get x).obstruction = false) (pending : s.sourcePending i = true) :
    i.val = 0 ∧ s.sbc.scan = .lost := by
  obtain ⟨a0, a1⟩ := buffers .a
  obtain ⟨b0, b1⟩ := buffers .b
  obtain ⟨c0, c1⟩ := buffers .c
  have oa := clear .a
  have ob := clear .b
  have oc := clear .c
  simp only [PerLine.get] at a0 a1 b0 b1 c0 c1 oa ob oc
  unfold State.sourcePending State.level at pending
  by_cases scan : i = Source.id .scan
  · subst scan
    exact ⟨rfl, by simpa using pending⟩
  · rw [if_neg scan] at pending
    (repeat' split at pending) <;>
      simp [-Fin.getElem_fin, BellUnit.unreleased, a0, a1, b0, b1, c0, c1, oa, ob, oc, latched]
        at pending

end

/-- Settles O52: each block's record after a RESTART, and the sources that can still be pending. -/
theorem restartReturnsToConfig : Obligations.RestartReturnsToConfig := by
  intro s free
  have run := serve_eq (n := 21) (take := takeRestart) free (s := s) rfl
  obtain ⟨device, ht, trt, sbc, llu, ru, bu, blc, au⟩ := restartPart_blocks s
  have bell (x : Line) : (restartPart s).bu.get x = (s.bu.get x).restarts s.tb.tickCount := by
    rw [bu, PerLine.get_map]
  have line (x : Line) : (restartPart s).blc.get x = (s.blc.get x).starts := by
    rw [blc, PerLine.get_map]
  refine ⟨_, run, device, fun h => ?ht, fun r => ?records, fun l => ⟨?magnet, ?lever, ?route⟩,
    fun x => ⟨?owed, line x, (bell x).trans ?bell⟩, fun i => ⟨?source, ?pending⟩, rfl, rfl⟩
  case ht => simp [ht]
  case records => simp [trt, TrainTable.reset]
  case magnet => simp [sbc]
  case lever => simp only [State.holding_llu, llu, map_get, Lever.restarts]
  case route => simp [ru, Route.reset]
  case owed => simp only [State.holding_trt, trt, TrainTable.reset, PerLine.get_same]
  case bell => cases blank : (s.bu.get x).blankUntil <;> simp [BellUnit.restarts, blank]
  case source => simp only [State.holding_au, au, map_get, SourceRecord.clear]
  case pending =>
    refine sourcePending_of_quiet (s := (restartPart s).holding _) ?_ (fun x => ?_) (fun x => ?_)
    · simp only [State.holding_au, au, map_get, SourceRecord.clear]
    · simp only [State.holding_bu, bell, BellUnit.restarts, and_self]
    · simp only [State.holding_blc, line, BlockLine.starts]

end Sys2Proof.Machine

/-! A lever that seeks a grant: the tests in their order, the refusal that each gives, and the grant. -/

namespace Sys2Proof.Machine

/-! ### The first element that fails, and the hold that binds -/

/-- R40: the place of the element that fails after elements that pass. -/
theorem firstFailing_append {α : Type} {ok : α → Bool} {before after : List α} {v : α}
    (pass : ∀ k ∈ before, ok k = true) (fail : ok v = false) (place : Nat) :
    firstFailing ok place (before ++ v :: after) = some (place + before.length) := by
  induction before generalizing place with
  | nil => simp [firstFailing, fail]
  | cons k before ih =>
    rw [List.cons_append, firstFailing, if_pos (pass k List.mem_cons_self),
      ih (fun j m => pass j (List.mem_cons_of_mem k m)), List.length_cons]
    congr 1
    omega

theorem holdBinds_iff {l : LeverId} {p : EndPos} {v : Option Hold} : holdBinds l p v = true ↔
    ∃ hold, v = some hold ∧ hold.lever = l ∧ hold.position = p := by
  cases v <;> simp [holdBinds]

theorem holdBinds_eq_false {l : LeverId} {p : EndPos} {v : Option Hold} :
    holdBinds l p v = false ↔ ∀ hold, v = some hold → ¬(hold.lever = l ∧ hold.position = p) := by
  rw [← Bool.not_eq_true, holdBinds_iff]
  simp only [not_exists, not_and]

/-- R62, R63: the lowest-numbered live hold that binds a lever at an end. -/
theorem bindingHold_eq_some {ht : Vector (Option Hold) 72} {l : LeverId} {p : EndPos} {h : HoldId} :
    bindingHold ht l p = some h ↔
      (∃ hold, ht[h] = some hold ∧ hold.lever = l ∧ hold.position = p) ∧
      ∀ (j : HoldId) (hold : Hold), j.val < h.val → ht[j] = some hold →
        ¬(hold.lever = l ∧ hold.position = p) := by
  rw [bindingHold, lowest_eq_some, holdBinds_iff]
  simp only [holdBinds_eq_false]
  exact and_congr_right fun _ =>
    ⟨fun lower j hold below => lower j below hold, fun lower j below hold => lower j hold below⟩

theorem bindingHold_eq_none {ht : Vector (Option Hold) 72} {l : LeverId} {p : EndPos} :
    bindingHold ht l p = none ↔ ∀ (h : HoldId) (hold : Hold), ht[h] = some hold →
      ¬(hold.lever = l ∧ hold.position = p) := by
  rw [bindingHold, lowest_eq_none]
  simp only [holdBinds_eq_false]

/-! ### The refusal -/

section
variable (l : LeverId) (why : RefusalReason) (s : State)

/-- R45: a reported refusal latches RELEASE_REFUSED in a grip in which none was reported. -/
theorem refuse_latched (reports : why.reported = true) (first : s.llu[l].reported = false) :
    Latched .releaseRefused (.lever l) s (refuse l why s) := by
  unfold refuse
  rw [reports, first]
  exact latch_latched_of rfl

/-- R45: any other refusal latches nothing. -/
theorem refuse_quiet (quiet : why.reported = false ∨ s.llu[l].reported = true) :
    (refuse l why s).au = s.au := by
  unfold refuse
  rcases quiet with h | h <;> rw [h] <;> simp

/-- R45: a refusal writes its own lever's record and the attention records only. -/
theorem refuse_others : (∀ k : LeverId, k ≠ l → (refuse l why s).llu[k] = s.llu[k]) ∧
    { refuse l why s with llu := s.llu, au := s.au } = s :=
  ⟨((OwnWork.refl l s).refuse why).levers, by simp only [refuse_frame]⟩

end

/-! ### The tests of R43 -/

/-- R43: the four tests that a lever must pass to leave `p`. -/
def MayLeave (l : LeverId) (p : EndPos) (s : State) : Prop :=
  s.device = .service ∧ s.sbc.scan = .running ∧
    (∀ c ∈ s.cfg.levers[l].leave p, s.condition s.decoded c = true) ∧
    ∀ (h : HoldId) (hold : Hold), s.ht[h] = some hold → ¬(hold.lever = l ∧ hold.position = p)

section
variable {l : LeverId} {p : EndPos} {s : State}

theorem leaveFailing_eq_none : leaveFailing l p s = none ↔
    ∀ c ∈ s.cfg.levers[l].leave p, s.condition s.decoded c = true := firstFailing_eq_none

/-- R43: the place of the first condition that fails. -/
theorem leaveFailing_eq_some {before after : List Condition} {c : Condition}
    (conditions : s.cfg.levers[l].leave p = before ++ c :: after)
    (met : ∀ k ∈ before, s.condition s.decoded k = true)
    (unmet : s.condition s.decoded c = false) :
    leaveFailing l p s = some (before.length + 1) := by
  rw [leaveFailing, conditions, firstFailing_append met unmet, Nat.add_comm]

theorem seekGrant_config (config : s.device = .config) : seekGrant l p s = refuse l .notService s :=
  if_pos config

section
variable (service : s.device = .service)
include service

theorem seekGrant_scan (scan : s.sbc.scan ≠ .running) : seekGrant l p s = refuse l .scan s := by
  rw [seekGrant, if_neg (by simp [service]), if_pos scan]

variable (scan : s.sbc.scan = .running)
include scan

theorem seekGrant_condition {place : Nat} (failing : leaveFailing l p s = some place) :
    seekGrant l p s = refuse l (.condition place) s := by
  rw [seekGrant, if_neg (by simp [service]), if_neg (by simp [scan]), failing]

variable (met : ∀ c ∈ s.cfg.levers[l].leave p, s.condition s.decoded c = true)
include met

theorem seekGrant_held {h : HoldId} (bound : bindingHold s.ht l p = some h) :
    seekGrant l p s = refuse l (.held h) s := by
  rw [seekGrant, if_neg (by simp [service]), if_neg (by simp [scan]), leaveFailing_eq_none.mpr met]
  simp only [bound]

end

theorem seekGrant_asks (may : MayLeave l p s) : seekGrant l p s = askRoute l p s := by
  obtain ⟨service, scan, met, unbound⟩ := may
  rw [seekGrant, if_neg (by simp [service]), if_neg (by simp [scan]), leaveFailing_eq_none.mpr met]
  simp only [bindingHold_eq_none.mpr unbound]

/-- R43: a lever that fails a test is refused. -/
theorem seekGrant_refuses (bars : ¬MayLeave l p s) : ∃ why, seekGrant l p s = refuse l why s := by
  cases device : s.device with
  | config => exact ⟨_, seekGrant_config device⟩
  | service =>
    by_cases scan : s.sbc.scan = .running
    · cases failing : leaveFailing l p s with
      | some place => exact ⟨_, seekGrant_condition device scan failing⟩
      | none =>
        have met := leaveFailing_eq_none.mp failing
        cases bound : bindingHold s.ht l p with
        | some h => exact ⟨_, seekGrant_held device scan met bound⟩
        | none => exact absurd ⟨device, scan, met, bindingHold_eq_none.mp bound⟩ bars
    · exact ⟨_, seekGrant_scan device scan⟩

/-! ### The grant of a lever that asks no route -/

theorem askRoute_plain (plain : s.cfg.levers[l].kind = .signal → p = .reverse) :
    askRoute l p s = giveGrant l p s := by
  have asksNone : signalNormal l p s = false := by
    by_cases signal : s.cfg.levers[l].kind = .signal
    · rw [plain signal]; exact signalNormal_reverse
    · simp [-Fin.getElem_fin, signalNormal, State.isSignal, signal]
  rw [askRoute, asksNone, if_neg Bool.false_ne_true]

/-- R43: the record of a lever that is granted. -/
theorem giveGrant_lever : (giveGrant l p s).llu[l] = { s.llu[l] with
    release := .granted p, grip := .spent
    lastRefusal := s.llu[l].lastRefusal.map fun r => ⟨r.reason, r.stamp, true⟩ } :=
  State.updLever_own _ _ _

end

/-! ### The route request of a SIGNAL lever -/

section
variable {l : LeverId} {s : State}

theorem routeRequest_busy (busy : s.ru[l].state ≠ .idle) : routeRequest l s = (.busy, s) :=
  if_pos busy

section
variable (idle : s.ru[l].state = .idle)
include idle

/-- R82: the place of the first points entry whose lever is elsewhere. -/
theorem routeRequest_elsewhere {before after : List PointsEntry} {e : PointsEntry}
    (points : s.cfg.routes[l].points = before ++ e :: after)
    (placed : ∀ k ∈ before, s.stands s.decoded k.lever k.position = true)
    (elsewhere : s.stands s.decoded e.lever e.position = false) :
    routeRequest l s = (.condition (13 + before.length), s) := by
  have failing : pointsFailing l s = some (13 + before.length) := by
    rw [pointsFailing, points]
    exact firstFailing_append placed elsewhere 13
  rw [routeRequest, if_neg (by simp [-Fin.getElem_fin, idle]), failing]

variable (service : s.device = .service)
  (inPlace : ∀ e ∈ s.cfg.routes[l].points, s.stands s.decoded e.lever e.position = true)
include service inPlace

/-- R70, R82: without room for a hold of each points entry the request is refused for want of
entries. -/
theorem routeRequest_full (full : (freeShared s.ht).length < s.cfg.routes[l].points.length) :
    routeRequest l s = (.pool, latch .pool (.lever l) s) := by
  have placed : pointsFailing l s = none := firstFailing_eq_none.mpr inPlace
  have size : (routeGroup l s.cfg.routes[l]).length = s.cfg.routes[l].points.length :=
    List.length_map _
  rw [routeRequest, if_neg (by simp [-Fin.getElem_fin, idle]), placed]
  rcases createGroup_cases (routeGroup l s.cfg.routes[l]) (.lever l) s with
    ⟨config, -⟩ | ⟨-, room, -⟩ | ⟨-, -, e⟩
  · rw [service] at config; cases config
  · omega
  · simp only [e]

end

/-- R67: the numbers that the holds of a route are given. -/
def routeNumbers (l : LeverId) (s : State) : List HoldId :=
  (freeShared s.ht).take s.cfg.routes[l].points.length

/-- R82: the record of a route that is granted. -/
def Route.grants (r : Route) (numbers : List HoldId) (clock : Clock) : Route :=
  { r with
    state := .granted, k := 1, entries := numbers.map fun h => ⟨false, some h⟩
    escape := false, cause := none, changed := clock }

/-- R67, R82: the holds of a route's points entries created. -/
def routeHeld (l : LeverId) (s : State) : State :=
  { s with
    ht := writeGroup s.tb.clock s.ht ((routeNumbers l s).zip (routeGroup l s.cfg.routes[l])) }

/-- R82: what a route request that is granted leaves: the holds, the marks and the route's record. -/
def routeGranted (l : LeverId) (s : State) : State :=
  (clearMarks s.cfg.routes[l].circuits (routeHeld l s)).withRoute l
    (s.ru[l].grants (routeNumbers l s) s.tb.clock)

theorem routeRequest_granted (idle : s.ru[l].state = .idle) (service : s.device = .service)
    (inPlace : ∀ e ∈ s.cfg.routes[l].points, s.stands s.decoded e.lever e.position = true)
    (room : s.cfg.routes[l].points.length ≤ (freeShared s.ht).length) :
    routeRequest l s = (.granted, routeGranted l s) := by
  have placed : pointsFailing l s = none := firstFailing_eq_none.mpr inPlace
  have size : (routeGroup l s.cfg.routes[l]).length = s.cfg.routes[l].points.length :=
    List.length_map _
  rw [routeRequest, if_neg (by simp [-Fin.getElem_fin, idle]), placed]
  rcases createGroup_cases (routeGroup l s.cfg.routes[l]) (.lever l) s with
    ⟨config, -⟩ | ⟨-, -, e⟩ | ⟨-, full, -⟩
  · rw [service] at config; cases config
  · rw [size] at e
    have held : createGroup (routeGroup l s.cfg.routes[l]) (.lever l) s =
        (.created (routeNumbers l s), routeHeld l s) := e
    simp only [held]
    rw [State.updRoute_eq_withRoute, clearMarks_withRoute, setRouteState_eq,
      State.withRoute_withRoute, State.withRoute_own]
    simp only [routeGranted, Route.grants, Route.takesHolds, State.withRoute, clearMarks_frame,
      routeHeld]
  · omega

end

end Sys2Proof.Machine

/-! The obligation about the grant: the refusals and the grants of a lever that seeks, and the evaluation
in which a gripped lever at an end seeks. -/

namespace Sys2Proof.Machine

section
variable {l : LeverId} {p : EndPos} {s : State}

/-! ### The refusal, as a whole -/

/-- R43, R45: what a lever that seeks leaves when it is refused for a reason. -/
theorem refuse_whole (why : RefusalReason) :
    (refuse l why s).llu[l] = { s.llu[l] with
      lastRefusal := some ⟨why, s.tb.clock, false⟩
      reported := s.llu[l].reported || why.reported } ∧
    (∀ k : LeverId, k ≠ l → (refuse l why s).llu[k] = s.llu[k]) ∧
    (why.reported = true → s.llu[l].reported = false →
      Latched .releaseRefused (.lever l) s (refuse l why s)) ∧
    (why.reported = false ∨ s.llu[l].reported = true → (refuse l why s).au = s.au) ∧
    { refuse l why s with llu := s.llu, au := s.au } = s := by
  obtain ⟨others, frame⟩ := refuse_others l why s
  exact ⟨refuse_lever why, others, refuse_latched l why s, refuse_quiet l why s, frame⟩

/-- R44, R45: a refusal by the Route Unit, which has changed no more than the attention records. -/
theorem refuse_byRoute {why : RefusalReason} (reports : why.reported = true) {u : State}
    (asked : { u with au := s.au } = s) :
    ((refuse l why u).llu[l] = { s.llu[l] with
      lastRefusal := some ⟨why, s.tb.clock, false⟩, reported := true } ∧
    (∀ k : LeverId, k ≠ l → (refuse l why u).llu[k] = s.llu[k]) ∧
    { refuse l why u with llu := s.llu, au := s.au } = s) ∧
    (s.llu[l].reported = false → Latched .releaseRefused (.lever l) u (refuse l why u)) ∧
    (s.llu[l].reported = true → (refuse l why u).au = u.au) := by
  have levers : u.llu = s.llu := by rw [← asked]
  have time : u.tb = s.tb := by rw [← asked]
  obtain ⟨record, others, latched, quiet, frame⟩ := refuse_whole (l := l) (s := u) why
  rw [reports, Bool.or_true] at record
  simp only [levers, time] at record others latched quiet frame
  refine ⟨⟨record, others, ?_⟩, latched reports, fun told => quiet (.inr told)⟩
  exact (congrArg (fun v : State => { v with au := s.au }) frame).trans asked

/-! ### The grant of a route -/

theorem askRoute_signal (conf : s.cfg.levers[l].configured = true)
    (kind : s.cfg.levers[l].kind = .signal) : askRoute l .normal s =
      match routeRequest l s with
      | (.granted, s1) => giveGrant l .normal s1
      | (.busy, s1) => refuse l .routeBusy s1
      | (.condition place, s1) => refuse l (.condition place) s1
      | (.pool, s1) => refuse l .pool s1
      | (.notService, s1) => refuse l .notService s1 :=
  if_pos (signalNormal_normal (isSignal_of conf kind))

/-- R44, R82: what a SIGNAL lever granted with its route leaves. -/
theorem routeGranted_whole (room : s.cfg.routes[l].points.length ≤ (freeShared s.ht).length) :
    (∀ (i : Nat) (h : HoldId) (e : PointsEntry), (routeNumbers l s)[i]? = some h →
      s.cfg.routes[l].points[i]? = some e →
      (routeGranted l s).ht[h] = some ⟨.route l e.circuit, e.lever, e.position, s.tb.clock⟩) ∧
    (∀ h : HoldId, h ∉ routeNumbers l s → (routeGranted l s).ht[h] = s.ht[h]) ∧
    (routeGranted l s).ru[l] = s.ru[l].grants (routeNumbers l s) s.tb.clock ∧
    (∀ k : LeverId, k ≠ l → (routeGranted l s).ru[k] = s.ru[k]) ∧
    (∀ c : TrackId, (routeGranted l s).tcm[c] = { s.tcm[c] with
      mark := s.tcm[c].mark && decide (c ∉ s.cfg.routes[l].circuits) }) ∧
    (routeGranted l s).llu = s.llu ∧
    { routeGranted l s with ht := s.ht, ru := s.ru, tcm := s.tcm } = s := by
  have ht : (routeGranted l s).ht = (routeHeld l s).ht := by
    simp only [routeGranted, State.withRoute, clearMarks_frame]
  have tcm : (routeGranted l s).tcm = (clearMarks s.cfg.routes[l].circuits (routeHeld l s)).tcm := rfl
  refine ⟨fun i h e number entry => ?_, fun h out => ?_, State.withRoute_own _ _ _,
    fun k ne => ?_, fun c => ?_, ?_, ?_⟩
  · rw [ht]
    exact routeGroup_inside room number entry
  · rw [ht]
    exact routeGroup_outside out
  · rw [routeGranted, State.withRoute_other _ _ _ ne]
    simp only [clearMarks_frame, routeHeld]
  · rw [tcm, clearMarks_circuit]
    by_cases on : c ∈ s.cfg.routes[l].circuits <;> simp [-Fin.getElem_fin, on, routeHeld]
  · simp only [routeGranted, State.withRoute, clearMarks_frame, routeHeld]
  · simp only [routeGranted, State.withRoute, clearMarks_frame, routeHeld]

/-! ### The evaluation in which a lever seeks -/

/-- R42: a gripped lever that newly grips, or that seeks, is judged with its grip SEEKING. -/
theorem gripAt_seeking {r : Lever} (seeks : r.catchGripped = false ∨ r.grip = .seeking) :
    r.gripAt true = { r with grip := .seeking } := by
  unfold Lever.gripAt
  rw [if_pos rfl]
  split
  · next held =>
    rw [← seeks.resolve_left (by simp [held])]
  · rfl

/-- Two updates of a lever's record that give the same record are the same. -/
theorem updLever_congr {f g : Lever → Lever} (same : f s.llu[l] = g s.llu[l]) :
    s.updLever l f = s.updLever l g := by
  simp only [State.updLever, tableUpdate, same]

/-- R39: the contacts of a configured lever do not depend on its record. -/
theorem decoded_updLever (f : Lever → Lever) (conf : s.cfg.levers[l].configured = true) :
    (s.updLever l f).decoded l = s.decoded l :=
  (if_pos conf).trans (if_pos conf).symm

theorem asEnd_toPosition (p : EndPos) : p.toPosition.asEnd = some p := by cases p <;> rfl

/-- R43: a NOT_GRANTED lever that stands at the end it stood at, with its grip SEEKING, seeks. -/
theorem judgeLever_seeksAt {m : Continuity} (still : s.llu[l].release = .notGranted)
    (position : s.llu[l].position = p.toPosition) (decoded : s.decoded l = p.toPosition)
    (seeking : s.llu[l].grip = .seeking) : judgeLever m l s = seekGrant l p s := by
  have agree : s.decoded l ≠ .contradictory := by rw [decoded]; cases p <;> simp [EndPos.toPosition]
  have recorded : (s.recorded l).asEnd = some p := by
    rw [State.recorded, position, asEnd_toPosition]
  have stays : departs m l s = none := by simp [departs, recorded, decoded]
  rw [judgeLever, if_neg agree, still]
  dsimp only
  rw [judgeNotGranted, stays]
  dsimp only
  rw [if_neg (by simp [recorded]), seekAtEnd, decoded, asEnd_toPosition]
  exact if_pos seeking

end

/-! ### The obligation -/

/-- Settles O20: the tests in their order, then the answers of the Route Unit, then the evaluation. -/
theorem grantNeedsServiceScanConditionsAndNoHold :
    Obligations.GrantNeedsServiceScanConditionsAndNoHold := by
  refine ⟨fun s l p still plain => ⟨fun may => ?granted, fun bars => ?refused, ?others, ?ht, ?ru,
      ?tcm⟩,
    fun s l p => ⟨fun config => ?notService, fun service scan => ?scan, fun service scan =>
      ⟨fun before c after conditions met unmet => ?condition, fun met h hold live binds lower => ?held⟩⟩,
    fun s l still conf kind service scan met unbound => ?route,
    fun s l p conf still position decoded gripped seeks => ?evaluation⟩
  case granted =>
    rw [seekGrant_asks may, askRoute_plain plain]
    exact ⟨by rw [giveGrant_lever], by rw [giveGrant_lever], rfl⟩
  case refused =>
    obtain ⟨why, e⟩ := seekGrant_refuses bars
    rw [e, refuse_lever]
    exact ⟨still, rfl, why, rfl⟩
  case others => exact ((OwnWork.refl l s).seekGrant p).levers
  case ht | ru | tcm =>
    by_cases may : MayLeave l p s
    · rw [seekGrant_asks may, askRoute_plain plain]
      simp only [giveGrant_frame]
    · obtain ⟨why, e⟩ := seekGrant_refuses may
      simp only [e, refuse_frame]
  case notService => rw [seekGrant_config config]; exact refuse_whole .notService
  case scan => rw [seekGrant_scan service scan]; exact refuse_whole .scan
  case condition =>
    rw [seekGrant_condition service scan
      (leaveFailing_eq_some conditions met (Bool.eq_false_of_not_eq_true unmet))]
    exact refuse_whole (.condition _)
  case held =>
    rw [seekGrant_held service scan met (bindingHold_eq_some.mpr ⟨⟨hold, live, binds⟩, lower⟩)]
    exact refuse_whole (.held h)
  case route =>
    intro t route inPlace refused reports
    have asks : t = askRoute l .normal s := seekGrant_asks ⟨service, scan, met, unbound⟩
    rw [askRoute_signal conf kind] at asks
    refine ⟨fun busy => ?_, fun before e after idle points placed elsewhere => ?_,
      fun idle placed full => ?_, fun idle placed room => ?_⟩
    · rw [routeRequest_busy busy] at asks
      simp only [refused, reports, asks]
      exact refuse_byRoute rfl rfl
    · rw [routeRequest_elsewhere idle points placed (Bool.eq_false_of_not_eq_true elsewhere)] at asks
      simp only [refused, reports, asks]
      exact refuse_byRoute rfl rfl
    · rw [routeRequest_full idle service placed full] at asks
      obtain ⟨whole, told⟩ := refuse_byRoute (l := l) (s := s) (why := .pool) rfl
        (u := latch .pool (.lever l) s) (by simp only [latch_frame])
      simp only [refused, reports, asks]
      exact ⟨whole, _, latch_latched .pool (.lever l) s, told⟩
    · rw [routeRequest_granted idle service placed room] at asks
      obtain ⟨inside, outside, own, others, marks, levers, frame⟩ := routeGranted_whole room
      refine ⟨routeNumbers l s, rfl, ?_⟩
      simp only [asks, giveGrant_frame]
      refine ⟨inside, outside, own, others, marks, ?_, fun k ne => ?_, ?_⟩
      · rw [giveGrant_lever, levers]
      · rw [((OwnWork.refl l _).giveGrant .normal).levers k ne, levers]
      · exact (congrArg (fun v : State => { v with llu := s.llu }) frame).trans rfl
  case evaluation =>
    have judged : gripJudged .continuous l s = s.updLever l fun r => { r with grip := .seeking } := by
      rw [gripJudged, if_neg (by simp), State.gripped, gripped]
      exact updLever_congr (gripAt_seeking seeks)
    have grip : (s.updLever l fun r => { r with grip := .seeking }).llu[l] =
        { s.llu[l] with grip := .seeking } := State.updLever_own _ _ _
    rw [evaluateLever_configured _ conf, judged, judgeLever_seeksAt (p := p) (by rw [grip]; exact still)
      (by rw [grip]; exact position) ((decoded_updLever _ conf).trans decoded) (by rw [grip]),
      decoded, State.gripped, gripped]

end Sys2Proof.Machine

/-! What a CONTINUOUS arrival makes of one lever: the record that each judgement gives. -/

namespace Sys2Proof.Machine

section
variable {l : LeverId} {p : EndPos} {s : State}

/-! ### The record that each step leaves -/

/-- R47: the record of a lever whose grant is withdrawn for a condition or a hold. -/
def Lever.deprived (r : Lever) (why : RefusalReason) (clock : Clock) : Lever :=
  { r with
    release := .notGranted, grip := .seeking, reported := true
    lastRefusal := some ⟨why, clock, false⟩ }

theorem withdrawFor_record {why : RefusalReason} (reports : why.reported = true) :
    (withdrawFor l p why s).llu[l] = s.llu[l].deprived why s.tb.clock := by
  rw [withdrawFor, withdrawGrant_lever, State.updLever_own, refuse_lever, reports, Bool.or_true]
  rfl

/-- R46: the record of a lever that enters STROKE. -/
theorem beginStroke_lever : (beginStroke l p s).llu[l] = { s.llu[l] with
    release := .stroke p, strokeTimer := some s.cfg.levers[l].strokeTimeout } := by
  have kept : (beginStroke l p s).llu = (s.updLever l fun r => { r with
      release := .stroke p, strokeTimer := some s.cfg.levers[l].strokeTimeout }).llu := by
    unfold beginStroke notice
    dsimp only
    (repeat' split) <;> simp only [leftNormalGranted_frame]
  simp only [kept]
  exact State.updLever_own _ _ _

/-- R48: the record of a lever whose stroke ends. -/
theorem arriveAt_lever (e : EndPos) : (arriveAt l p e s).llu[l] = { s.llu[l] with
    release := .notGranted, strokeTimer := none
    lastStroke := some (decide (e ≠ p), s.tb.clock) } := by
  simp only [arriveAt, noticeReturned_frame, State.updLever_own]

/-- R51: what a contact fault makes of a release state. -/
def Lever.contradicts (r : Lever) (clock : Clock) : Lever :=
  { r with
    release := .notGranted
    strokeTimer := match r.release with | .stroke _ => none | _ => r.strokeTimer
    lastFault := some (.contradictory, clock) }

theorem contactEffect_lever : (contactEffect l s).llu[l] = { s.llu[l] with
    release := .notGranted
    strokeTimer := match s.llu[l].release with | .stroke _ => none | _ => s.llu[l].strokeTimer } := by
  unfold contactEffect
  cases released : s.llu[l].release with
  | granted q =>
    have own : (s.updLever l fun r => { r with release := .notGranted }).llu[l] =
        { s.llu[l] with release := .notGranted } := State.updLever_own _ _ _
    dsimp only [notice]
    (repeat' split) <;> simp only [leftNormalGranted_frame, own]
  | stroke q => exact State.updLever_own _ _ _
  | notGranted =>
    have same : s.llu[l] = { s.llu[l] with release := .notGranted } := by rw [← released]
    have kept := contactEffect_llu released
    rw [contactEffect, released] at kept
    exact (congrArg (·[l]) kept).trans same

/-- R51: the record of a lever whose contacts disagree anew. -/
theorem contactFault_record (new : s.recorded l ≠ .contradictory) :
    (contactFault l s).llu[l] = s.llu[l].contradicts s.tb.clock := by
  rw [contactFault, if_neg new, contactEffect_lever, leverFault_lever]
  rfl

/-- R51: a contact fault latches LEVER_FAULT. -/
theorem contactFault_latches (new : s.recorded l ≠ .contradictory) :
    (contactFault l s).au[Source.id .leverFault].pending = true := by
  rw [contactFault, if_neg new]
  exact ((OwnWork.refl l _).contactEffect).pending _
    (latch_latched .leverFault (.lever l) _).pending

/-! ### The judgement by release state and decoded position -/

theorem judgeLever_contradictory (decoded : s.decoded l = .contradictory) :
    judgeLever .continuous l s = contactFault l s := by
  rw [judgeLever, if_pos decoded, if_neg (by simp)]

theorem toPosition_agrees (p : EndPos) : p.toPosition ≠ .contradictory := by
  cases p <;> simp [EndPos.toPosition]

theorem toPosition_inj {p q : EndPos} : p.toPosition = q.toPosition ↔ p = q := by
  cases p <;> cases q <;> simp [EndPos.toPosition]

/-- R46: a GRANTED lever found at neither end. -/
theorem judgeLever_strokes (release : s.llu[l].release = .granted p)
    (decoded : s.decoded l = .between) : judgeLever .continuous l s = beginStroke l p s := by
  have left : Position.between ≠ p.toPosition := by cases p <;> simp [EndPos.toPosition]
  simp [-Fin.getElem_fin, judgeLever, decoded, release, left, leaveOrigin, Position.asEnd]

/-- R46, R48: a GRANTED lever found at the other end. -/
theorem judgeLever_crosses {e : EndPos} (release : s.llu[l].release = .granted p)
    (decoded : s.decoded l = e.toPosition) (other : e ≠ p) :
    judgeLever .continuous l s = arriveAt l p e (beginStroke l p s) := by
  have left : ¬e.toPosition = p.toPosition := mt toPosition_inj.mp other
  simp [-Fin.getElem_fin, judgeLever, decoded, release, left, leaveOrigin, asEnd_toPosition,
    toPosition_agrees]

/-- R47: a GRANTED lever found at its origin. -/
theorem judgeLever_retests (release : s.llu[l].release = .granted p)
    (decoded : s.decoded l = p.toPosition) :
    judgeLever .continuous l s = retestGrant l p s := by
  simp [-Fin.getElem_fin, judgeLever, decoded, release, toPosition_agrees]

/-- R48: a lever in STROKE found at neither end. -/
theorem judgeLever_travels (release : s.llu[l].release = .stroke p)
    (decoded : s.decoded l = .between) : judgeLever .continuous l s = s := by
  simp [-Fin.getElem_fin, judgeLever, decoded, release, Position.asEnd]

/-- R48: a lever in STROKE found at an end. -/
theorem judgeLever_ends {e : EndPos} (release : s.llu[l].release = .stroke p)
    (decoded : s.decoded l = e.toPosition) : judgeLever .continuous l s = arriveAt l p e s := by
  simp [-Fin.getElem_fin, judgeLever, decoded, release, asEnd_toPosition, toPosition_agrees]

/-- R50: a NOT_GRANTED lever that has left the end it stood at. -/
theorem judgeLever_departs (service : s.device = .service)
    (release : s.llu[l].release = .notGranted) (position : s.llu[l].position = p.toPosition)
    (gone : s.decoded l ≠ p.toPosition) (agree : s.decoded l ≠ .contradictory) :
    judgeLever .continuous l s = unreleasedDeparture l p s := by
  have departs : departs .continuous l s = some p := by
    simp [-Fin.getElem_fin, Machine.departs, service, State.recorded, position, asEnd_toPosition, gone]
  simp [-Fin.getElem_fin, judgeLever, agree, release, judgeNotGranted, departs]

/-! ### The retested grant -/

/-- R47: the record of a lever that lets its catch go. -/
theorem retestGrant_free (free : s.gripped l = false) :
    (retestGrant l p s).llu[l] = { s.llu[l] with release := .notGranted, grip := .free } := by
  rw [retestGrant, free, if_pos Bool.not_false, withdrawGrant_lever, State.updLever_own]

theorem retestGrant_condition {place : Nat} (gripped : s.gripped l = true)
    (failing : leaveFailing l p s = some place) :
    (retestGrant l p s).llu[l] = s.llu[l].deprived (.condition place) s.tb.clock := by
  rw [retestGrant, gripped, failing]
  exact withdrawFor_record rfl

theorem retestGrant_held {h : HoldId} (gripped : s.gripped l = true)
    (met : leaveFailing l p s = none) (bound : bindingHold s.ht l p = some h) :
    (retestGrant l p s).llu[l] = s.llu[l].deprived (.held h) s.tb.clock := by
  rw [retestGrant, gripped, met]
  simp only [bound]
  exact withdrawFor_record rfl

theorem retestGrant_stands (gripped : s.gripped l = true) (met : leaveFailing l p s = none)
    (unbound : bindingHold s.ht l p = none) : retestGrant l p s = s := by
  rw [retestGrant, gripped, met]
  simp only [unbound]
  rfl

/-! ### The unseen flag -/

/-- R41: no judgement changes whether a lever is seen. -/
theorem judgeLever_unseen : (judgeLever .continuous l s).llu[l].unseen = s.llu[l].unseen := by
  by_cases agree : s.decoded l = .contradictory
  · rw [judgeLever_contradictory agree]
    by_cases new : s.recorded l = .contradictory
    · rw [contactFault, if_pos new]
    · rw [contactFault_record new]; rfl
  · unfold judgeLever
    rw [if_neg agree]
    split
    · next q _ =>
      unfold retestGrant leaveOrigin
      (repeat' split) <;>
        simp only [withdrawGrant_lever, State.updLever_own, arriveAt_lever,
          beginStroke_lever, (withdrawFor_lever (l := l) (s := s) q _).unseen]
    · split
      · rw [arriveAt_lever]
      · rfl
    · unfold judgeNotGranted
      split
      · rw [unreleasedDeparture_lever]
      · rw [(seekAtEnd_sought (l := l)).unseen]
        split <;> simp only [noticeReturned_frame]

theorem evaluateLever_unseen : (evaluateLever .continuous l s).llu[l].unseen = s.llu[l].unseen := by
  by_cases conf : s.cfg.levers[l].configured = true
  · obtain ⟨-, unseen, -⟩ := gripJudged_work (l := l) (s := s) .continuous
    rw [evaluateLever_configured _ conf, State.updLever_own, ← unseen]
    exact judgeLever_unseen
  · rw [evaluateLever_unconfigured _ conf]

end

end Sys2Proof.Machine

/-! What the evaluation of a CONTINUOUS arrival makes of one configured lever, its record written out. -/

namespace Sys2Proof.Machine

/-! ### The record with the sample taken -/

/-- R42: a lever's record with its contacts and its catch as the sample shows them. -/
def State.sampled (s : State) (l : LeverId) : Lever :=
  { s.llu[l] with
    position := s.decoded l, catchGripped := s.gripped l
    grip := if s.gripped l then (if s.llu[l].catchGripped then s.llu[l].grip else .seeking) else .free
    reported := s.gripped l && s.llu[l].reported }

theorem Lever.gripAt_eq (r : Lever) (gripped : Bool) : r.gripAt gripped = { r with
    grip := if gripped then (if r.catchGripped then r.grip else .seeking) else .free
    reported := gripped && r.reported } := by
  obtain ⟨position, caught, _⟩ := r
  cases gripped with
  | false => rfl
  | true => cases caught <;> rfl

section
variable {l : LeverId} {p e : EndPos} {s : State}

/-! ### The state in which a lever is judged -/

theorem gripJudged_lever :
    (gripJudged .continuous l s).llu[l] = s.llu[l].gripAt (s.gripped l) := by
  rw [gripJudged, if_neg (by simp), State.updLever_own]

/-- R42: what a judgement reads beside the grip record is as before. -/
theorem gripJudged_frame : (gripJudged .continuous l s).cfg = s.cfg ∧
    (gripJudged .continuous l s).tb = s.tb ∧ (gripJudged .continuous l s).ht = s.ht ∧
    (gripJudged .continuous l s).device = s.device ∧
    (gripJudged .continuous l s).gripped l = s.gripped l := by
  rw [gripJudged, if_neg (by simp)]
  exact ⟨rfl, rfl, rfl, rfl, rfl⟩

theorem gripJudged_position : (gripJudged .continuous l s).llu[l].position = s.llu[l].position := by
  rw [gripJudged_lever, Lever.gripAt_eq]

theorem gripJudged_release : (gripJudged .continuous l s).llu[l].release = s.llu[l].release := by
  rw [gripJudged_lever, Lever.gripAt_eq]

variable (conf : s.cfg.levers[l].configured = true)
include conf

theorem gripJudged_decoded : (gripJudged .continuous l s).decoded l = s.decoded l := by
  rw [gripJudged, if_neg (by simp)]
  exact decoded_updLever _ conf

/-! ### The evaluation -/

/-- R41, R42: an evaluation ends with the sample in the lever's record. -/
theorem evaluateLever_lever : (evaluateLever .continuous l s).llu[l] =
    { (judgeLever .continuous l (gripJudged .continuous l s)).llu[l] with
      position := s.decoded l, catchGripped := s.gripped l } := by
  rw [evaluateLever_configured _ conf, State.updLever_own]

section
variable (release : s.llu[l].release = .granted p)
include release

/-- R46: the evaluation of a GRANTED lever found at neither end. -/
theorem evaluateLever_strokes (between : s.decoded l = .between) :
    (evaluateLever .continuous l s).llu[l] =
      { s.sampled l with
        release := .stroke p, strokeTimer := some s.cfg.levers[l].strokeTimeout } := by
  rw [evaluateLever_lever conf, judgeLever_strokes (gripJudged_release.trans release)
    ((gripJudged_decoded conf).trans between), beginStroke_lever, gripJudged_lever,
    Lever.gripAt_eq, gripJudged_frame.1]
  rfl

/-- R46, R48: the evaluation of a GRANTED lever found at the other end. -/
theorem evaluateLever_crosses (there : s.decoded l = e.toPosition) (other : e ≠ p) :
    (evaluateLever .continuous l s).llu[l] =
      { s.sampled l with
        release := .notGranted, strokeTimer := none, lastStroke := some (true, s.tb.clock) } := by
  rw [evaluateLever_lever conf, judgeLever_crosses (gripJudged_release.trans release)
    ((gripJudged_decoded conf).trans there) other, arriveAt_lever, beginStroke_lever,
    gripJudged_lever, Lever.gripAt_eq, decide_eq_true other]
  simp only [beginStroke_frame, gripJudged_frame]
  rfl

/-! ### The evaluation of a GRANTED lever at its origin -/

variable (stays : s.decoded l = p.toPosition)
include stays

theorem evaluateLever_retests : (evaluateLever .continuous l s).llu[l] =
    { (retestGrant l p (gripJudged .continuous l s)).llu[l] with
      position := s.decoded l, catchGripped := s.gripped l } := by
  rw [evaluateLever_lever conf, judgeLever_retests (gripJudged_release.trans release)
    ((gripJudged_decoded conf).trans stays)]

/-- R47: the evaluation of a GRANTED lever that lets its catch go. -/
theorem evaluateLever_free (free : s.gripped l = false) :
    (evaluateLever .continuous l s).llu[l] =
      { s.sampled l with release := .notGranted } := by
  rw [evaluateLever_retests conf release stays,
    retestGrant_free (gripJudged_frame.2.2.2.2.trans free), gripJudged_lever, Lever.gripAt_eq,
    State.sampled, free]
  rfl

variable (gripped : s.gripped l = true)
include gripped

/-- R47: the evaluation of a GRANTED lever with a condition that fails. -/
theorem evaluateLever_unmet {place : Nat}
    (failing : leaveFailing l p (gripJudged .continuous l s) = some place) :
    (evaluateLever .continuous l s).llu[l] =
      (s.sampled l).deprived (.condition place) s.tb.clock := by
  rw [evaluateLever_retests conf release stays,
    retestGrant_condition (gripJudged_frame.2.2.2.2.trans gripped) failing, gripJudged_lever,
    Lever.gripAt_eq, gripJudged_frame.2.1]
  rfl

variable (met : leaveFailing l p (gripJudged .continuous l s) = none)
include met

/-- R47: the evaluation of a GRANTED lever that a hold binds. -/
theorem evaluateLever_held {h : HoldId} (bound : bindingHold s.ht l p = some h) :
    (evaluateLever .continuous l s).llu[l] =
      (s.sampled l).deprived (.held h) s.tb.clock := by
  rw [evaluateLever_retests conf release stays,
    retestGrant_held (gripJudged_frame.2.2.2.2.trans gripped) met
      ((congrArg (bindingHold · l p) gripJudged_frame.2.2.1).trans bound), gripJudged_lever,
    Lever.gripAt_eq, gripJudged_frame.2.1]
  rfl

/-- R47: the evaluation of a GRANTED lever whose grant stands. -/
theorem evaluateLever_stands (unbound : bindingHold s.ht l p = none) :
    (evaluateLever .continuous l s).llu[l] = s.sampled l := by
  rw [evaluateLever_retests conf release stays,
    retestGrant_stands (gripJudged_frame.2.2.2.2.trans gripped) met
      ((congrArg (bindingHold · l p) gripJudged_frame.2.2.1).trans unbound), gripJudged_lever,
    Lever.gripAt_eq]
  rfl

end

/-! ### The evaluation of a lever in STROKE -/

section
variable (release : s.llu[l].release = .stroke p)
include release

theorem evaluateLever_travels (between : s.decoded l = .between) :
    (evaluateLever .continuous l s).llu[l] = s.sampled l := by
  rw [evaluateLever_lever conf, judgeLever_travels (gripJudged_release.trans release)
    ((gripJudged_decoded conf).trans between), gripJudged_lever, Lever.gripAt_eq]
  rfl

theorem evaluateLever_ends (there : s.decoded l = e.toPosition) :
    (evaluateLever .continuous l s).llu[l] =
      { s.sampled l with
        release := .notGranted, strokeTimer := none
        lastStroke := some (decide (e ≠ p), s.tb.clock) } := by
  rw [evaluateLever_lever conf, judgeLever_ends (gripJudged_release.trans release)
    ((gripJudged_decoded conf).trans there), arriveAt_lever, gripJudged_lever, Lever.gripAt_eq,
    gripJudged_frame.2.1]
  rfl

end

/-! ### Departures and contact faults -/

/-- R50: the evaluation of a lever that departs without a grant. -/
theorem evaluateLever_departs (service : s.device = .service)
    (release : s.llu[l].release = .notGranted) (position : s.llu[l].position = p.toPosition)
    (gone : s.decoded l ≠ p.toPosition) (agree : s.decoded l ≠ .contradictory) :
    (evaluateLever .continuous l s).au[Source.id .leverFault].pending = true ∧
      (evaluateLever .continuous l s).llu[l] =
        { s.sampled l with
          grip := if s.gripped l then .spent else .free
          lastFault := some (.unreleased, s.tb.clock) } := by
  have judged : judgeLever .continuous l (gripJudged .continuous l s) =
      unreleasedDeparture l p (gripJudged .continuous l s) :=
    judgeLever_departs (gripJudged_frame.2.2.2.1.trans service) (gripJudged_release.trans release)
      (gripJudged_position.trans position) (gripJudged_decoded conf ▸ gone)
      (gripJudged_decoded conf ▸ agree)
  constructor
  · rw [evaluateLever_configured _ conf, judged]
    exact unreleasedDeparture_latches p
  · rw [evaluateLever_lever conf, judged, unreleasedDeparture_lever, gripJudged_lever,
      Lever.gripAt_eq, gripJudged_frame.2.1, gripJudged_frame.2.2.2.2]
    unfold State.sampled
    cases s.gripped l <;> rfl

section
variable (disagree : s.decoded l = .contradictory)
include disagree

/-- R51: the evaluation of a lever whose contacts disagree anew. -/
theorem evaluateLever_faults (new : s.llu[l].position ≠ .contradictory) :
    (evaluateLever .continuous l s).au[Source.id .leverFault].pending = true ∧
      (evaluateLever .continuous l s).llu[l] =
        (s.sampled l).contradicts s.tb.clock := by
  have judged := judgeLever_contradictory ((gripJudged_decoded conf).trans disagree)
  have anew : (gripJudged .continuous l s).recorded l ≠ .contradictory :=
    mt gripJudged_position.symm.trans new
  constructor
  · rw [evaluateLever_configured _ conf, judged]
    exact contactFault_latches anew
  · rw [evaluateLever_lever conf, judged, contactFault_record anew, gripJudged_lever,
      Lever.gripAt_eq, gripJudged_frame.2.1]
    rfl

/-- R51: the evaluation of a lever whose contacts disagree as before. -/
theorem evaluateLever_faulty (old : s.llu[l].position = .contradictory) :
    (evaluateLever .continuous l s).llu[l] = s.sampled l := by
  have same : (gripJudged .continuous l s).recorded l = .contradictory :=
    gripJudged_position.trans old
  rw [evaluateLever_lever conf, judgeLever_contradictory ((gripJudged_decoded conf).trans disagree),
    contactFault, if_pos same, gripJudged_lever, Lever.gripAt_eq]
  rfl

end

end

end Sys2Proof.Machine

/-! What a turn of the lever part shares with the state that a CONTINUOUS arrival ends in. -/

namespace Sys2Proof.Machine

/-! ### What the conditions are judged by -/

/-- R40: the two states show the conditions of an evaluation alike. -/
structure SameView (s t : State) : Prop where
  cfg : t.cfg = s.cfg
  input : t.sbc.input = s.sbc.input
  circuits : t.tcm.map Track.unmarked = s.tcm.map Track.unmarked
  unseen : ∀ k : LeverId, t.llu[k].unseen = s.llu[k].unseen

namespace SameView
variable {s t u : State}

theorem refl (s : State) : SameView s s := ⟨rfl, rfl, rfl, fun _ => rfl⟩

theorem trans (a : SameView s t) (b : SameView t u) : SameView s u where
  cfg := b.cfg.trans a.cfg
  input := b.input.trans a.input
  circuits := b.circuits.trans a.circuits
  unseen k := (b.unseen k).trans (a.unseen k)

theorem symm (a : SameView s t) : SameView t s where
  cfg := a.cfg.symm
  input := a.input.symm
  circuits := a.circuits.symm
  unseen k := (a.unseen k).symm

/-- Work on a lever that leaves its unseen flag. -/
theorem of_ownWork {l : LeverId} (work : OwnWork l s t) (own : t.llu[l].unseen = s.llu[l].unseen) :
    SameView s t where
  cfg := work.cfg
  input := congrArg ScanBus.input work.sbc
  circuits := work.circuits
  unseen k := by
    by_cases other : k = l
    · rw [other, own]
    · rw [work.levers k other]

/-- R40: of the positions, those of configured levers count, and they are read from the image. -/
theorem stands (view : SameView s t) (k : LeverId) (p : EndPos) :
    t.stands t.decoded k p = s.stands s.decoded k p := by
  unfold State.stands
  rw [view.cfg, view.unseen k]
  cases conf : s.cfg.levers[k].configured with
  | false => rfl
  | true => simp only [State.decoded, view.cfg, view.input, conf, if_true]

/-- R40: the conditions are judged alike. -/
theorem condition (view : SameView s t) (c : Condition) :
    t.condition t.decoded c = s.condition s.decoded c := by
  cases c with
  | leverAt k p => exact view.stands k p
  | trackClear c =>
    have same : t.tcm[c].unmarked = s.tcm[c].unmarked := by
      rw [← map_get _ Track.unmarked, view.circuits, map_get]
    rw [State.condition, State.condition, Track.isClear, Track.isClear, (Track.unmarked_eq same).1]

theorem leaveFailing (view : SameView s t) (l : LeverId) (p : EndPos) :
    leaveFailing l p t = leaveFailing l p s := by
  have same : t.condition t.decoded = s.condition s.decoded := funext view.condition
  rw [Machine.leaveFailing, Machine.leaveFailing, same, view.cfg]

end SameView

section
variable {s : State} {l : LeverId}

theorem gripJudged_sameView : SameView s (gripJudged .continuous l s) := by
  obtain ⟨work, unseen, -⟩ := gripJudged_work (l := l) (s := s) .continuous
  exact .of_ownWork work unseen

theorem evaluateLever_sameView : SameView s (evaluateLever .continuous l s) :=
  .of_ownWork (evaluateLever_ownWork l s .continuous) evaluateLever_unseen

theorem closingCheck_sameView : SameView s (closingCheck l s) :=
  .of_ownWork (closingCheck_ownWork l s) closingCheck_checked.unseen

theorem evaluated_continuous (s : State) :
    evaluated .continuous s = forEach 40 (evaluateLever .continuous) s := by
  rw [evaluated, seenAgain_other s (by simp)]

theorem evaluated_passWork (m : Continuity) (s : State) : PassWork s (evaluated m s) :=
  (seenAgain_passWork m s).trans (forEach_passWork (fun l t => evaluateLever_ownWork l t m) _)

theorem takeLeverPart_sameView : SameView s (takeLeverPart .continuous s) := by
  have evaluations : SameView s (evaluated .continuous s) := by
    rw [evaluated_continuous]
    exact forEach_keeps (P := SameView s) (fun _ _ kept => kept.trans evaluateLever_sameView) s
      (.refl s)
  have checks : SameView s (checked .continuous s) :=
    forEach_keeps (P := SameView s) (fun _ _ kept => kept.trans closingCheck_sameView) _ evaluations
  exact {
    cfg := by simp only [takeLeverPart_frame]
    input := by rw [takeLeverPart_sbc]
    circuits := takeLeverPart_circuits .continuous s
    unseen := fun k => by rw [takeLeverPart_llu]; exact checks.unseen k }

/-! ### The turn of one lever -/

/-- R41: the turn of lever `l` in the evaluations, in a state that shows lever `l` and the conditions
as the arrival found them. -/
theorem evaluated_turn (l : LeverId) (s : State) : ∃ u, Spared l s u ∧ SameView s u ∧
    Spared l (evaluateLever .continuous l u) (evaluated .continuous s) := by
  rw [evaluated_continuous]
  obtain ⟨u, ⟨before, view⟩, after, -⟩ := forEach_turn (f := evaluateLever .continuous)
    (R := fun a b => Spared l a b ∧ SameView a b) (fun a => ⟨.refl l a, .refl a⟩)
    (fun a b => ⟨a.1.trans b.1, a.2.trans b.2⟩) l
    (fun k a other => ⟨(evaluateLever_ownWork k a .continuous).spared (Ne.symm other),
      evaluateLever_sameView⟩) s
  exact ⟨u, before, view, after⟩

/-- R52: the closing check leaves a lever that its evaluation has not left GRANTED. -/
theorem takeLeverPart_settled {m : Continuity}
    (settled : ∀ p, (evaluated m s).llu[l].release ≠ .granted p) :
    (takeLeverPart m s).llu[l] = (evaluated m s).llu[l] := by
  obtain ⟨w, before, after⟩ := forEach_lever_turn closingCheck_ownWork (evaluated m s) l
  rw [takeLeverPart_llu]
  rcases closingCheck_cases (l := l) (s := w) with ⟨same, -⟩ | ⟨p, h, granted, -⟩
  · rw [same] at after
    exact after.lever.trans before.lever
  · exact absurd (before.lever ▸ granted) (settled p)

/-- R47, R52: a lever that its evaluation leaves GRANTED keeps its grant unbound or loses it to a
hold in the closing check. -/
theorem takeLeverPart_granted {m : Continuity} {p : EndPos}
    (granted : (evaluated m s).llu[l].release = .granted p) :
    ((takeLeverPart m s).llu[l] = (evaluated m s).llu[l] ∧
      ∀ (h : HoldId) (hold : Hold), (takeLeverPart m s).ht[h] = some hold →
        ¬(hold.lever = l ∧ hold.position = p)) ∨
    ∃ h, (takeLeverPart m s).llu[l] = (evaluated m s).llu[l].deprived (.held h) s.tb.clock := by
  obtain ⟨w, before, after⟩ := forEach_lever_turn closingCheck_ownWork (evaluated m s) l
  have outcome : (takeLeverPart m s).llu[l] = (closingCheck l w).llu[l] := by
    rw [takeLeverPart_llu]; exact after.lever
  rcases closingCheck_cases (l := l) (s := w) with ⟨same, -⟩ | ⟨q, h, -, withdraws⟩
  · rw [same, before.lever] at outcome
    exact .inl ⟨outcome, fun h hold live => takeLeverPart_unbound
      ((congrArg Lever.release outcome).trans granted) live⟩
  · have time : w.tb = s.tb := before.tb.trans (evaluated_passWork m s).tb
    rw [withdraws, withdrawFor_record rfl, before.lever, time] at outcome
    exact .inr ⟨h, outcome⟩

/-- The closing check and the release passes leave a route that is neither GRANTED nor RELEASING. -/
theorem takeLeverPart_route_kept {m : Continuity}
    (granted : (evaluated m s).ru[l].state ≠ .granted)
    (releasing : (evaluated m s).ru[l].state ≠ .releasing) :
    (takeLeverPart m s).ru[l] = (evaluated m s).ru[l] := by
  have checks : (checked m s).ru[l] = (evaluated m s).ru[l] := closingPass_route granted
  have written : (writeMagnets (checked m s)).ru[l] = (evaluated m s).ru[l] := by
    simp only [writeMagnets_frame]
    exact checks
  rw [takeLeverPart_eq, notice]
  split
  · refine (releasePasses_route ?_).trans written
    rw [written]
    exact releasing
  · exact written

/-- No source that the evaluations leave pending is cleared after them. -/
theorem takeLeverPart_keeps_pending {m : Continuity} {i : SourceId}
    (pending : (evaluated m s).au[i].pending = true) :
    (takeLeverPart m s).au[i].pending = true := by
  have checks := (forEach_passWork closingCheck_ownWork (evaluated m s)).pending i pending
  refine (noticeReleasePasses_passWork _).pending i ?_
  simp only [writeMagnets_frame]
  exact checks

/-! ### The track part and a route -/

/-- R89: an occupation event changes APPROACH_LOCKED routes only. -/
theorem routeOccupation_unlocked (c : TrackId) (other : s.ru[l].state ≠ .approachLocked) :
    (routeOccupation c s).ru[l] = s.ru[l] := by
  obtain ⟨u, before, after⟩ := forEach_lever_turn (routeOccupation_turn c) s l
  have idle : ¬(u.ru[l].state = .approachLocked ∧ u.cfg.routes[l].circuits.head? = some c) :=
    fun locked => other (before.route ▸ locked.1)
  have own := after.route
  rw [if_neg idle] at own
  exact own.trans before.route

theorem takeTrackPart_route (other : s.ru[l].state ≠ .approachLocked) :
    (takeTrackPart s).ru[l] = s.ru[l] := by
  have start : (tracked s).ru[l] = s.ru[l] := by simp [-Fin.getElem_fin, tracked]
  rw [takeTrackPart_eq, occupationEvents]
  split
  · refine forEach_keeps (P := fun u : State => u.ru[l] = s.ru[l]) (fun c u kept => ?_) _ start
    split
    · simp only [trainOccupation_frame]
      rw [routeOccupation_unlocked c (kept ▸ other), kept]
    · exact kept
  · exact start

end

end Sys2Proof.Machine

/-! The turn of one lever at the CONTINUOUS arrival of a good frame. -/

namespace Sys2Proof.Machine

/-- The state that the lever part of the frame's arrival starts in. -/
def leverStart (f : Frame) (sdi : BitVec 192) (s : State) : State := takeTrackPart (arrived f sdi s)

/-- The state that a CONTINUOUS arrival of the frame ends in. -/
def leverEnd (f : Frame) (sdi : BitVec 192) (s : State) : State :=
  takeLeverPart .continuous (leverStart f sdi s)

/-- R41: lever `l` is evaluated in `u` when the frame arrives in `s`. -/
structure LeverTurn (f : Frame) (sdi : BitVec 192) (s : State) (l : LeverId) (u : State) : Prop where
  lever : u.llu[l] = s.llu[l]
  cfg : u.cfg = s.cfg
  device : u.device = s.device
  tb : u.tb = s.tb
  decoded : u.decoded l = decodeContacts (f.inputBit sdi (.leverN l)) (f.inputBit sdi (.leverR l))
  gripped : u.gripped l = f.inputBit sdi (.catch_ l)
  route : s.ru[l].state ≠ .approachLocked → u.ru[l] = s.ru[l]
  view : SameView u (leverEnd f sdi s)
  after : Spared l (evaluateLever .continuous l u) (evaluated .continuous (leverStart f sdi s))

section
variable {f : Frame} {sdi : BitVec 192} {s : State} {l : LeverId}

theorem leverTurn_exists (conf : s.cfg.levers[l].configured = true) :
    ∃ u, LeverTurn f sdi s l u := by
  obtain ⟨u, before, view, after⟩ := evaluated_turn l (leverStart f sdi s)
  obtain ⟨cfg, llu, device, tb⟩ := takeTrackPart_arrived f sdi s
  exact ⟨u, {
    lever := before.lever.trans (congrArg (·[l]) llu)
    cfg := before.cfg.trans cfg
    device := before.device.trans device
    tb := before.tb.trans tb
    decoded := before.decoded.trans (arrival_decoded f sdi s conf)
    gripped := before.gripped.trans (arrival_gripped f sdi s l)
    route := fun other => before.route.trans (takeTrackPart_route other)
    view := view.symm.trans takeLeverPart_sameView
    after }⟩

namespace LeverTurn
variable {u : State} (turn : LeverTurn f sdi s l u)
include turn

/-- The closing check leaves a lever that its evaluation has not left GRANTED. -/
theorem settled {r : Lever} (record : (evaluateLever .continuous l u).llu[l] = r)
    (settled : ∀ p, r.release ≠ .granted p) : (leverEnd f sdi s).llu[l] = r := by
  have left := turn.after.lever.trans record
  exact (takeLeverPart_settled fun p => left ▸ settled p).trans left

/-- R168: a LEVER_FAULT that the evaluation latches is pending after the arrival. -/
theorem pending {i : SourceId} (pending : (evaluateLever .continuous l u).au[i].pending = true) :
    (leverEnd f sdi s).au[i].pending = true :=
  takeLeverPart_keeps_pending (turn.after.pending i pending)

/-- R85: a left-NORMAL notice marked granted sets the route. -/
theorem setsRoute {v : State} (clock : v.tb = u.tb) (kept : v.ru = u.ru)
    (granted : s.ru[l].state = .granted)
    (notice : { evaluateLever .continuous l u with llu := u.llu } = leftNormalGranted l v) :
    (leverEnd f sdi s).ru[l] = { s.ru[l] with state := .set, changed := s.tb.clock } := by
  have route : v.ru[l] = s.ru[l] := by
    simp only [kept]
    exact turn.route (by simp [-Fin.getElem_fin, granted])
  have evaluation : (evaluateLever .continuous l u).ru[l] =
      { s.ru[l] with state := .set, changed := s.tb.clock } := by
    have noticed : (evaluateLever .continuous l u).ru = (leftNormalGranted l v).ru := by
      have routes := congrArg State.ru notice
      exact routes
    simp only [noticed]
    rw [leftNormalGranted_route, route, if_pos ⟨rfl, granted⟩, clock, turn.tb]
  have left := turn.after.route.trans evaluation
  refine (takeLeverPart_route_kept ?_ ?_).trans left <;> rw [left] <;> simp

/-- R46, R85: a lever that leaves NORMAL under its grant, or faults under it, sets its route. -/
theorem toSet (conf : s.cfg.levers[l].configured = true) (service : s.device = .service)
    (kind : s.cfg.levers[l].kind = .signal) (granted : s.ru[l].state = .granted)
    (release : s.llu[l].release = .granted .normal) (left : u.decoded l ≠ .normal)
    (new : u.decoded l = .contradictory → s.llu[l].position ≠ .contradictory) :
    (leverEnd f sdi s).ru[l] = { s.ru[l] with state := .set, changed := s.tb.clock } := by
  have conf' : u.cfg.levers[l].configured = true := turn.cfg ▸ conf
  have service' : u.device = .service := turn.device ▸ service
  have kind' : u.cfg.levers[l].kind = .signal := turn.cfg ▸ kind
  have release' : u.llu[l].release = .granted .normal := turn.lever ▸ release
  cases found : u.decoded l with
  | normal => exact absurd found left
  | between =>
    exact turn.setsRoute rfl rfl granted
      (evaluateLever_leaves conf' service' kind' release' (.inl found))
  | reverse =>
    exact turn.setsRoute rfl rfl granted
      (evaluateLever_leaves conf' service' kind' release' (.inr found))
  | contradictory =>
    have anew : u.recorded l ≠ .contradictory := by
      rw [State.recorded, turn.lever]; exact new found
    exact turn.setsRoute (by simp) (by simp) granted
      (evaluateLever_disagrees conf' service' kind' release' anew found)

/-- The conditions that the retest reads are those of the state that the arrival ends in. -/
theorem leaveFailing (p : EndPos) : leaveFailing l p (gripJudged .continuous l u) =
    Machine.leaveFailing l p (leverEnd f sdi s) := by
  have view := (gripJudged_sameView (s := u) (l := l)).symm.trans turn.view
  exact (view.leaveFailing l p).symm

/-! ### The records that the arrival ends in -/

theorem release : u.llu[l].release = s.llu[l].release := congrArg Lever.release turn.lever

variable (conf : s.cfg.levers[l].configured = true) {p e : EndPos}
include conf

theorem configured : u.cfg.levers[l].configured = true := turn.cfg ▸ conf

section
variable (granted : s.llu[l].release = .granted p)
include granted

theorem strokes (between : u.decoded l = .between) : (leverEnd f sdi s).llu[l] =
    { u.sampled l with
      release := .stroke p, strokeTimer := some s.cfg.levers[l].strokeTimeout } := by
  rw [← turn.cfg]
  exact turn.settled
    (evaluateLever_strokes (turn.configured conf) (turn.release.trans granted) between) (by simp)

theorem crosses (there : u.decoded l = e.toPosition) (other : e ≠ p) :
    (leverEnd f sdi s).llu[l] =
      { u.sampled l with
        release := .notGranted, strokeTimer := none, lastStroke := some (true, s.tb.clock) } := by
  rw [← turn.tb]
  exact turn.settled
    (evaluateLever_crosses (turn.configured conf) (turn.release.trans granted) there other) (by simp)

variable (stays : u.decoded l = p.toPosition)
include stays

theorem letsGo (free : u.gripped l = false) :
    (leverEnd f sdi s).llu[l] = { u.sampled l with release := .notGranted } :=
  turn.settled
    (evaluateLever_free (turn.configured conf) (turn.release.trans granted) stays free) (by simp)

variable (gripped : u.gripped l = true)
include gripped

theorem unmet {place : Nat} (failing : Machine.leaveFailing l p (leverEnd f sdi s) = some place) :
    (leverEnd f sdi s).llu[l] = (u.sampled l).deprived (.condition place) s.tb.clock := by
  rw [← turn.tb]
  exact turn.settled (evaluateLever_unmet (turn.configured conf) (turn.release.trans granted) stays
    gripped ((turn.leaveFailing p).trans failing)) (by simp [Lever.deprived])

/-- R47, R52: a grant whose conditions are met stands unbound, or a hold withdraws it. -/
theorem held_or_stands (met : Machine.leaveFailing l p (leverEnd f sdi s) = none) :
    ((leverEnd f sdi s).llu[l] = u.sampled l ∧
      ∀ (h : HoldId) (hold : Hold), (leverEnd f sdi s).ht[h] = some hold →
        ¬(hold.lever = l ∧ hold.position = p)) ∨
    ∃ h, (leverEnd f sdi s).llu[l] = (u.sampled l).deprived (.held h) s.tb.clock := by
  have conf' := turn.configured conf
  have granted' := turn.release.trans granted
  have met' := (turn.leaveFailing p).trans met
  cases bound : bindingHold u.ht l p with
  | some h =>
    refine .inr ⟨h, ?_⟩
    rw [← turn.tb]
    exact turn.settled (evaluateLever_held conf' granted' stays gripped met' bound)
      (by simp [Lever.deprived])
  | none =>
    have left : (evaluated .continuous (leverStart f sdi s)).llu[l] = u.sampled l :=
      turn.after.lever.trans (evaluateLever_stands conf' granted' stays gripped met' bound)
    have time : (leverStart f sdi s).tb = s.tb := by
      obtain ⟨-, -, -, tb⟩ := takeTrackPart_arrived f sdi s
      exact tb
    have closing := takeLeverPart_granted ((congrArg Lever.release left).trans granted')
    rw [left, time] at closing
    exact closing

end

section
variable (stroke : s.llu[l].release = .stroke p)
include stroke

theorem travels (between : u.decoded l = .between) : (leverEnd f sdi s).llu[l] = u.sampled l := by
  have release : (u.sampled l).release = .stroke p := turn.release.trans stroke
  exact turn.settled
    (evaluateLever_travels (turn.configured conf) (turn.release.trans stroke) between)
    (by simp [release])

theorem ends (there : u.decoded l = e.toPosition) : (leverEnd f sdi s).llu[l] =
    { u.sampled l with
      release := .notGranted, strokeTimer := none
      lastStroke := some (decide (e ≠ p), s.tb.clock) } := by
  rw [← turn.tb]
  exact turn.settled
    (evaluateLever_ends (turn.configured conf) (turn.release.trans stroke) there) (by simp)

end

theorem departs (service : s.device = .service) (still : s.llu[l].release = .notGranted)
    (position : s.llu[l].position = p.toPosition) (gone : u.decoded l ≠ p.toPosition)
    (agree : u.decoded l ≠ .contradictory) :
    (leverEnd f sdi s).au[Source.id .leverFault].pending = true ∧
      (leverEnd f sdi s).llu[l] = { u.sampled l with
        grip := if u.gripped l then .spent else .free
        lastFault := some (.unreleased, s.tb.clock) } := by
  obtain ⟨latches, record⟩ := evaluateLever_departs (turn.configured conf)
    (turn.device.trans service) (turn.release.trans still)
    ((congrArg Lever.position turn.lever).trans position) gone agree
  have release : (u.sampled l).release = .notGranted := turn.release.trans still
  rw [turn.tb] at record
  exact ⟨turn.pending latches, turn.settled record (by simp [release])⟩

section
variable (disagree : u.decoded l = .contradictory)
include disagree

theorem faults (new : s.llu[l].position ≠ .contradictory) :
    (leverEnd f sdi s).au[Source.id .leverFault].pending = true ∧
      (leverEnd f sdi s).llu[l] = (u.sampled l).contradicts s.tb.clock := by
  obtain ⟨latches, record⟩ := evaluateLever_faults (turn.configured conf) disagree
    (by rw [turn.lever]; exact new)
  rw [turn.tb] at record
  exact ⟨turn.pending latches, turn.settled record (by simp [Lever.contradicts])⟩

theorem faulty (old : s.llu[l].position = .contradictory)
    (still : s.llu[l].release = .notGranted) : (leverEnd f sdi s).llu[l] = u.sampled l := by
  have release : (u.sampled l).release = .notGranted := turn.release.trans still
  exact turn.settled (evaluateLever_faulty (turn.configured conf) disagree
    ((congrArg Lever.position turn.lever).trans old)) (by simp [release])

end

end LeverTurn

end

end Sys2Proof.Machine

/-! O19: strokes, departures, contact faults and retested grants of a CONTINUOUS arrival. -/

namespace Sys2Proof.Machine

section
variable {s : State} {l : LeverId} {p : EndPos}

theorem exec_strokeTimeout (due : s.llu[l].strokeTimer = some 0)
    (stroke : s.llu[l].release = .stroke p) : exec (.strokeTimeout l) s =
      .next (leverFault l .strokeTimeout (s.updLever l fun r => { r with strokeTimer := none })) :=
  if_pos (by simp [-Fin.getElem_fin, due, stroke, Release.inStroke])

/-- R47: the evaluation of a GRANTED lever that is gripped at its origin with its conditions met. -/
theorem evaluateLever_rechecks (granted : s.llu[l].release = .granted p)
    (conf : s.cfg.levers[l].configured = true) (stays : s.decoded l = p.toPosition)
    (gripped : s.gripped l = true)
    (met : ∀ k ∈ s.cfg.levers[l].leave p, s.condition s.decoded k = true) :
    (bindingHold s.ht l p = none → (evaluateLever .continuous l s).llu[l] = s.sampled l) ∧
    ∀ h, bindingHold s.ht l p = some h →
      (evaluateLever .continuous l s).llu[l] = (s.sampled l).deprived (.held h) s.tb.clock := by
  have met' : leaveFailing l p (gripJudged .continuous l s) = none :=
    (gripJudged_sameView.leaveFailing l p).trans (leaveFailing_eq_none.mpr met)
  exact ⟨evaluateLever_stands conf granted stays gripped met',
    fun h => evaluateLever_held conf granted stays gripped met'⟩

/-- R52: the closing check of a GRANTED lever. -/
theorem closingCheck_unheld (granted : s.llu[l].release = .granted p)
    (unbound : bindingHold s.ht l p = none) : closingCheck l s = s := by
  simp only [closingCheck, granted, unbound]

theorem closingCheck_held {h : HoldId} (granted : s.llu[l].release = .granted p)
    (bound : bindingHold s.ht l p = some h) :
    (closingCheck l s).llu[l] = s.llu[l].deprived (.held h) s.tb.clock := by
  simp only [closingCheck, granted, bound]
  exact withdrawFor_record rfl

end

/-- Settles O19: each clause of an arrival is what the lever's turn makes of its record, which the
closing check then leaves but for a grant that a hold binds. -/
theorem strokeTimeoutLatchesLeverFault : Obligations.StrokeTimeoutLatchesLeverFault := by
  unfold Obligations.StrokeTimeoutLatchesLeverFault
  refine ⟨fun s l p due stroke => ⟨_, exec_strokeTimeout due stroke, ?record, ?others, ?latch⟩,
    fun s f sdi l frame judged good running conf => ⟨leverEnd f sdi s, ?delivered, ?arrival⟩,
    fun s l p granted => ?held⟩
  case record => rw [leverFault_lever, State.updLever_own]; rfl
  case others => exact ((OwnWork.refl l s).updLever _ |>.leverFault _).levers
  case latch =>
    have latched := latch_latched_of (src := .leverFault) (d := .lever l) (s := s)
      (s1 := (s.updLever l fun r => { r with strokeTimer := none }).updLever l fun r =>
        { r with lastFault := some (.strokeTimeout, s.tb.clock) }) rfl
    exact ⟨latched.pending, latched.detail, latched.multiple, latched.others, rfl⟩
  case delivered =>
    rw [frameJudge_delivers frame judged good (.inl running), running]
    rfl
  case arrival =>
    intro old found gripped seen toSet faulted
    obtain ⟨u, turn⟩ := leverTurn_exists (f := f) (sdi := sdi) conf
    have position : u.decoded l = found := turn.decoded
    have catches : u.gripped l = gripped := turn.gripped
    have sampled : u.sampled l = seen := by
      rw [State.sampled, turn.lever, position, catches]
    have cfg : (leverEnd f sdi s).cfg = s.cfg := turn.view.cfg.trans turn.cfg
    have sets (granted : old.release = .granted .normal) (left : found ≠ .normal)
        (new : found = .contradictory → old.position ≠ .contradictory) : toSet :=
      fun service kind route =>
        turn.toSet conf service kind route granted (position ▸ left) (position ▸ new)
    rw [← sampled, ← position, ← catches]
    refine ⟨fun p granted between => ⟨?_, turn.strokes conf granted between⟩,
      fun p e granted there other => ⟨?_, turn.crosses conf granted there other⟩,
      fun p => turn.travels conf, fun p e => turn.ends conf,
      fun p => turn.departs conf, fun disagree new => ?_, turn.faulty conf,
      fun p granted stays => ⟨turn.letsGo conf granted stays, ?_, ?_⟩⟩
    · rintro rfl
      exact sets granted (by simp [← position, between]) (by simp [← position, between])
    · rintro rfl
      have reverse : found ≠ .normal := fun normal =>
        other (toPosition_inj.mp (there.symm.trans (position.trans normal)))
      have agree : found ≠ .contradictory := fun disagree =>
        toPosition_agrees e (there.symm.trans (position.trans disagree))
      exact sets granted reverse (absurd · agree)
    · obtain ⟨latches, record⟩ := turn.faults conf disagree new
      refine ⟨latches, fun granted => ?_, record.trans ?_⟩
      · exact sets granted (by simp [← position, disagree]) fun _ => new
      · rw [sampled]
        rfl
    · intro before c after grips conditions met unmet
      exact turn.unmet conf granted stays grips
        (leaveFailing_eq_some (by rw [cfg]; exact conditions) met unmet)
    · intro grips met
      exact turn.held_or_stands conf granted stays grips
        (leaveFailing_eq_none.mpr (by rw [cfg]; exact met))
  case held =>
    intro binds none_ lowest_ seen withdrawn
    refine ⟨fun conf stays gripped met => ?_,
      fun free => closingCheck_unheld granted (bindingHold_eq_none.mpr free),
      fun h bound => closingCheck_held granted (bindingHold_eq_some.mpr bound)⟩
    have sampled : s.sampled l = seen := by
      rw [State.sampled, stays, State.gripped, gripped]
      rfl
    obtain ⟨stands, held⟩ := evaluateLever_rechecks granted conf stays gripped met
    rw [← sampled]
    exact ⟨fun free => stands (bindingHold_eq_none.mpr free),
      fun h bound => held h (bindingHold_eq_some.mpr bound)⟩

end Sys2Proof.Machine

/-! The Hold Table's own requests: bars placed and removed, and holds read and listed. -/

namespace Sys2Proof.Machine

/-! ### The entry that a bar takes -/

/-- R73: the entries that a bar may stand in. -/
def BarArea (h : HoldId) : Prop := h.val < 64 ∨ 67 ≤ h.val

section
variable {ht : Vector (Option Hold) 72} {h : HoldId}

/-- The first free shared entry is the lowest one. -/
theorem head_freeShared : (freeShared ht).head? = lowest fun h => inShared h && ht[h].isNone :=
  List.head?_filter

/-- The first free entry of the bar reserve is the lowest one. -/
theorem head_freeReserve : (freeReserve ht).head? = lowest fun h => inReserve h && ht[h].isNone :=
  List.head?_filter

/-- R73: without a free entry that it may take, a bar takes none. -/
theorem barEntry_eq_none : barEntry ht = none ↔ ∀ h : HoldId, BarArea h → ht[h] ≠ none := by
  have none_iff : barEntry ht = none ↔ freeShared ht = [] ∧ freeReserve ht = [] := by
    unfold barEntry
    cases freeShared ht <;> simp
  simp only [none_iff, List.eq_nil_iff_forall_not_mem, mem_freeShared, mem_freeReserve]
  constructor
  · rintro ⟨shared, reserve⟩ h (low | high) free
    · exact shared h ⟨low, free⟩
    · exact reserve h ⟨high, free⟩
  · intro full
    exact ⟨fun h free => full h (.inl free.1) free.2, fun h free => full h (.inr free.1) free.2⟩

/-- R73: a bar takes the lowest free entry of those it may take. -/
theorem barEntry_lowest (entry : barEntry ht = some h) : ht[h] = none ∧ BarArea h ∧
    ∀ j : HoldId, j.val < h.val → BarArea j → ht[j] ≠ none := by
  unfold barEntry at entry
  rw [head_freeShared, head_freeReserve] at entry
  split at entry
  · next k shared =>
    cases entry
    obtain ⟨free, lower⟩ := lowest_eq_some.mp shared
    simp only [inShared, Bool.and_eq_true, decide_eq_true_eq, Option.isNone_iff_eq_none,
      Bool.and_eq_false_iff, decide_eq_false_iff_not] at free lower
    refine ⟨free.2, .inl free.1, fun j below _ empty => ?_⟩
    rcases lower j below with high | live
    · have := free.1; omega
    · simp [-Fin.getElem_fin, empty] at live
  · next shared =>
    obtain ⟨free, lower⟩ := lowest_eq_some.mp entry
    have full := lowest_eq_none.mp shared
    simp only [inShared, inReserve, Bool.and_eq_true, decide_eq_true_eq, Option.isNone_iff_eq_none,
      Bool.and_eq_false_iff, decide_eq_false_iff_not] at free lower full
    refine ⟨free.2, .inr free.1, fun j below area empty => ?_⟩
    rcases area with low | high
    · rcases full j with high | live
      · exact high low
      · simp [-Fin.getElem_fin, empty] at live
    · rcases lower j below with low | live
      · exact low high
      · simp [-Fin.getElem_fin, empty] at live

theorem barEntry_eq_some (free : ht[h] = none) (area : BarArea h)
    (lower : ∀ j : HoldId, j.val < h.val → BarArea j → ht[j] ≠ none) : barEntry ht = some h := by
  cases entry : barEntry ht with
  | none => exact absurd free (barEntry_eq_none.mp entry h area)
  | some k =>
    obtain ⟨empty, within, first⟩ := barEntry_lowest entry
    have notBelow : ¬h.val < k.val := fun below => first h below area free
    have notAbove : ¬k.val < h.val := fun below => lower k below within empty
    exact congrArg some (Fin.ext (by omega))

end
/-! ### PLACE_BAR and REMOVE_BAR -/

theorem endPosOf_endPosNo (p : EndPos) : endPosOf (endPosNo p) = some p := by cases p <;> rfl

theorem endPosOf_eq_none {n : Nat} (above : 1 < n) : endPosOf n = none :=
  (reader_none endPosOf_inverse).mpr fun p => by cases p <;> simp only [rawEnd] <;> omega

theorem holdOf_val (h : HoldId) : holdOf h.val = some h := dif_pos h.isLt

theorem holdOf_eq_none {n : Nat} (above : 72 ≤ n) : holdOf n = none := dif_neg (by omega)

section
variable {s : State} (service : s.device = .service)
include service

/-- R73: a bar on a lever that is not configured. -/
theorem takePlaceBar_unconfigured {l : LeverId} (none_ : s.cfg.levers[l].configured = false)
    (p : EndPos) (reason : Byte) :
    takePlaceBar (l.val + 1) (endPosNo p) reason s = (s, .noRecord) := by
  rw [takePlaceBar, if_neg (by simp [service]), leverOf_inverse.eq l, endPosOf_endPosNo]
  exact if_pos (by simp [-Fin.getElem_fin, none_])

section
variable {l : LeverId} (conf : s.cfg.levers[l].configured = true) (p : EndPos) (reason : Byte)
include conf

/-- R73: a bar for which no entry is free. -/
theorem takePlaceBar_full (full : barEntry s.ht = none) :
    takePlaceBar (l.val + 1) (endPosNo p) reason s = (latch .pool .host s, .pool) := by
  rw [takePlaceBar, if_neg (by simp [service]), leverOf_inverse.eq l, endPosOf_endPosNo]
  dsimp only
  rw [if_neg (by simp [-Fin.getElem_fin, conf]), full]

/-- R73: a bar placed. -/
theorem takePlaceBar_placed {h : HoldId} (entry : barEntry s.ht = some h) :
    takePlaceBar (l.val + 1) (endPosNo p) reason s =
      (s.updHold h (some ⟨.bar reason, l, p, s.tb.clock⟩), .done (bytesOne h.val)) := by
  rw [takePlaceBar, if_neg (by simp [service]), leverOf_inverse.eq l, endPosOf_endPosNo]
  dsimp only
  rw [if_neg (by simp [-Fin.getElem_fin, conf]), entry]

end

/-- R74: REMOVE_BAR in SERVICE of an entry without a bar. -/
theorem takeRemoveBar_other {h : HoldId}
    (other : ∀ reason l p c, s.ht[h] ≠ some ⟨.bar reason, l, p, c⟩) :
    takeRemoveBar h.val s = (s, .noRecord) := by
  rw [takeRemoveBar, if_neg (by simp [service]), holdOf_val]
  dsimp only
  split
  · next live => exact absurd live (other _ _ _ _)
  · rfl

/-- R74: REMOVE_BAR in SERVICE of a bar. -/
theorem takeRemoveBar_bar {h : HoldId} {reason : Byte} {l : LeverId} {p : EndPos} {c : Clock}
    (live : s.ht[h] = some ⟨.bar reason, l, p, c⟩) : takeRemoveBar h.val s =
      (s.updHold h none, .done (bytesOne (levNo l) ++ bytesOne (endPosNo p) ++ [reason])) := by
  rw [takeRemoveBar, if_neg (by simp [service]), holdOf_val]
  dsimp only
  rw [live]

end

/-- Settles O23: the branches of R73 and R74, with the lowest free entry that a bar may take. -/
theorem barsArePlacedAndRemoved : Obligations.BarsArePlacedAndRemoved := by
  refine ⟨fun s reason free => ⟨fun n m config => ?config, fun n m service out => ?lever,
      fun l m service out => ?position, fun l p service none_ =>
        serve_eq free (takePlaceBar_unconfigured service none_ p reason),
      fun l p service conf => ⟨fun full => ?full, fun h empty area lower => ?placed⟩⟩,
    fun s free => ⟨fun n config => ?removeConfig, fun n service out => ?number,
      fun h service other => serve_eq free (takeRemoveBar_other service other),
      fun h reason l p c service live => ?removed⟩⟩
  case config =>
    have refused : takePlaceBar n m reason s = (s, .state) := if_pos config
    exact serve_eq free refused
  case lever =>
    have refused : takePlaceBar n m reason s = (s, .badArgument 1) := by
      rw [takePlaceBar, if_neg (by simp [service]), leverOf_eq_none.mpr out]
    exact serve_eq free refused
  case position =>
    have refused : takePlaceBar (l.val + 1) m reason s = (s, .badArgument 2) := by
      rw [takePlaceBar, if_neg (by simp [service]), leverOf_inverse.eq l, endPosOf_eq_none out]
    exact serve_eq free refused
  case full =>
    have refused := takePlaceBar_full service conf p reason (barEntry_eq_none.mpr full)
    have cause := latch_latched .pool .host s
    exact ⟨_, serve_eq free refused, cause.pending, cause.detail, cause.others, rfl⟩
  case placed =>
    have taken := takePlaceBar_placed service conf p reason (barEntry_eq_some empty area lower)
    exact ⟨_, serve_eq free taken, tableUpdate_get_self _ _ _,
      fun _ other => tableUpdate_get_ne _ _ other, rfl⟩
  case removeConfig =>
    have refused : takeRemoveBar n s = (s, .state) := if_pos config
    exact serve_eq free refused
  case number =>
    have refused : takeRemoveBar n s = (s, .badArgument 1) := by
      rw [takeRemoveBar, if_neg (by simp [service]), holdOf_eq_none out]
    exact serve_eq free refused
  case removed =>
    exact ⟨_, serve_eq free (takeRemoveBar_bar service live), tableUpdate_get_self _ _ _,
      fun _ other => tableUpdate_get_ne _ _ other, rfl⟩

/-! ### READ_HOLD -/

/-- R191: the area byte. -/
theorem areaNo_byte (h : HoldId) :
    bytesOne (areaNo h) = [if h.val < 64 then 0 else if h.val < 67 then 1 else 2] := by
  unfold areaNo inShared inReserve
  by_cases shared : h.val < 64
  · simp [shared, bytesOne]
  · by_cases block : h.val < 67
    · simp [shared, block, Nat.not_le.mpr block, bytesOne]
    · simp [shared, block, Nat.not_lt.mp block, bytesOne]

/-- R191: the kind byte, the owner byte, the protecting circuit and the reason of a hold. -/
theorem holdKind_bytes (kind : HoldKind) :
    bytesOne (holdKindNo kind) =
      [match kind with | .route _ _ => 0 | .clearing _ => 1 | .block _ => 2 | .bar _ => 3] ∧
    bytesOne kind.ownerNo = [match kind with
      | .route o _ => BitVec.ofNat 8 (o.val + 1)
      | .clearing x => BitVec.ofNat 8 (lineNo x)
      | .block x => BitVec.ofNat 8 (lineNo x)
      | .bar _ => 255] ∧
    bytesOne kind.protectingNo =
      [match kind with | .route _ c => BitVec.ofNat 8 (c.val + 1) | _ => 0] ∧
    kind.reasonByte = match kind with | .bar reason => reason | _ => 0 := by
  cases kind <;> exact ⟨rfl, rfl, rfl, rfl⟩

theorem endPosNo_byte (p : EndPos) :
    bytesOne (endPosNo p) = [match p with | .normal => 0 | .reverse => 1] := by
  cases p <;> rfl

theorem releaseNo_byte (r : Release) : bytesOne (releaseNo r) =
    [match r with | .notGranted => 0 | .granted _ => 1 | .stroke _ => 2] := by
  cases r <;> rfl

/-- R62, R191: the byte that says whether a hold is BINDING. -/
theorem binding_byte (s : State) (hold : Hold) : bytesOne (flagNo (s.binding hold)) =
    [if s.llu[hold.lever].position = hold.position.toPosition then 1 else 0] := by
  unfold State.binding State.recorded
  by_cases binds : s.llu[hold.lever].position = hold.position.toPosition <;>
    simp [-Fin.getElem_fin, binds, flagNo, bytesOne]

/-! ### LIST_HOLDS -/

section
variable {s : State} {start : HoldId} {sel : Option LeverId}

theorem matchingHolds_ascending (ht : Vector (Option Hold) 72) :
    (matchingHolds sel start ht).Pairwise fun i j => i.val < j.val :=
  (List.pairwise_lt_finRange 72).filter _

theorem mem_matchingHolds_lever {ht : Vector (Option Hold) 72} {l : LeverId} {h : HoldId} :
    h ∈ matchingHolds (some l) start ht ↔
      start.val ≤ h.val ∧ ∃ hold, ht[h] = some hold ∧ hold.lever = l := by
  have selected : selects (some l) ht[h] = true ↔ ∃ hold, ht[h] = some hold ∧ hold.lever = l := by
    cases ht[h] <;> simp [selects]
  simp [-Fin.getElem_fin, matchingHolds, selected]

theorem mem_matchingHolds_all {ht : Vector (Option Hold) 72} {h : HoldId} :
    h ∈ matchingHolds none start ht ↔ start.val ≤ h.val ∧ ht[h] ≠ none := by
  have selected : selects none ht[h] = true ↔ ht[h] ≠ none := by
    cases ht[h] <;> simp [selects]
  simp [-Fin.getElem_fin, matchingHolds, selected]

/-- R76, R191: the answer of LIST_HOLDS for a selector and a start in range. -/
theorem listHolds_answer {n : Nat} (free : s.portFree) (selector : selectorOf n = some sel) :
    exec (.listHolds n start.val) s = .next (s.holding (replyBytes 0 37
      ((if 16 < (matchingHolds sel start s.ht).length then 1 else 0) ::
        BitVec.ofNat 8 (min 16 (matchingHolds sel start s.ht).length) ::
          ((matchingHolds sel start s.ht).take 16).map fun h => BitVec.ofNat 8 h.val))) := by
  have more : bytesOne (flagNo (decide (16 < (matchingHolds sel start s.ht).length))) =
      [if 16 < (matchingHolds sel start s.ht).length then 1 else 0] := by
    by_cases many : 16 < (matchingHolds sel start s.ht).length <;> simp [many, flagNo, bytesOne]
  have data : takeListHolds n start.val s = (s, .done
      ((if 16 < (matchingHolds sel start s.ht).length then 1 else 0) ::
        BitVec.ofNat 8 (min 16 (matchingHolds sel start s.ht).length) ::
          ((matchingHolds sel start s.ht).take 16).map fun h => BitVec.ofNat 8 h.val)) := by
    rw [takeListHolds, selector, holdOf_val]
    dsimp only
    rw [more, listBytes_bytesOne_map, List.length_take]
    rfl
  exact serve_eq free data

end

/-- Settles O24: the record of a hold field by field, and the list of the holds that match. -/
theorem holdsAreReadAndListed : Obligations.HoldsAreReadAndListed := by
  refine ⟨fun s free => ⟨fun h hold live => ?record, fun h empty => ?empty, fun n out => ?number⟩,
    fun s start free => ⟨fun l => ⟨matchingHolds (some l) start s.ht, matchingHolds_ascending _,
        fun h => mem_matchingHolds_lever, ?lever⟩,
      ⟨matchingHolds none start s.ht, matchingHolds_ascending _, fun h => mem_matchingHolds_all,
        listHolds_answer free rfl⟩⟩,
    fun s n m free => ⟨fun out => ?selector, fun within out => ?start⟩⟩
  case record =>
    have read : takeReadHold h.val s = (s, .done (s.holdData h hold)) := by
      rw [takeReadHold, holdOf_val]
      dsimp only
      rw [live]
    obtain ⟨kind, owner, protecting, reason⟩ := holdKind_bytes hold.kind
    have data := serve_eq (n := 36) free read
    rw [State.holdData, kind, owner, protecting, reason, endPosNo_byte, areaNo_byte, binding_byte,
      releaseNo_byte] at data
    exact data
  case empty =>
    have refused : takeReadHold h.val s = (s, .noRecord) := by
      rw [takeReadHold, holdOf_val]
      dsimp only
      rw [empty]
    exact serve_eq free refused
  case number =>
    have refused : takeReadHold n s = (s, .badArgument 1) := by
      rw [takeReadHold, holdOf_eq_none out]
    exact serve_eq free refused
  case lever =>
    refine listHolds_answer free ?_
    rw [selectorOf, if_neg (Nat.succ_ne_zero _), leverOf_inverse.eq l]
    rfl
  case selector =>
    have unread : selectorOf n = none := by
      rw [selectorOf, if_neg (by omega), leverOf_eq_none.mpr (.inr out)]
      rfl
    have refused : takeListHolds n m s = (s, .badArgument 1) := by
      rw [takeListHolds, unread]
    exact serve_eq free refused
  case start =>
    have read : ∃ sel, selectorOf n = some sel := by
      unfold selectorOf
      split
      · exact ⟨_, rfl⟩
      · cases lever : leverOf n with
        | none => rw [leverOf_eq_none] at lever; omega
        | some l => exact ⟨_, rfl⟩
    obtain ⟨sel, read⟩ := read
    have refused : takeListHolds n m s = (s, .badArgument 2) := by
      rw [takeListHolds, read, holdOf_eq_none out]
    exact serve_eq free refused

end Sys2Proof.Machine

/-! The law for the block hold, line by line: what it reads, and what each writer of the Hold Table and
of a line does to it. -/

namespace Sys2Proof.Machine

/-! ### The law of the lines that are judged -/

/-- R64, R136: the law for the block hold, on the lines that are judged. A line whose block condition was
written is open, and R136 holds on it again once its hold is re-judged. -/
structure HoldLaw (judged : Line → Prop) (s : State) : Prop where
  areas : HoldAreas s
  starters : s.device = .service → ∀ x, (s.cfg.lines.get x).starter ≠ none
  inService : s.device = .service → ∀ x, judged x →
    (s.ht[blockEntry x] = none ↔ (s.blc.get x).blockCondition = true)
  outside : s.device = .config → ∀ h : HoldId, s.ht[h] = none

/-- R136: the law of the device is the law with every line judged. -/
theorem blockHoldLaw_iff {s : State} : BlockHoldLaw s ↔ HoldLaw (fun _ => True) s :=
  ⟨fun law => ⟨law.areas, law.starters,
      fun service x _ => (law.inService service x).trans blockCondition_iff.symm, law.outside⟩,
    fun law => ⟨law.areas, law.starters,
      fun service x => (law.inService service x trivial).trans blockCondition_iff, law.outside⟩⟩

/-- R64: a block entry is neither shared nor in the bar reserve. -/
theorem blockEntry_val (x : Line) : 64 ≤ (blockEntry x).val ∧ (blockEntry x).val < 67 := by
  cases x <;> decide

/-- R64: an entry outside the shared area and the bar reserve is a line's block entry. -/
theorem eq_blockEntry_of_val {h : HoldId} (above : 64 ≤ h.val) (below : h.val < 67) :
    ∃ x, h = blockEntry x := by
  have number : h.val = 64 ∨ h.val = 65 ∨ h.val = 66 := by omega
  rcases number with e | e | e
  · exact ⟨.a, Fin.ext e⟩
  · exact ⟨.b, Fin.ext e⟩
  · exact ⟨.c, Fin.ext e⟩

/-- R64: a hold of any other kind than BLOCK stands in no block entry. -/
theorem holdAllowed_ne_blockEntry {h : HoldId} {kind : HoldKind} (allowed : holdAllowed h kind)
    (other : ∀ y, kind ≠ .block y) (x : Line) : h ≠ blockEntry x := by
  rintro rfl
  have val := blockEntry_val x
  cases kind with
  | block y => exact other y rfl
  | route o c => exact absurd (show (blockEntry x).val < 64 from allowed) (by omega)
  | clearing y => exact absurd (show (blockEntry x).val < 64 from allowed) (by omega)
  | bar why =>
    have area : (blockEntry x).val < 64 ∨ 67 ≤ (blockEntry x).val := allowed
    omega

/-- R67: each entry after a group is as it was, or has a hold of the group. -/
theorem writeGroup_entry (c : Clock) (l : List (HoldId × GroupEntry)) (ht : Vector (Option Hold) 72)
    (h : HoldId) : (writeGroup c ht l)[h] = ht[h] ∨
      ∃ g ∈ l, g.1 = h ∧ (writeGroup c ht l)[h] = some ⟨g.2.kind, g.2.lever, g.2.position, c⟩ := by
  induction l generalizing ht with
  | nil => exact .inl rfl
  | cons g l ih =>
    rw [writeGroup]
    rcases ih (tableUpdate ht g.1 fun _ => some ⟨g.2.kind, g.2.lever, g.2.position, c⟩) with
      kept | ⟨k, m, own, created⟩
    · by_cases own : g.1 = h
      · refine .inr ⟨g, List.mem_cons_self, own, kept.trans ?_⟩
        rw [← own, tableUpdate_get_self]
      · exact .inl (kept.trans (tableUpdate_get_ne _ _ (Ne.symm own)))
    · exact .inr ⟨k, List.mem_cons_of_mem g m, own, created⟩

namespace HoldLaw
variable {judged : Line → Prop} {s t : State}

/-- The law on fewer lines. -/
theorem mono {fewer : Line → Prop} (law : HoldLaw judged s) (sub : ∀ x, fewer x → judged x) :
    HoldLaw fewer s :=
  { law with inService := fun service x is => law.inService service x (sub x is) }

/-- What leaves the Hold Table, the block conditions, the starters and the device state leaves the law. -/
theorem of_kept (law : HoldLaw judged s) (ht : t.ht = s.ht)
    (conditions : ∀ x, (t.blc.get x).blockCondition = (s.blc.get x).blockCondition)
    (device : t.device = s.device) (lines : t.cfg.lines = s.cfg.lines) : HoldLaw judged t where
  areas h hold live := law.areas h hold (ht ▸ live)
  starters service x := lines ▸ law.starters (device ▸ service) x
  inService service x is := by
    rw [ht, conditions]
    exact law.inService (device ▸ service) x is
  outside config h := ht ▸ law.outside (device ▸ config) h

theorem of_eq (law : HoldLaw judged s) (ht : t.ht = s.ht) (blc : t.blc = s.blc)
    (device : t.device = s.device) (lines : t.cfg.lines = s.cfg.lines) : HoldLaw judged t :=
  law.of_kept ht (fun _ => by rw [blc]) device lines

/-! ### Writers of the Hold Table -/

/-- A write of the Hold Table that leaves the block entries, puts every hold where it is allowed, and
creates none in CONFIG. -/
theorem of_holds (law : HoldLaw judged s) (areas : HoldAreas t)
    (blocks : ∀ x, t.ht[blockEntry x] = none ↔ s.ht[blockEntry x] = none)
    (outside : s.device = .config → ∀ h : HoldId, t.ht[h] = none) (blc : t.blc = s.blc)
    (device : t.device = s.device) (lines : t.cfg.lines = s.cfg.lines) : HoldLaw judged t where
  areas := areas
  starters service x := lines ▸ law.starters (device ▸ service) x
  inService service x is := by
    rw [blocks, blc]
    exact law.inService (device ▸ service) x is
  outside config := outside (device ▸ config)

/-- R71: the retirement of holds of any other kind than BLOCK. -/
theorem retireWhere (law : HoldLaw judged s) {p : Hold → Bool}
    (spares : ∀ hold x, hold.kind = .block x → p hold = false) :
    HoldLaw judged (retireWhere p s) := by
  refine law.of_holds (fun h hold live => law.areas h hold (retireWhere_live.mp live).1)
    (fun x => ⟨fun free => ?_, retireWhere_free⟩)
    (fun config h => retireWhere_free (law.outside config h)) ?_ ?_ ?_
  · by_contra live
    obtain ⟨hold, live⟩ := Option.ne_none_iff_exists'.mp live
    have block : ∃ y, hold.kind = .block y := by
      by_contra other
      exact holdAllowed_ne_blockEntry (law.areas _ hold live) (not_exists.mp other) x rfl
    obtain ⟨y, block⟩ := block
    have kept := retireWhere_live.mpr ⟨live, spares hold y block⟩
    rw [free] at kept
    cases kept
  all_goals simp

theorem retireRoute (law : HoldLaw judged s) (l : LeverId) : HoldLaw judged (retireRoute l s) :=
  law.retireWhere fun hold x block => by rw [Hold.ownedByRoute, block]

theorem retireProtected (law : HoldLaw judged s) (l : LeverId) (c : TrackId) :
    HoldLaw judged (retireProtected l c s) :=
  law.retireWhere fun hold x block => by rw [Hold.protectedBy, block]

theorem retireClearing (law : HoldLaw judged s) (x : Line) : HoldLaw judged (retireClearing x s) :=
  law.retireWhere fun hold y block => by rw [Hold.clearingOf, block]

/-- R67, R68: a group of ROUTE or CLEARING holds, created in the shared area or refused. -/
theorem createGroup (law : HoldLaw judged s) {entries : List GroupEntry} (who : Detail)
    (shared : ∀ e ∈ entries, ∀ h : HoldId, h.val < 64 → holdAllowed h e.kind) :
    HoldLaw judged (createGroup entries who s).2 := by
  rcases createGroup_cases entries who s with ⟨-, e⟩ | ⟨service, -, e⟩ | ⟨-, -, e⟩ <;> rw [e]
  · exact law
  · have given : ∀ g ∈ ((freeShared s.ht).take entries.length).zip entries,
        g.1.val < 64 ∧ g.2 ∈ entries := fun g m =>
      ⟨(mem_freeShared.mp (List.mem_of_mem_take (List.of_mem_zip m).1)).1, (List.of_mem_zip m).2⟩
    refine law.of_holds (fun h hold live => ?_) (fun x => ?_)
      (fun config => by rw [service] at config; cases config) rfl rfl rfl
    · rcases writeGroup_entry s.tb.clock _ s.ht h with 
        kept | ⟨g, m, rfl, created⟩
      · exact law.areas h hold (kept ▸ live)
      · dsimp only at live
        rw [created] at live
        cases live
        exact shared _ (given g m).2 g.1 (given g m).1
    · have out : ∀ g ∈ ((freeShared s.ht).take entries.length).zip entries, g.1 ≠ blockEntry x :=
        fun g m same => by
          have low := (given g m).1
          rw [same] at low
          exact absurd low (Nat.not_lt.mpr (blockEntry_val x).1)
      dsimp only
      rw [writeGroup_outside _ _ _ out]
  · exact law.of_eq (by simp) (by simp) (by simp) (by simp)

/-- R73, R74: an entry that is no block entry written: freed, or given a hold that it may have. -/
theorem updHold (law : HoldLaw judged s) {h : HoldId} {v : Option Hold}
    (other : ∀ x, h ≠ blockEntry x) (allowed : ∀ hold, v = some hold → holdAllowed h hold.kind)
    (outside : s.device = .config → v = none) : HoldLaw judged (s.updHold h v) := by
  refine law.of_holds (fun j hold live => ?_) (fun x => ?_) (fun config j => ?_) rfl rfl rfl <;>
    simp only [State.updHold_ht] at *
  · rw [tableUpdate_get] at live
    split at live
    · next own => exact own ▸ allowed hold live
    · exact law.areas j hold live
  · rw [tableUpdate_get_ne _ _ (other x).symm]
  · rw [tableUpdate_get]
    split
    · exact outside config
    · exact law.outside config j

/-! ### Writers of a line -/

/-- A line written: what it has for its block condition is judged no more. -/
theorem updLine (law : HoldLaw judged s) (x : Line) (f : BlockLine → BlockLine) :
    HoldLaw (fun y => judged y ∧ y ≠ x) (s.updLine x f) where
  areas := law.areas
  starters := law.starters
  inService service y is := by
    rw [State.updLine_blc, PerLine.get_set_ne _ _ is.2]
    exact law.inService service y is.1
  outside := law.outside

/-- A line written with its block condition as it was. -/
theorem updLine_kept (law : HoldLaw judged s) {x : Line} {f : BlockLine → BlockLine}
    (kept : (f (s.blc.get x)).blockCondition = (s.blc.get x).blockCondition) :
    HoldLaw judged (s.updLine x f) := by
  refine law.of_kept rfl (fun y => ?_) rfl rfl
  rw [State.updLine_blc, PerLine.get_set]
  split
  · next own => subst own; exact kept
  · rfl

/-- R136: a re-judgement of a line's block hold restores the law on that line. -/
theorem rejudge (law : HoldLaw judged s) (x : Line) :
    HoldLaw (fun y => judged y ∨ y = x) (rejudge x s) := by
  have own (service : s.device = .service) : (Machine.rejudge x s).ht[blockEntry x] = none ↔
      (s.blc.get x).blockCondition = true := by
    obtain ⟨l, starter⟩ := Option.ne_none_iff_exists'.mp (law.starters service x)
    rw [rejudge_entry, if_pos service, ensureBlock_entry, starter]
    cases (s.blc.get x).blockCondition <;> cases s.ht[blockEntry x] <;> simp
  constructor
  · intro h hold live
    by_cases entry : h = blockEntry x
    · subst entry
      rcases rejudge_cases x s with ⟨-, e⟩ | ⟨-, -, e⟩ | ⟨-, -, e⟩ <;> rw [e] at live
      · exact law.areas _ hold live
      · rw [State.updHold_ht, tableUpdate_get_self] at live
        cases live
      · rw [ensureBlock_entry] at live
        split at live
        · cases live; exact rfl
        · exact law.areas _ hold live
    · rw [rejudge_other entry] at live
      exact law.areas h hold live
  · simp only [rejudge_frame]
    exact law.starters
  · intro service y is
    simp only [rejudge_frame] at service ⊢
    by_cases line : y = x
    · subst line
      exact own service
    · rw [rejudge_other (mt blockEntry_inj.mp line)]
      exact law.inService service y (is.resolve_right line)
  · intro config h
    simp only [rejudge_frame] at config
    rw [Machine.rejudge, if_neg (by rw [config]; simp)]
    exact law.outside config h

/-- A re-judgement after a write of the same line. -/
theorem rejudge_updLine {x : Line} (law : HoldLaw (fun y => judged y ∧ y ≠ x) s) :
    HoldLaw judged (Machine.rejudge x s) :=
  (law.rejudge x).mono fun y is => by
    by_cases own : y = x
    · exact .inr own
    · exact .inl ⟨is, own⟩

theorem latch (law : HoldLaw judged s) (src : Source) (d : Detail) :
    HoldLaw judged (latch src d s) :=
  law.of_eq (by simp) (by simp) (by simp) (by simp)

/-- R135, R136: the standing written and the block hold re-judged. -/
theorem setStanding (law : HoldLaw judged s) (x : Line) (st : Standing) :
    HoldLaw judged (setStanding x st s) :=
  (law.updLine x _).rejudge_updLine

/-- R134, R136: the obstruction flag written and the block hold re-judged. -/
theorem setObstruction (law : HoldLaw judged s) (x : Line) (flag : Bool) :
    HoldLaw judged (setObstruction x flag s) :=
  (law.updLine x _).rejudge_updLine

/-- R126: the IN instrument is no part of the block condition. -/
theorem setInstrument (law : HoldLaw judged s) (x : Line) (i : Instrument) :
    HoldLaw judged (setInstrument x i s) :=
  law.updLine_kept rfl

/-- R130, R131, R136: the count enters the block condition through SUSPENDED only, and a line that becomes
SUSPENDED is re-judged. -/
theorem changeCount (law : HoldLaw judged s) (x : Line) (f : Nat → Nat) :
    HoldLaw judged (changeCount x f s) := by
  have active {count : Nat} (stays : healthOf count ≠ .suspended)
      (was : (s.blc.get x).suspended = false) :
      { s.blc.get x with count := count }.blockCondition = (s.blc.get x).blockCondition := by
    have now : { s.blc.get x with count := count }.suspended = false := decide_eq_false stays
    rw [BlockLine.blockCondition, BlockLine.blockCondition, now, was]
    rfl
  rcases changeCount_cases x f s with ⟨-, e⟩ | ⟨was, same, e⟩ | ⟨-, -, -, e⟩ | ⟨was, -, stays, e⟩ <;>
    rw [e]
  · exact law
  · exact law.updLine_kept (active (same ▸ of_decide_eq_false was) was)
  · exact ((law.updLine x _).latch _ _).rejudge_updLine
  · exact (law.updLine_kept (active stays was)).latch _ _

theorem stepUp (law : HoldLaw judged s) (x : Line) (n : Nat) : HoldLaw judged (stepUp x n s) :=
  law.changeCount x _

theorem stepDown (law : HoldLaw judged s) (x : Line) : HoldLaw judged (stepDown x s) :=
  law.changeCount x _

end HoldLaw
end Sys2Proof.Machine

/-! What the work on levers and routes keeps: a property of states that each of its writers keeps. -/

namespace Sys2Proof.Machine

/-! ### The writers -/

/-- The writers that the work on levers and routes is made of keep a property of states. -/
structure WorkKeeps (P : State → Prop) : Prop where
  lever : ∀ (l : LeverId) (f : Lever → Lever) (s : State), P s → P (s.updLever l f)
  route : ∀ (l : LeverId) (f : Route → Route) (s : State), P s → P (s.updRoute l f)
  mark : ∀ (c : TrackId) (s : State), P s → P (clearMark c s)
  bus : ∀ (b : ScanBus) (s : State), P s → P (s.setSbc b)
  latched : ∀ (src : Source) (d : Detail) (s : State), P s → P (latch src d s)
  group : ∀ (l : LeverId) (cfg : RouteConfig) (who : Detail) (s : State), P s →
    P (createGroup (routeGroup l cfg) who s).2
  whole : ∀ (l : LeverId) (s : State), P s → P (retireRoute l s)
  circuit : ∀ (l : LeverId) (c : TrackId) (s : State), P s → P (retireProtected l c s)

namespace WorkKeeps
variable {P : State → Prop} (keeps : WorkKeeps P) {s : State} {l : LeverId} (kept : P s)
include keeps kept

/-! ### Routes -/

theorem clearMarks (cs : List TrackId) : P (clearMarks cs s) := by
  unfold Machine.clearMarks
  induction cs generalizing s with
  | nil => exact kept
  | cons c cs ih => exact ih (keeps.mark c s kept)

theorem setRouteState (st : RouteState) : P (setRouteState l st s) := keeps.route l _ s kept

theorem makeIdle : P (makeIdle l s) := keeps.route l _ _ (keeps.whole l s kept)

theorem faultRoute (c : FaultCause) : P (faultRoute l c s) :=
  keeps.latched _ _ _ (keeps.setRouteState (keeps.route l _ s kept) _)

theorem routeRequest : P (routeRequest l s).2 := by
  have group := keeps.group l s.cfg.routes[l] (.lever l) s kept
  unfold Machine.routeRequest
  split
  · exact kept
  · split
    · exact kept
    · split <;> (rename_i e; rw [e] at group)
      · exact keeps.setRouteState (keeps.clearMarks (keeps.route l _ _ group) _) _
      · exact group
      · exact group

theorem routeWithdrawn : P (routeWithdrawn l s) := by
  unfold Machine.routeWithdrawn
  split
  · exact keeps.makeIdle kept
  · exact kept

theorem leftNormalGranted : P (leftNormalGranted l s) := by
  unfold Machine.leftNormalGranted
  split
  · exact keeps.setRouteState kept _
  · exact kept

theorem escapeFromIdle : P (escapeFromIdle l s) := by
  have group := keeps.group l s.cfg.routes[l] (.lever l) s kept
  unfold Machine.escapeFromIdle
  refine keeps.clearMarks ?_ _
  split
  · exact keeps.route l _ s kept
  · split <;> (rename_i e; rw [e] at group; exact keeps.route l _ _ group)

theorem routeEscape : P (routeEscape l s) := by
  unfold Machine.routeEscape
  refine keeps.setRouteState (keeps.latched _ _ _ (keeps.route l _ _ ?_)) _
  split
  · exact keeps.escapeFromIdle kept
  · exact keeps.route l _ s kept

theorem releaseSection (c : TrackId) : P (releaseSection l c s) :=
  keeps.route l _ _ (keeps.mark c _ (keeps.route l _ _ (keeps.circuit l c s kept)))

theorem releaseSections (n : Nat) : P (releaseSections l n s) := by
  induction n generalizing s with
  | zero => exact kept
  | succ n ih =>
    unfold Machine.releaseSections
    split
    · exact keeps.makeIdle kept
    · split
      · exact ih (keeps.releaseSection kept _)
      · exact kept

theorem releasePass : P (releasePass l s) := by
  unfold Machine.releasePass
  split
  · dsimp only
    split
    · exact keeps.faultRoute (keeps.releaseSections kept _) _
    · exact keeps.releaseSections kept _
  · exact kept

omit l in
theorem releasePasses : P (releasePasses s) :=
  forEach_keeps (fun _ _ kept => keeps.releasePass kept) s kept

theorem startReleasing : P (startReleasing l s) :=
  keeps.releasePass (keeps.setRouteState (keeps.route l _ s kept) _)

theorem returnDecision : P (returnDecision l s) := by
  unfold Machine.returnDecision
  split
  · exact keeps.faultRoute kept _
  · split
    · exact keeps.startReleasing kept
    · split
      · exact keeps.setRouteState (keeps.route l _ s kept) _
      · exact keeps.makeIdle kept

theorem routeReturned : P (routeReturned l s) := by
  unfold Machine.routeReturned
  split
  · exact keeps.returnDecision kept
  · exact kept

omit l in
theorem routeOccupation (c : TrackId) : P (routeOccupation c s) := by
  refine forEach_keeps (fun k t kept => ?_) s kept
  split
  · exact keeps.startReleasing kept
  · exact kept

omit l in
theorem restoreNotice : P (restoreNotice s) := by
  refine forEach_keeps (fun k t kept => ?_) s kept
  split
  · exact keeps.faultRoute kept _
  · exact kept

/-! ### Levers -/

omit keeps l in
theorem notice {f : State → State} (work : P (f s)) : P (notice f s) := by
  unfold Machine.notice
  split
  · exact work
  · exact kept

theorem refuse (why : RefusalReason) : P (refuse l why s) := by
  unfold Machine.refuse
  dsimp only
  split
  · exact keeps.latched _ _ _ (keeps.lever l _ s kept)
  · exact keeps.lever l _ s kept

theorem leverFault (f : LeverFault) : P (leverFault l f s) :=
  keeps.latched _ _ _ (keeps.lever l _ s kept)

theorem askRoute (p : EndPos) : P (askRoute l p s) := by
  have asked := keeps.routeRequest (l := l) kept
  unfold Machine.askRoute
  split
  · split <;> (rename_i e; rw [e] at asked)
    · exact keeps.lever l _ _ asked
    all_goals exact keeps.refuse asked _
  · exact keeps.lever l _ s kept

theorem seekGrant (p : EndPos) : P (seekGrant l p s) := by
  unfold Machine.seekGrant
  split
  · exact keeps.refuse kept _
  · split
    · exact keeps.refuse kept _
    · split
      · exact keeps.refuse kept _
      · split
        · exact keeps.refuse kept _
        · exact keeps.askRoute kept p

theorem seekAtEnd : P (seekAtEnd l s) := by
  unfold Machine.seekAtEnd
  split
  · split
    · exact keeps.seekGrant kept _
    · exact kept
  · exact kept

theorem withdrawGrant (p : EndPos) : P (withdrawGrant l p s) := by
  have written := keeps.lever l (fun r => { r with release := .notGranted }) s kept
  unfold Machine.withdrawGrant
  dsimp only
  split
  · exact notice written (keeps.routeWithdrawn written)
  · exact written

theorem withdrawFor (p : EndPos) (why : RefusalReason) : P (withdrawFor l p why s) :=
  keeps.withdrawGrant (keeps.lever l _ _ (keeps.refuse kept why)) p

theorem retestGrant (p : EndPos) : P (retestGrant l p s) := by
  unfold Machine.retestGrant
  split
  · exact keeps.withdrawGrant (keeps.lever l _ s kept) p
  · split
    · exact keeps.withdrawFor kept p _
    · split
      · exact keeps.withdrawFor kept p _
      · exact kept

theorem noticeReturned (e : EndPos) : P (noticeReturned l e s) := by
  unfold Machine.noticeReturned
  split
  · exact notice kept (keeps.routeReturned kept)
  · exact kept

theorem arriveAt (p e : EndPos) : P (arriveAt l p e s) :=
  keeps.noticeReturned (keeps.lever l _ s kept) e

theorem beginStroke (p : EndPos) : P (beginStroke l p s) := by
  have written := keeps.lever l (fun r =>
    { r with release := .stroke p, strokeTimer := some s.cfg.levers[l].strokeTimeout }) s kept
  unfold Machine.beginStroke
  dsimp only
  split
  · exact notice written (keeps.leftNormalGranted written)
  · exact written

theorem leaveOrigin (p : EndPos) : P (leaveOrigin l p s) := by
  unfold Machine.leaveOrigin
  split
  · exact keeps.arriveAt (keeps.beginStroke kept p) p _
  · exact keeps.beginStroke kept p

theorem unreleasedDeparture (p : EndPos) : P (unreleasedDeparture l p s) := by
  have faulted := keeps.leverFault (l := l) kept .unreleased
  have gripped : P (if s.gripped l then
      (Machine.leverFault l .unreleased s).updLever l fun r => { r with grip := .spent }
      else Machine.leverFault l .unreleased s) := by
    split
    · exact keeps.lever l _ _ faulted
    · exact faulted
  have escaped := notice gripped (keeps.routeEscape (l := l) gripped)
  unfold Machine.unreleasedDeparture
  dsimp only
  split <;> split
  · exact keeps.noticeReturned escaped _
  · exact keeps.noticeReturned gripped _
  · exact escaped
  · exact gripped

theorem contactEffect : P (contactEffect l s) := by
  have written := keeps.lever l (fun r => { r with release := .notGranted }) s kept
  unfold Machine.contactEffect
  split
  · dsimp only
    split
    · exact notice written (keeps.leftNormalGranted written)
    · exact written
  · exact keeps.lever l _ s kept
  · split
    · exact notice kept (keeps.routeEscape kept)
    · exact kept

theorem contactFault : P (contactFault l s) := by
  unfold Machine.contactFault
  split
  · exact kept
  · exact keeps.contactEffect (keeps.leverFault kept _)

theorem judgeNotGranted (m : Continuity) : P (judgeNotGranted m l s) := by
  unfold Machine.judgeNotGranted
  split
  · exact keeps.unreleasedDeparture kept _
  · refine keeps.seekAtEnd ?_
    split
    · exact keeps.noticeReturned kept _
    · exact kept

theorem judgeLever (m : Continuity) : P (judgeLever m l s) := by
  unfold Machine.judgeLever
  split
  · split
    · exact kept
    · exact keeps.contactFault kept
  · split
    · split
      · exact keeps.retestGrant kept _
      · exact keeps.leaveOrigin kept _
    · split
      · exact keeps.arriveAt kept _ _
      · exact kept
    · exact keeps.judgeNotGranted kept m

/-! ### The passes of the lever part -/

theorem evaluateLever (m : Continuity) : P (evaluateLever m l s) := by
  by_cases conf : s.cfg.levers[l].configured = true
  · have judged : P (gripJudged m l s) := by
      unfold gripJudged
      split
      · exact kept
      · exact keeps.lever l _ s kept
    rw [evaluateLever_configured m conf]
    exact keeps.lever l _ _ (keeps.judgeLever judged m)
  · rw [evaluateLever_unconfigured m conf]
    exact kept

theorem closingCheck : P (closingCheck l s) := by
  unfold Machine.closingCheck
  split
  · split
    · exact keeps.withdrawFor kept _ _
    · exact kept
  · exact kept
  · exact kept

theorem restoreRelease : P (restoreRelease l s) := by
  unfold Machine.restoreRelease
  split
  · exact keeps.lever l _ s kept
  · exact kept

theorem restoreDeparture : P (restoreDeparture l s) := by
  unfold Machine.restoreDeparture
  split
  · split
    · exact keeps.unreleasedDeparture kept _
    · exact kept
  · exact kept

theorem restoreUnseen : P (restoreUnseen l s) := by
  unfold Machine.restoreUnseen
  split
  · exact keeps.lever l _ s kept
  · exact kept

theorem restoreContacts : P (restoreContacts l s) := by
  unfold Machine.restoreContacts
  split
  · exact keeps.contactFault kept
  · exact kept

theorem restoreReturned : P (restoreReturned l s) := by
  unfold Machine.restoreReturned
  split
  · exact notice kept (keeps.routeReturned kept)
  · exact kept

omit l in
theorem restoredSteps : P (restoredSteps s) := by
  have noticed := notice kept (keeps.restoreNotice kept)
  have released := forEach_keeps (fun l _ => keeps.restoreRelease (l := l)) _ noticed
  have departed := forEach_keeps (fun l _ => keeps.restoreDeparture (l := l)) _ released
  have seen := forEach_keeps (fun l _ => keeps.restoreUnseen (l := l)) _ departed
  have judged := forEach_keeps (fun l _ => keeps.restoreContacts (l := l)) _ seen
  exact forEach_keeps (fun l _ => keeps.restoreReturned (l := l)) _ judged

omit l in
/-- R41: what the writers keep, the lever part of an arrival keeps. -/
theorem takeLeverPart (m : Continuity) : P (takeLeverPart m s) := by
  have seen : P (seenAgain m s) := by
    unfold seenAgain
    split
    · exact keeps.restoredSteps kept
    · exact kept
  have evaluated := forEach_keeps (P := P) (fun l _ kept => keeps.evaluateLever (l := l) kept m) _ seen
  have checked := forEach_keeps (P := P) (fun l _ => keeps.closingCheck (l := l)) _ evaluated
  have written : P (writeMagnets (Machine.checked m s)) := keeps.bus _ _ checked
  exact notice written (keeps.releasePasses written)

end WorkKeeps

/-- R67, R71, R136: the work on levers and routes leaves the block holds. -/
theorem HoldLaw.workKeeps (judged : Line → Prop) : WorkKeeps (HoldLaw judged) where
  lever _ _ _ law := law.of_eq rfl rfl rfl rfl
  route _ _ _ law := law.of_eq rfl rfl rfl rfl
  mark _ _ law := law.of_eq rfl rfl rfl rfl
  bus _ _ law := law.of_eq rfl rfl rfl rfl
  latched _ _ _ law := law.latch _ _
  group l cfg _ _ law := law.createGroup _ fun e m h low => by
    obtain ⟨p, -, rfl⟩ := List.mem_map.mp m
    exact low
  whole _ _ law := law.retireRoute _
  circuit _ _ _ law := law.retireProtected _ _

end Sys2Proof.Machine

/-! The law for the block hold over the train records, the events of a line and the arrivals. -/

namespace Sys2Proof.Machine

namespace HoldLaw
variable {judged : Line → Prop} {s : State} (law : HoldLaw judged s)
include law

/-! ### Train records -/

theorem updTrain (r : TrainId) (f : Train → Train) : HoldLaw judged (s.updTrain r f) :=
  law.of_eq rfl rfl rfl rfl

theorem updRecord (r : TrainId) (v : Option Train) : HoldLaw judged (s.updRecord r v) :=
  law.of_eq rfl rfl rfl rfl

theorem setOwed (x : Line) (b : Bool) : HoldLaw judged (s.setOwed x b) := law.of_eq rfl rfl rfl rfl

theorem retirementCheck (r : TrainId) : HoldLaw judged (retirementCheck r s) :=
  law.of_eq (by simp) (by simp) (by simp) (by simp)

theorem latchChange (r : TrainId) : HoldLaw judged (latchChange r s) :=
  law.of_eq (by simp) (by simp) (by simp) (by simp)

/-! ### Bell Units -/

theorem updBell (x : Line) (f : BellUnit → BellUnit) : HoldLaw judged (s.updBell x f) :=
  law.of_eq rfl rfl rfl rfl

theorem keepRecognised (x : Line) (groups : List Nat) (heard : Heard) :
    HoldLaw judged (keepRecognised x groups heard s) :=
  law.of_eq (by simp) (by simp) (by simp) (by simp)

theorem storeCode (x : Line) (c : StoredCode) : HoldLaw judged (storeCode x c s) :=
  law.of_eq (by simp) (by simp) (by simp) (by simp)

theorem takeEntrySend (x : Line) (c : CodeId) : HoldLaw judged (takeEntrySend x c s) :=
  law.of_eq (by simp) (by simp) (by simp) (by simp)

theorem autoEntering (x : Line) : HoldLaw judged (autoEntering x s) :=
  law.of_eq (by simp) (by simp) (by simp) (by simp)

/-! ### Received codes -/

theorem judgeOutOfSection (c : ReceivedCode) : HoldLaw judged (judgeOutOfSection c s).state := by
  unfold Machine.judgeOutOfSection
  (repeat' split)
  · exact (((law.updTrain _ _).setStanding _ _).setOwed _ _).retirementCheck _
  · exact law
  · exact law

theorem judgeCancel (c : ReceivedCode) : HoldLaw judged (judgeCancel c s).state := by
  unfold Machine.judgeCancel
  split
  · split
    · refine (setInstrument ?_ _ _).retirementCheck _
      split
      · exact (law.updTrain _ _).retireClearing _
      · exact law.updTrain _ _
    · exact law
  · exact law

theorem judgeEntering (c : ReceivedCode) : HoldLaw judged (judgeEntering c s).state := by
  unfold Machine.judgeEntering
  (repeat' split)
  · exact (law.updTrain _ _).setInstrument _ _
  · exact law
  · exact law

/-- R146 to R149: a code judged by its meaning. -/
theorem judgeMeaning (c : ReceivedCode) : HoldLaw judged (judgeMeaning c s).state := by
  unfold Machine.judgeMeaning
  split
  · exact law.of_eq (by simp) (by simp) (by simp) (by simp)
  · exact law.judgeEntering c
  · exact law.judgeOutOfSection c
  · exact law.judgeCancel c
  · exact law
  · exact law
  · exact law
  · exact law.setObstruction _ _
  · exact law.setObstruction _ _

theorem takeReceivedCode (c : ReceivedCode) : HoldLaw judged (takeReceivedCode c s).1 := by
  have meaning : HoldLaw judged (if c.repetition then Judgement.noEffect s
      else Machine.judgeMeaning c s).state := by
    split
    · exact law
    · exact law.judgeMeaning c
  have counted {j : Judgement} (law : HoldLaw judged j.state) : HoldLaw judged
      (if j.inTurn then Machine.stepDown c.line j.state else Machine.stepUp c.line 4 j.state) := by
    split
    · exact law.stepDown _
    · exact law.stepUp _ _
  unfold Machine.takeReceivedCode
  dsimp only
  split
  · exact (counted meaning).latchChange _
  · exact counted meaning

/-- R106, R110: the end of a code. -/
theorem endCode (x : Line) (c : Assembly) : HoldLaw judged (endCode x c s) := by
  have handed (heard : Heard) (repetition : Bool) {u : State} (law : HoldLaw judged u) :
      HoldLaw judged (handOver x c heard repetition u).1 := by
    unfold handOver
    split
    · split
      · exact law.takeReceivedCode _
      · exact law.stepUp _ _
      · exact law.stepUp _ _
    · exact law
  exact ((handed _ _ (law.updBell x _)).keepRecognised x _ _).storeCode x _

/-! ### Adoptions of the OUT instrument -/

theorem withdrawAcceptance (x : Line) (r : TrainId) : HoldLaw judged (withdrawAcceptance x r s) :=
  ((law.updTrain _ _).setStanding _ _).latch _ _

theorem judgeAdoption (x : Line) (new : Instrument) : HoldLaw judged (judgeAdoption x new s) := by
  unfold Machine.judgeAdoption
  dsimp only
  split
  · split
    · exact law
    · exact ((law.updTrain _ _).setStanding _ _).latch _ _
  · split
    · exact law.stepUp _ _
    · exact law
  · exact law.stepUp _ _
  · exact (law.stepUp _ _).withdrawAcceptance _ _
  · exact law
  · exact law.stepUp _ _
  · exact law.withdrawAcceptance _ _
  · exact law

omit law in
/-- R128: an adoption re-judges the line's block hold, before or after it is judged itself. -/
theorem adopt {x : Line} (law : HoldLaw (fun y => judged y ∧ y ≠ x) s) (new : Instrument) :
    HoldLaw judged (adopt x new s) := by
  have reacted {lines : Line → Prop} {u : State} (law : HoldLaw lines u) : HoldLaw lines
      (if (u.blc.get x).suspended then u else Machine.judgeAdoption x new u) := by
    split
    · exact law
    · exact law.judgeAdoption _ _
  unfold Machine.adopt
  by_cases clear : new = .clear
  · simp only [clear, ne_eq, not_true_eq_false, if_false, if_true]
    exact (rejudge_updLine (clear ▸ reacted law)).latch _ _
  · simp only [clear, ne_eq, not_false_eq_true, if_false, if_true]
    exact (reacted law.rejudge_updLine).latch _ _

/-- R127 to R129: a settled reading that gives the OUT instrument another state is adopted. -/
theorem settle (x : Line) (r : RawReading) : HoldLaw judged (settle x r s) := by
  have invalid {u : State} (law : HoldLaw judged u) :
      HoldLaw judged (if r = .both then invalidReading x u else u) := by
    split
    · exact (law.stepUp _ _).latch _ _
    · exact law
  have written := law.updLine x fun b => { b with settled := r, candidate := none }
  have adopted : HoldLaw judged (if outStateOf r = (s.blc.get x).outState
      then s.updLine x fun b => { b with settled := r, candidate := none }
      else Machine.adopt x (outStateOf r)
        (s.updLine x fun b => { b with settled := r, candidate := none })) := by
    split
    · next same =>
      refine law.updLine_kept ?_
      rw [BlockLine.blockCondition, BlockLine.blockCondition, ← same]
      rfl
    · exact written.adopt _
  by_cases service : s.device = .service
  · rw [Machine.settle, if_pos service]
    exact invalid adopted
  · rw [Machine.settle, if_neg service]
    exact { written with inService := fun entered => absurd entered service }

/-! ### Track events -/

theorem entryOccupied (x : Line) (c : TrackId) : HoldLaw judged (entryOccupied x c s) := by
  have entered (r : TrainId) : HoldLaw judged (enterSection x r s) := by
    have standing := (law.updTrain r fun t => { t with
      outbound := .inSection, stamps := { t.stamps with enteredOut := some s.tb.clock } }).setStanding
      x .inSection
    unfold enterSection
    dsimp only
    split
    · exact (standing.autoEntering _).latch _ _
    · exact (standing.setOwed _ _).latch _ _
  unfold Machine.entryOccupied
  (repeat' split)
  · exact entered _
  · exact law.latch _ _
  · exact law.latch _ _

theorem berthOccupied (x : Line) (c : TrackId) : HoldLaw judged (berthOccupied x c s) := by
  unfold Machine.berthOccupied
  (repeat' split)
  · exact ((law.updTrain _ _).setInstrument _ _).latch _ _
  · exact law
  · exact (law.updTrain _ _).latch _ _
  · exact law
  all_goals exact law.latch _ _

theorem trainOccupation (c : TrackId) : HoldLaw judged (trainOccupation c s) := by
  refine forEachLine_keeps (fun x t law => ?_) s law
  have entry : HoldLaw judged (if (t.cfg.lines.get x).entryCircuit = some c then
      Machine.entryOccupied x c t else t) := by
    split
    · exact law.entryOccupied x c
    · exact law
  have berth {u : State} (law : HoldLaw judged u) : HoldLaw judged
      (if (u.cfg.lines.get x).berth = some c then Machine.berthOccupied x c u else u) := by
    split
    · exact law.berthOccupied x c
    · exact law
  exact berth entry

theorem arriveInbound (x : Line) (r : TrainId) : HoldLaw judged (arriveInbound x r s) :=
  (law.updTrain _ _).retireClearing _

theorem trainClearance (c : TrackId) : HoldLaw judged (trainClearance c s) := by
  refine forEachLine_keeps (fun x t law => ?_) s law
  unfold berthCleared
  (repeat' split)
  · exact (law.arriveInbound _ _).latch _ _
  all_goals exact law

/-! ### Lapses -/

theorem dropOutbound (r : TrainId) (lapsed : Bool) : HoldLaw judged (dropOutbound r lapsed s) := by
  unfold Machine.dropOutbound
  dsimp only
  (repeat' split)
  · exact (law.updTrain _ _).setStanding _ _
  all_goals exact law.updTrain _ _

theorem lapseInbound (r : TrainId) : HoldLaw judged (lapseInbound r s) := by
  unfold Machine.lapseInbound
  refine (retirementCheck ?_ r).latchChange r
  (repeat' split)
  · exact (law.updTrain _ _).setInstrument _ _
  all_goals exact law.updTrain _ _

/-! ### Arrivals and the pickup expiry -/

/-- R22, R32: the track part of an arrival reaches the Hold Table by its occupation events only. -/
theorem takeTrackPart : HoldLaw judged (takeTrackPart s) := by
  have moved : HoldLaw judged (writeLamps (neighbourChecks s (stepCircuits s))) :=
    law.of_eq (by simp) (by simp) (by simp) (by simp)
  unfold Machine.takeTrackPart occupationEvents
  dsimp only
  split
  · refine forEach_keeps (fun c t law => ?_) _ moved
    split
    · exact ((workKeeps judged).routeOccupation law c).trainOccupation c
    · exact law
  · exact moved

theorem deliverArrival (m : Continuity) : HoldLaw judged (deliverArrival m s) :=
  (workKeeps judged).takeLeverPart law.takeTrackPart m

theorem clearanceEvents (before : State) : HoldLaw judged (clearanceEvents before s) := by
  unfold Machine.clearanceEvents
  split
  · refine forEach_keeps (fun c t law => ?_) s law
    split
    · exact ((workKeeps judged).releasePasses law).trainClearance c
    · exact law
  · exact law

theorem setSbc (b : ScanBus) : HoldLaw judged (s.setSbc b) := law.of_eq rfl rfl rfl rfl

/-- R9 to R14: the judgement of a frame. -/
theorem judgeFrame (f : Frame) (sdi : BitVec 192) : HoldLaw judged (judgeFrame f sdi s) := by
  unfold Machine.judgeFrame
  (repeat' split)
  · exact law.setSbc _
  · have taken := law.setSbc (s.sbc.takeGood (f.image sdi))
    unfold afterGood
    (repeat' split)
    · exact (taken.setSbc _).deliverArrival _
    · exact taken
    · exact (taken.setSbc _).deliverArrival _
    · exact taken
    · exact taken.deliverArrival _
    · exact taken
  · have taken := law.setSbc s.sbc.takeBad
    unfold afterBad
    split
    · exact taken.of_eq (by simp) (by simp) (by simp) (by simp)
    · exact taken

/-! ### The sampling of a line -/

theorem sampleBell (x : Line) (level : Bool) : HoldLaw judged (sampleBell x level s) := by
  have sampled := law.of_eq (t := s.updBell x fun b => b.sample s.cfg.timing s.tb.tickCount level)
    rfl rfl rfl rfl
  unfold Machine.sampleBell
  dsimp only
  split
  · exact sampled.updLine_kept rfl
  · exact sampled

omit law in
/-- R127: a sample of INSTR_IN leaves the settled reading. -/
theorem blockCondition_sample (b : BlockLine) (r : RawReading) :
    (b.sample r).blockCondition = b.blockCondition := by
  unfold BlockLine.sample
  (repeat' split) <;> rfl

theorem takeTick (a b c : LineInputs) : HoldLaw judged (takeTick a b c s) := by
  have line (x : Line) (inputs : LineInputs) {u : State} (law : HoldLaw judged u) :
      HoldLaw judged (sampleLine x inputs u) := by
    unfold sampleLine
    dsimp only
    split
    · exact law.updLine_kept (blockCondition_sample _ _)
    · exact (law.sampleBell _ _).updLine_kept (blockCondition_sample _ _)
  exact line .c c (line .b b (line .a a (law.of_eq rfl rfl rfl rfl)))

end HoldLaw
end Sys2Proof.Machine

/-! The law for the block hold over the owners of the requests and over the events. -/

namespace Sys2Proof.Machine

namespace HoldLaw
variable {judged : Line → Prop} {s : State}

/-- R136: in CONFIG the law asks for an empty Hold Table. -/
theorem of_empty {t : State} (config : t.device = .config) (empty : ∀ h : HoldId, t.ht[h] = none) :
    HoldLaw judged t :=
  (blockHoldLaw_iff.mp (blockHoldLaw_of_empty config empty)).mono fun _ _ => trivial

/-! ### ENTER_SERVICE -/

/-- R135, R140: the block condition of no line holds at the start of the box. -/
theorem blockCondition_starts (b : BlockLine) : b.starts.blockCondition = false := by
  simp [BlockLine.blockCondition, BlockLine.starts]

/-- R77, R182: with a starter for each line, the box starts with the three block holds. -/
theorem enterService (sound : s.cfg.offendingItem = none) : HoldLaw judged (enterService s) := by
  obtain ⟨device, -, -, -, -, blc, -⟩ := enterService_blocks s
  obtain ⟨-, -, -, cfg, -, -, -, -⟩ := enterService_frame s
  obtain ⟨blocks, noHold⟩ := enterService_holds s
  have created (x : Line) : ∃ l, (Machine.enterService s).ht[blockEntry x] =
      some ⟨.block x, l, .normal, s.tb.clock⟩ := by
    obtain ⟨l, starter⟩ := starter_of_sound sound x
    exact ⟨l, blocks x l starter⟩
  constructor
  · intro h hold live
    by_cases out : h.val < 64 ∨ 67 ≤ h.val
    · rw [noHold h out] at live
      cases live
    · obtain ⟨x, rfl⟩ := eq_blockEntry_of_val (by omega) (by omega : h.val < 67)
      obtain ⟨l, block⟩ := created x
      rw [block] at live
      cases live
      exact rfl
  · intro _ x
    obtain ⟨l, starter⟩ := starter_of_sound sound x
    rw [cfg, starter]
    simp
  · intro _ x _
    obtain ⟨l, block⟩ := created x
    rw [block, blc, PerLine.get_map, blockCondition_starts]
    simp
  · intro config
    rw [device] at config
    cases config

theorem takeEnterService (law : HoldLaw judged s) : HoldLaw judged (takeEnterService s).1 := by
  unfold Machine.takeEnterService
  (repeat' split)
  case h_2 sound _ _ => exact enterService sound
  all_goals exact law

/-! ### Requests -/

section
variable (law : HoldLaw judged s)
include law

/-- R180: a load writes tables in CONFIG only, where no hold exists. -/
theorem inConfig {take : State → State × Reply}
    (owner : (take s).1.device = s.device ∧ (take s).1.ht = s.ht) :
    HoldLaw judged (inConfig take s).1 := by
  unfold Machine.inConfig
  split
  · exact law
  · next out =>
    have config : s.device = .config := by cases d : s.device <;> simp_all
    obtain ⟨device, ht⟩ := owner
    exact of_empty (device.trans config) fun h => ht ▸ law.outside config h

/-- A request about a record changes nothing when it is refused, and does what its own rule does in
SERVICE. -/
theorem withRecord (train : Nat) {k : TrainId → Train → State → State × Reply}
    (owner : ∀ r t, HoldLaw judged (k r t s).1) : HoldLaw judged (withRecord train k s).1 := by
  unfold Machine.withRecord
  (repeat' split)
  · exact law
  · exact law
  · exact law
  · exact owner _ _

/-- R73: a bar stands in the shared area or in the bar reserve. -/
theorem takePlaceBar (lever position : Nat) (reason : Byte) :
    HoldLaw judged (takePlaceBar lever position reason s).1 := by
  unfold Machine.takePlaceBar
  split
  · exact law
  · next service =>
    split
    · exact law
    · exact law
    · split
      · exact law
      · split
        · exact law.latch _ _
        · next h entry =>
          have allowed : holdAllowed h (.bar reason) := (barEntry_lowest entry).2.1
          refine law.updHold (holdAllowed_ne_blockEntry allowed (by simp)) (fun hold e => ?_)
            (fun config => absurd config service)
          cases e
          exact allowed

theorem takeRemoveBar (number : Nat) : HoldLaw judged (takeRemoveBar number s).1 := by
  unfold Machine.takeRemoveBar
  split
  · exact law
  · split
    · exact law
    · split
      · next live =>
        exact law.updHold (holdAllowed_ne_blockEntry (law.areas _ _ live) (by simp)) (by simp)
          fun _ => rfl
      · exact law

/-- R153: the CLEARING group created, kept or retired again. -/
theorem acceptGroup (x : Line) (r : TrainId) (d : Option Description) (heard : List Nat) :
    HoldLaw judged (acceptGroup x r d heard s).1 := by
  have group := law.createGroup (entries := clearingGroup x s) (.line x) fun e m h low => by
    obtain ⟨k, -, rfl⟩ := List.mem_map.mp m
    exact low
  unfold Machine.acceptGroup
  split <;> (rename_i e; rw [e] at group)
  · split
    · exact group.retireClearing x
    · exact (updTrain (group.of_eq (by simp) (by simp) (by simp) (by simp)) r _).setInstrument x _
  · exact group
  · exact group

theorem takeAccept (r : Nat) (d : Option Description) : HoldLaw judged (takeAccept r d s).1 := by
  refine law.withRecord r fun r t => ?_
  (repeat' split)
  case h_2 => exact law.acceptGroup _ r d _
  all_goals exact law

theorem takeOffer (r x : Nat) : HoldLaw judged (takeOffer r x s).1 := by
  unfold Machine.takeOffer
  (repeat' split)
  case isFalse => exact ((law.takeEntrySend _ _).updTrain _ _).setStanding _ _
  all_goals exact law

theorem takeTailSeen (r : Nat) : HoldLaw judged (takeTailSeen r s).1 := by
  refine law.withRecord r fun r t => ?_
  (repeat' split)
  · exact law.updTrain _ _
  · exact (law.arriveInbound _ _).updTrain _ _
  all_goals exact law

theorem takeOutOfSection (r : Nat) : HoldLaw judged (takeOutOfSection r s).1 := by
  refine law.withRecord r fun r t => ?_
  (repeat' split)
  case isFalse =>
    exact (((law.takeEntrySend _ _).updTrain _ _).setInstrument _ _).retirementCheck _
  all_goals exact law

theorem takeCancelOffer (r : Nat) : HoldLaw judged (takeCancelOffer r s).1 := by
  refine law.withRecord r fun r t => ?_
  (repeat' split)
  case isFalse => exact ((law.takeEntrySend _ _).dropOutbound _ _).retirementCheck _
  all_goals exact law

theorem takeRestoreLine (x : Nat) : HoldLaw judged (takeRestoreLine x s).1 := by
  unfold Machine.takeRestoreLine
  split
  · exact law
  · split
    · exact law
    · split
      · dsimp only
        exact law.updLine_kept rfl
      · exact law

theorem takeScanStop : HoldLaw judged (takeScanStop s).1 := by
  unfold Machine.takeScanStop stopScan
  dsimp only
  (repeat' split) <;> exact law.of_eq (by simp) (by simp) (by simp) (by simp)

/-- What the owner of a request does keeps the law. -/
theorem handRequest (i : Instr) : HoldLaw judged (handRequest i s).1 := by
  cases i
  case loadSlots | loadLever | loadRoute | loadTrack | loadLine | loadCode | loadTiming =>
    refine law.inConfig ?_
    dsimp only
    (repeat' split) <;> simp [loadTimingSet]
  case enterService => exact law.takeEnterService
  case restart => exact of_empty rfl fun h => Vector.getElem_replicate _
  case scanStop => exact law.takeScanStop
  case placeBar => exact law.takePlaceBar _ _ _
  case removeBar => exact law.takeRemoveBar _
  case accept => exact law.takeAccept _ _
  case offer => exact law.takeOffer _ _
  case tailSeen => exact law.takeTailSeen _
  case outOfSection => exact law.takeOutOfSection _
  case cancelOffer => exact law.takeCancelOffer _
  case restoreLine => exact law.takeRestoreLine _
  case retireTrain =>
    refine law.withRecord _ fun r t => ?_
    split
    · exact law
    · exact law.updRecord _ _
  case readLever | readTrack | readRoute | readHold | listHolds | readLine | readCode | readTrain =>
    simp only [Machine.handRequest, atOnce, takeReadLever, takeReadTrack, takeReadRoute, takeReadHold,
      takeListHolds, takeReadLine, takeReadCode, takeReadTrain]
    (repeat' split) <;> exact law
  case loadAttention | scanStart | clearMark | timedRelease | createTrain | setDestination
      | acknowledge | sendCode | releaseCode | clearAttention | setClock =>
    simp only [Machine.handRequest, atOnce, takeLoadAttention, takeScanStart, takeClearMark,
      takeTimedRelease, takeCreateTrain, takeSetDestination, takeAcknowledge, takeSendCode,
      takeReleaseCode, takeClearAttention, takeSetClock]
    (repeat' split) <;> exact law.of_eq (by simp) (by simp) (by simp) (by simp)
  all_goals exact law

/-! ### Events -/

theorem clearDue : HoldLaw judged (clearDue s) :=
  law.of_eq (by simp) (by simp) (by simp) (by simp)

theorem quietWaitEnd (x : Line) {t : State} (run : execQuietWaitEnd x s = .next t) :
    HoldLaw judged t := by
  unfold execQuietWaitEnd at run
  split at run <;> cases run
  · exact ((law.updLine x _).latch _ _).rejudge_updLine
  · exact law

theorem lapseExpiry (r : TrainId) (h : Half) {t : State} (run : execLapseExpiry r h s = .next t) :
    HoldLaw judged t := by
  unfold execLapseExpiry at run
  (repeat' split at run) <;> cases run
  · exact law.lapseInbound r
  · exact ((law.dropOutbound r true).retirementCheck r).latchChange r
  · exact law

/-- What an event does keeps the law. -/
theorem exec_event {i : Instr} {t : State} (event : isEvent i = true) (run : exec i s = .next t) :
    HoldLaw judged t := by
  cases i
  case fullReset => cases run; exact of_empty rfl reset_hold
  case tick a b c => cases run; exact law.takeTick a b c
  case pickupExpiry =>
    cases run
    exact law.clearDue.clearanceEvents s
  case quietWaitEnd x => exact law.quietWaitEnd x run
  case lapseExpiry r h => exact law.lapseExpiry r h run
  case frameJudge sdi =>
    change execFrameJudge sdi s = _ at run
    unfold execFrameJudge at run
    split at run <;> cases run
    · exact law.judgeFrame _ _
    · exact law
  case codeEnd x =>
    change execCodeEnd x s = _ at run
    unfold execCodeEnd at run
    split at run <;> cases run
    · exact law.endCode _ _
    · exact law
  case instrumentSettling x =>
    change execInstrumentSettling x s = _ at run
    unfold execInstrumentSettling at run
    split at run <;> cases run
    · exact law.settle _ _
    · exact law
  case blankingEnd x level =>
    change execBlankingEnd x level s = _ at run
    unfold execBlankingEnd at run
    split at run <;> cases run
    · exact (law.updBell _ _).sampleBell _ _
    · exact law
  case approachExpiry l =>
    change execApproachExpiry l s = _ at run
    unfold execApproachExpiry at run
    split at run <;> cases run
    · exact (workKeeps judged).makeIdle law
    · exact law
  case emergencyExpiry l =>
    change execEmergencyExpiry l s = _ at run
    unfold execEmergencyExpiry at run
    split at run <;> cases run
    · exact latch ((workKeeps judged).makeIdle ((workKeeps judged).clearMarks law _)) _ _
    · exact law
  case tenthBoundary | frameOpen | closingFrame | closingSync =>
    simp only [exec, execTenthBoundary, execFrameOpen, execClosingFrame, execClosingSync] at run
    split at run <;> cases run
    · exact law.of_eq rfl rfl rfl rfl
    · exact law
  case strokeTimeout | repetitionDeadlineExpiry | sendCompletion =>
    simp only [exec, execStrokeTimeout, execRepetitionDeadlineExpiry, execSendCompletion] at run
    split at run <;> cases run
    · exact law.of_eq (by simp) (by simp) (by simp) (by simp)
    · exact law
  all_goals cases event

end

end HoldLaw

/-- Settles O53: the law, line by line, is kept by every owner's rule and by every event. -/
theorem stepKeepsTheBlockHoldLaw : Obligations.StepKeepsTheBlockHoldLaw := by
  intro s t law run
  refine blockHoldLaw_iff.mpr (step_keeps (fun _ _ _ _ law => law.of_eq rfl rfl rfl rfl)
    (fun i _ law => law.handRequest i) (fun _ _ _ event law run => law.exec_event event run)
    (blockHoldLaw_iff.mp law) run)

end Sys2Proof.Machine

/-! ACCEPT: its tests in order, the group of clearing holds, and the acceptance. -/

namespace Sys2Proof.Machine

/-! ### A request about a train record -/

open Function (IsPartialInv)

theorem trainOf_inverse : IsPartialInv (fun r : TrainId => r.val + 1) trainOf := by
  intro r n
  unfold trainOf
  split
  · simp only [Option.some.injEq, Fin.ext_iff]
    omega
  · simp only [reduceCtorEq, false_iff]
    omega

theorem trainOf_eq_none {n : Nat} : trainOf n = none ↔ n = 0 ∨ 12 < n := by
  simp only [trainOf, dite_eq_right_iff, reduceCtorEq, imp_false]
  omega

section
variable {s : State} {k : TrainId → Train → State → State × Reply}

theorem withRecord_config (config : s.device = .config) (n : Nat) :
    withRecord n k s = (s, .state) := if_pos config

variable (service : s.device = .service)
include service

theorem withRecord_range {n : Nat} (out : n = 0 ∨ 12 < n) :
    withRecord n k s = (s, .badArgument 1) := by
  rw [withRecord, if_neg (by simp [service]), trainOf_eq_none.mpr out]

theorem withRecord_free {r : TrainId} (empty : s.trt.records[r] = none) :
    withRecord (r.val + 1) k s = (s, .noRecord) := by
  rw [withRecord, if_neg (by simp [service]), trainOf_inverse.eq r]
  dsimp only
  rw [empty]

/-- A request about a live record is its own rule's to take. -/
theorem withRecord_live {r : TrainId} {v : Train} (live : s.trt.records[r] = some v) :
    withRecord (r.val + 1) k s = k r v s := by
  rw [withRecord, if_neg (by simp [service]), trainOf_inverse.eq r]
  dsimp only
  rw [live]

end

/-! ### The tests of ACCEPT -/

/-- R153 orders 7 on: the conditions of the line, then its clearing levers, then the group. -/
def acceptTests (x : Line) (r : TrainId) (d : Option Description) (heard : List Nat) (s : State) :
    State × Reply :=
  match firstFailing (s.condition s.recorded) 1 (s.cfg.lines.get x).conditions with
  | some place => (s, .condition place)
  | none =>
    match firstFailing (fun e => s.stands s.recorded e.1 e.2) 13 (s.cfg.lines.get x).clearing with
    | some place => (s, .condition place)
    | none => acceptGroup x r d heard s

section
variable {s : State} {r : TrainId} {v : Train} (d : Option Description)
  (service : s.device = .service) (live : s.trt.records[r] = some v)
include service live

/-- R153 order 4: an inbound half that is not OFFERED. -/
theorem takeAccept_notOffered (other : v.inbound ≠ .offered) :
    takeAccept (r.val + 1) d s = (s, .state) := by
  rw [takeAccept, withRecord_live service live]
  split
  · next offered _ => exact absurd offered other
  · rfl

variable {x : Line} (offered : v.inbound = .offered) (on : v.arrivalLine = some x)
include offered on

/-- R153 orders 5 and 6: a SUSPENDED line, and an IN instrument that is not BLOCKED. -/
theorem takeAccept_shut (shut : 255 ≤ (s.blc.get x).count ∨ (s.blc.get x).inInstrument ≠ .blocked) :
    takeAccept (r.val + 1) d s = (s, .state) := by
  rw [takeAccept, withRecord_live service live]
  simp only [offered, on]
  split
  · rfl
  · next suspended =>
    rw [suspended_iff] at suspended
    rw [if_pos (shut.resolve_left suspended)]

variable (ready : ¬(255 ≤ (s.blc.get x).count ∨ (s.blc.get x).inInstrument ≠ .blocked))
include ready

/-- R153 orders 7 on. -/
theorem takeAccept_ready : takeAccept (r.val + 1) d s =
    acceptTests x r d (v.offerHeard.getD []) s := by
  obtain ⟨active, blocked⟩ := not_or.mp ready
  rw [takeAccept, withRecord_live service live]
  simp only [offered, on]
  rw [if_neg (suspended_iff.not.mpr active), if_neg blocked]
  rfl

end

section
variable {s : State} {x : Line} (r : TrainId) (d : Option Description) (heard : List Nat)

/-- R153 order 7: a condition of the line that fails. -/
theorem acceptTests_condition {before after : List Condition} {c : Condition}
    (conditions : (s.cfg.lines.get x).conditions = before ++ c :: after)
    (pass : ∀ k ∈ before, s.condition s.recorded k = true) (fail : s.condition s.recorded c = false) :
    acceptTests x r d heard s = (s, .condition (before.length + 1)) := by
  rw [acceptTests, conditions, firstFailing_append pass fail, Nat.add_comm]

variable (met : ∀ c ∈ (s.cfg.lines.get x).conditions, s.condition s.recorded c = true)
include met

/-- R153 order 8: a clearing lever that is out of place. -/
theorem acceptTests_lever {before after : List (LeverId × EndPos)} {e : LeverId × EndPos}
    (clearing : (s.cfg.lines.get x).clearing = before ++ e :: after)
    (pass : ∀ k ∈ before, s.stands s.recorded k.1 k.2 = true)
    (fail : s.stands s.recorded e.1 e.2 = false) :
    acceptTests x r d heard s = (s, .condition (before.length + 13)) := by
  rw [acceptTests, firstFailing_eq_none.mpr met]
  dsimp only
  rw [clearing, firstFailing_append pass fail, Nat.add_comm]

/-- R153 orders 9 to 11: with every test met the group is judged. -/
theorem acceptTests_met
    (placed : ∀ e ∈ (s.cfg.lines.get x).clearing, s.stands s.recorded e.1 e.2 = true) :
    acceptTests x r d heard s = acceptGroup x r d heard s := by
  rw [acceptTests, firstFailing_eq_none.mpr met]
  dsimp only
  rw [firstFailing_eq_none.mpr placed]

end

/-! ### The group of clearing holds -/

section
variable (x : Line) (s : State)

/-- R68: the numbers that the clearing holds of a line are given. -/
def clearingNumbers : List HoldId := (freeShared s.ht).take (s.cfg.lines.get x).clearing.length

/-- R68: the clearing holds of a line created. -/
def clearingHeld : State :=
  { s with ht := writeGroup s.tb.clock s.ht ((clearingNumbers x s).zip (clearingGroup x s)) }

theorem clearingGroup_length : (clearingGroup x s).length = (s.cfg.lines.get x).clearing.length :=
  List.length_map _

end

section
variable {x : Line} {s : State}

theorem clearingNumbers_free {h : HoldId} (given : h ∈ clearingNumbers x s) : s.ht[h] = none :=
  (mem_freeShared.mp (List.mem_of_mem_take given)).2

/-- R68: no other entry is written. -/
theorem clearingHeld_outside {h : HoldId} (out : h ∉ clearingNumbers x s) :
    (clearingHeld x s).ht[h] = s.ht[h] :=
  writeGroup_outside s.tb.clock _ s.ht fun _ m same => out (same ▸ (List.of_mem_zip m).1)

/-- R67, R70: with the group judged, the clearing holds are created or POOL is latched. -/
theorem createGroup_clearing (service : s.device = .service) :
    createGroup (clearingGroup x s) (.line x) s =
      if (s.cfg.lines.get x).clearing.length ≤ (freeShared s.ht).length
      then (.created (clearingNumbers x s), clearingHeld x s)
      else (.pool, latch .pool (.line x) s) := by
  rcases createGroup_cases (clearingGroup x s) (.line x) s with
    ⟨config, -⟩ | ⟨-, room, e⟩ | ⟨-, full, e⟩
  · rw [service] at config; cases config
  · rw [clearingGroup_length] at room e
    rw [if_pos room, e]
    rfl
  · rw [clearingGroup_length] at full
    rw [if_neg (by omega), e]

/-- R153 order 10: a group created and retired again leaves a line without clearing holds as it was. -/
theorem retireClearing_clearingHeld
    (none_ : ∀ (h : HoldId) (hold : Hold), s.ht[h] = some hold → hold.kind ≠ .clearing x) :
    retireClearing x (clearingHeld x s) = s := by
  have same (h : HoldId) (hold : Hold) :
      (retireClearing x (clearingHeld x s)).ht[h] = some hold ↔ s.ht[h] = some hold := by
    rw [retireClearing, retireWhere_live, ← Bool.not_eq_true, clearingOf_iff]
    constructor
    · rintro ⟨live, other⟩
      rcases writeGroup_entry s.tb.clock ((clearingNumbers x s).zip (clearingGroup x s)) s.ht h with
        kept | ⟨g, m, -, created⟩
      · exact kept.symm.trans live
      · obtain ⟨e, -, entry⟩ := List.mem_map.mp (List.of_mem_zip m).2
        have own := created.symm.trans live
        rw [← entry] at own
        cases own
        exact absurd rfl other
    · intro live
      have out : h ∉ clearingNumbers x s := fun given => by
        rw [clearingNumbers_free given] at live
        cases live
      exact ⟨(clearingHeld_outside out).trans live, none_ h hold live⟩
  have ht : (retireClearing x (clearingHeld x s)).ht = s.ht :=
    table_ext fun h => Option.ext (same h)
  calc retireClearing x (clearingHeld x s)
      = { s with ht := (retireClearing x (clearingHeld x s)).ht } := rfl
    _ = s := by rw [ht]

variable (room : (s.cfg.lines.get x).clearing.length ≤ (freeShared s.ht).length)
include room

theorem clearingNumbers_length : (clearingNumbers x s).length = (s.cfg.lines.get x).clearing.length := by
  rw [clearingNumbers, List.length_take, Nat.min_eq_left room]

/-- R68: each clearing lever has its hold under the number given to it. -/
theorem clearingHeld_inside {i : Nat} {h : HoldId} {e : LeverId × EndPos}
    (number : (clearingNumbers x s)[i]? = some h)
    (entry : (s.cfg.lines.get x).clearing[i]? = some e) :
    (clearingHeld x s).ht[h] = some ⟨.clearing x, e.1, e.2, s.tb.clock⟩ := by
  have size : (clearingNumbers x s).length = (clearingGroup x s).length :=
    (clearingNumbers_length room).trans (clearingGroup_length x s).symm
  refine writeGroup_inside s.tb.clock _ (e := ⟨.clearing x, e.1, e.2⟩) s.ht ?_ ?_
  · rw [List.map_fst_zip size.le]
    exact (freeShared_nodup s.ht).sublist (List.take_sublist _ _)
  · refine List.mem_iff_getElem?.mpr ⟨i, ?_⟩
    rw [List.getElem?_zip_eq_some]
    exact ⟨number, by simp [clearingGroup, entry]⟩

end

/-! ### The acceptance -/

/-- What a send is said to do is of the Bell Units, the attention records, the timing and the tick. -/
theorem SendTaken.of_eq {x : Line} {groups : List Nat} {entry : Option CodeId}
    {meaning : Option Meaning} {s t s' t' : State} (sent : SendTaken x groups entry meaning s t)
    (cfg : s'.cfg = s.cfg) (tb : s'.tb = s.tb) (bu : s'.bu = s.bu) (au : s'.au = s.au)
    (bu' : t'.bu = t.bu) (au' : t'.au = t.au) : SendTaken x groups entry meaning s' t' := by
  obtain ⟨started, blanked, discarded, levelLow, cleared, collision, buffers, others, latched,
    quietly⟩ := sent
  constructor
  case latched =>
    intro collided
    rw [bu'] at collided
    obtain ⟨pending, detail, multiple, settings, rest⟩ := latched collided
    constructor <;> simp only [au', au] <;> assumption
  all_goals (simp only [bu', au', bu, au, cfg, tb]; assumption)

section
variable {x : Line} {r : TrainId} {d : Option Description} {heard : List Nat} {s : State}

/-- R126, R153: the acceptance sends the repetition, and writes the half, the IN instrument and nothing
else. -/
theorem acceptOn_whole {v : Train} (live : s.trt.records[r] = some v) :
    SendTaken x heard none none s (acceptOn x r d heard s) ∧
    (acceptOn x r d heard s).trt.records[r] = some { v with
      inbound := .accepted, inLapse := none
      description := if d.isSome then d else v.description } ∧
    (∀ q : TrainId, q ≠ r → (acceptOn x r d heard s).trt.records[q] = s.trt.records[q]) ∧
    (acceptOn x r d heard s).trt.owed = s.trt.owed ∧
    (acceptOn x r d heard s).blc = s.blc.set x { s.blc.get x with inInstrument := .clear } ∧
    (acceptOn x r d heard s).ht = s.ht := by
  have trt : (acceptOn x r d heard s).trt = (s.updTrain r fun t => { t with
      inbound := .accepted, inLapse := none
      description := if d.isSome then d else t.description }).trt := by
    simp only [acceptOn, setInstrument_frame, State.updTrain_trt, takeSend_frame]
  refine ⟨(takeSend_taken x heard none none s).of_eq rfl rfl rfl rfl rfl rfl, ?_, fun q other => ?_,
    ?_, ?_, ?_⟩
  · rw [trt, State.updTrain_trt, tableUpdate_get_self, live]
    rfl
  · rw [trt, State.updTrain_trt, tableUpdate_get_ne _ _ other]
  · rw [trt]
    rfl
  · simp only [acceptOn, setInstrument, State.updLine_blc, State.updTrain_blc, takeSend_frame]
  · simp only [acceptOn, setInstrument_frame, State.updTrain_ht, takeSend_frame]

variable (service : s.device = .service)
include service

/-- R70, R153 order 9: without room for the group. -/
theorem acceptGroup_full (full : ¬(s.cfg.lines.get x).clearing.length ≤ (freeShared s.ht).length) :
    acceptGroup x r d heard s = (latch .pool (.line x) s, .pool) := by
  rw [acceptGroup, createGroup_clearing service, if_neg full]

variable (room : (s.cfg.lines.get x).clearing.length ≤ (freeShared s.ht).length)
include room

/-- R153 order 10: a sender that is SENDING. -/
theorem acceptGroup_busy (sending : (s.bu.get x).sender ≠ none) :
    acceptGroup x r d heard s = (retireClearing x (clearingHeld x s), .busy) := by
  rw [acceptGroup, createGroup_clearing service, if_pos room]
  exact if_pos (Option.isSome_iff_ne_none.mpr sending)

/-- R153 order 11: the acceptance and its answer. -/
theorem acceptGroup_taken (idle : (s.bu.get x).sender = none) :
    acceptGroup x r d heard s = (acceptOn x r d heard (clearingHeld x s), .done
      (BitVec.ofNat 8 (s.cfg.lines.get x).clearing.length ::
        (clearingNumbers x s).map (fun h => BitVec.ofNat 8 h.val) ++
          bytesTwo (sendLength s.cfg.timing heard))) := by
  rw [acceptGroup, createGroup_clearing service, if_pos room]
  dsimp only
  rw [if_neg (by simp [idle]), listBytes_bytesOne_map, clearingNumbers_length room]

end

/-- Settles O43: the tests in their order, then the group judged, then the acceptance. -/
theorem acceptCreatesTheClearingHolds : Obligations.AcceptCreatesTheClearingHolds := by
  intro s free
  refine ⟨fun n d config => serve_eq free (withRecord_config config n), fun service =>
    ⟨fun n d out => serve_eq free (withRecord_range service out),
      fun r d empty => serve_eq free (withRecord_free service empty),
      fun r v d live other => serve_eq free (takeAccept_notOffered d service live other), ?_⟩⟩
  intro r v x d live offered on answer line shut conditions levers room
  have tested (open_ : ¬shut) := takeAccept_ready d service live offered on open_
  have grouped (open_ : ¬shut) (met : conditions) (placed : levers) :=
    (tested open_).trans (acceptTests_met r d _ met placed)
  refine ⟨fun closed => serve_eq free (takeAccept_shut d service live offered on closed),
    fun before c after open_ list pass fail =>
      serve_eq free ((tested open_).trans (acceptTests_condition r d _ list pass fail)),
    fun before e after open_ met list pass fail =>
      serve_eq free ((tested open_).trans (acceptTests_lever r d _ met list pass fail)),
    fun open_ met placed full => ?full, fun open_ met placed fits sending none_ => ?busy,
    fun open_ met placed fits idle => ?taken⟩
  case full =>
    have refused := (grouped open_ met placed).trans (acceptGroup_full service full)
    obtain ⟨pending, detail, multiple, settings, others⟩ := latch_latched .pool (.line x) s
    exact ⟨_, serve_eq free refused, ⟨pending, detail, multiple, settings, others⟩, rfl⟩
  case busy =>
    have refused := (grouped open_ met placed).trans (acceptGroup_busy service fits sending)
    rw [retireClearing_clearingHeld none_] at refused
    exact serve_eq free refused
  case taken =>
    have taken := (grouped open_ met placed).trans (acceptGroup_taken service fits idle)
    obtain ⟨sent, record, records, owed, blc, ht⟩ := acceptOn_whole (x := x) (r := r) (d := d)
      (heard := v.offerHeard.getD []) (s := clearingHeld x s) live
    refine ⟨_, clearingNumbers x s, serve_eq free taken, rfl, fun i h e number entry => ?_,
      fun h out => ?_, sent.of_eq rfl rfl rfl rfl rfl rfl,
      record.trans (by cases d <;> rfl), records, owed, blc, ?_⟩
    · rw [State.holding_ht, ht]
      exact clearingHeld_inside fits number entry
    · rw [State.holding_ht, ht]
      exact clearingHeld_outside out
    · simp only [State.holding, acceptOn_frame, clearingHeld]
      rfl

end Sys2Proof.Machine

/-! The law for route holds: what the writers of the Hold Table and the operations of the Route Unit
do to it. -/

namespace Sys2Proof.Machine

/-! ### What leaves the law alone -/

/-- R83: the law for every route but that of lever `l`, which is being written. -/
def IdleRouteLawBut (l : LeverId) (s : State) : Prop :=
  ∀ (h : HoldId) (hold : Hold) (k : LeverId) (c : TrackId), s.ht[h] = some hold →
    hold.kind = .route k c → k ≠ l → s.ru[k].state ≠ .idle

/-- Between two states no ROUTE hold is created and no route becomes IDLE. -/
structure RoutesHeld (s t : State) : Prop where
  holds : ∀ (h : HoldId) (hold : Hold) (k : LeverId) (c : TrackId), t.ht[h] = some hold →
    hold.kind = .route k c → s.ht[h] = some hold
  idle : ∀ k : LeverId, t.ru[k].state = .idle → s.ru[k].state = .idle

theorem IdleRouteLaw.of_held {s t : State} (law : IdleRouteLaw s) (held : RoutesHeld s t) :
    IdleRouteLaw t :=
  fun h hold k c live kind idle =>
    law h hold k c (held.holds h hold k c live kind) kind (held.idle k idle)

theorem IdleRouteLawBut.of_held {s t : State} {l : LeverId} (law : IdleRouteLawBut l s)
    (held : RoutesHeld s t) : IdleRouteLawBut l t :=
  fun h hold k c live kind ne idle =>
    law h hold k c (held.holds h hold k c live kind) kind ne (held.idle k idle)

theorem RoutesHeld.of_eq {s t : State} (ht : t.ht = s.ht) (ru : t.ru = s.ru) : RoutesHeld s t :=
  ⟨fun _ _ _ _ live _ => ht ▸ live, fun _ idle => ru ▸ idle⟩

/-- R67: a hold after a group was there before it, or is of the kind of one of its entries. -/
theorem createGroup_hold {entries : List GroupEntry} {who : Detail} {s : State} {h : HoldId}
    {hold : Hold} (live : (createGroup entries who s).2.ht[h] = some hold) :
    s.ht[h] = some hold ∨ ∃ e ∈ entries, hold.kind = e.kind := by
  rcases createGroup_cases entries who s with ⟨-, e⟩ | ⟨-, -, e⟩ | ⟨-, -, e⟩ <;> rw [e] at live
  · exact .inl live
  · dsimp only at live
    rcases writeGroup_entry s.tb.clock _ s.ht h with kept | ⟨g, m, -, created⟩
    · exact .inl (kept ▸ live)
    · rw [created] at live
      cases live
      exact .inr ⟨g.2, (List.of_mem_zip m).2, rfl⟩
  · exact .inl (by simpa using live)

/-! ### A route that is being written -/

namespace IdleRouteLawBut
variable {l : LeverId} {s : State} (law : IdleRouteLawBut l s)
include law

theorem of_eq {t : State} (ht : t.ht = s.ht) (ru : t.ru = s.ru) : IdleRouteLawBut l t :=
  law.of_held (.of_eq ht ru)

theorem updRoute (f : Route → Route) : IdleRouteLawBut l (s.updRoute l f) :=
  fun h hold k c live kind ne => by
    rw [State.updRoute_ru, tableUpdate_get_ne _ _ ne]
    exact law h hold k c live kind ne

theorem latch (src : Source) (d : Detail) : IdleRouteLawBut l (latch src d s) :=
  law.of_eq (by simp) (by simp)

theorem clearMarks (cs : List TrackId) : IdleRouteLawBut l (clearMarks cs s) :=
  law.of_eq (by simp) (by simp)

/-- R67: the group of the route's own holds. -/
theorem createGroup (cfg : RouteConfig) (who : Detail) :
    IdleRouteLawBut l (createGroup (routeGroup l cfg) who s).2 := by
  intro h hold k c live kind ne
  simp only [createGroup_frame]
  rcases createGroup_hold live with was | ⟨e, m, own⟩
  · exact law h hold k c was kind ne
  · obtain ⟨p, -, rfl⟩ := List.mem_map.mp m
    rw [own] at kind
    cases kind
    exact absurd rfl ne

/-- A route that is not IDLE may own holds. -/
theorem law_of_busy (busy : s.ru[l].state ≠ .idle) : IdleRouteLaw s :=
  fun h hold k c live kind => by
    by_cases own : k = l
    · exact own ▸ busy
    · exact law h hold k c live kind own

theorem setRouteState {st : RouteState} (busy : st ≠ .idle) :
    IdleRouteLaw (setRouteState l st s) := by
  refine (law.updRoute _).law_of_busy ?_
  rw [State.updRoute_ru, tableUpdate_get_self]
  exact busy

/-- R83: a route made IDLE gives up its holds. -/
theorem makeIdle : IdleRouteLaw (makeIdle l s) := by
  intro h hold k c live kind
  obtain ⟨was, notOwn⟩ := makeIdle_holds.mp live
  have ne : l ≠ k := fun own => notOwn c (own ▸ kind)
  rw [makeIdle_route, if_neg ne]
  exact law h hold k c was kind (Ne.symm ne)

theorem faultRoute (c : FaultCause) : IdleRouteLaw (faultRoute l c s) := by
  have faulted := (law.updRoute fun r => { r with cause := some c }).setRouteState
    (st := .sequenceFault) nofun
  exact faulted.of_held (.of_eq (by simp [Machine.faultRoute]) (by simp [Machine.faultRoute]))

end IdleRouteLawBut

/-! ### The writers -/

namespace IdleRouteLaw

/-- What keeps the law at each of its turns keeps it as a pass. -/
theorem pass {n : Nat} {f : Fin n → State → State}
    (turns : ∀ i s, IdleRouteLaw s → IdleRouteLaw (f i s)) (s : State) (law : IdleRouteLaw s) :
    IdleRouteLaw (forEach n f s) := forEach_keeps (P := IdleRouteLaw) turns s law

/-- What both branches meet. -/
theorem branch {c : Prop} [Decidable c] {s t : State} (yes : IdleRouteLaw s) (no : IdleRouteLaw t) :
    IdleRouteLaw (if c then s else t) := by
  split
  · exact yes
  · exact no

variable {s : State} (law : IdleRouteLaw s)
include law

/-- Every route meets the law, so every other route than that of `l` does. -/
theorem lawBut (l : LeverId) : IdleRouteLawBut l s :=
  fun h hold k c live kind _ => law h hold k c live kind

theorem of_eq {t : State} (ht : t.ht = s.ht) (ru : t.ru = s.ru) : IdleRouteLaw t :=
  law.of_held (.of_eq ht ru)

theorem latch (src : Source) (d : Detail) : IdleRouteLaw (latch src d s) :=
  law.of_eq (by simp) (by simp)

theorem setSbc (b : ScanBus) : IdleRouteLaw (s.setSbc b) := law

theorem updRoute {l : LeverId} {f : Route → Route}
    (kept : (f s.ru[l]).state = .idle → s.ru[l].state = .idle) : IdleRouteLaw (s.updRoute l f) := by
  refine law.of_held ⟨fun _ _ _ _ live _ => live, fun k idle => ?_⟩
  rw [State.updRoute_ru, tableUpdate_get] at idle
  split at idle
  · next own => exact own ▸ kept (own ▸ idle)
  · exact idle

/-- R71: a retirement. -/
theorem retireWhere (p : Hold → Bool) : IdleRouteLaw (retireWhere p s) :=
  law.of_held ⟨fun _ _ _ _ live _ => (retireWhere_live.mp live).1,
    fun k idle => by simpa using idle⟩

/-- An entry of the Hold Table freed, or given a hold of another kind. -/
theorem updHold (h : HoldId) {v : Option Hold}
    (other : ∀ hold k c, v = some hold → hold.kind ≠ .route k c) :
    IdleRouteLaw (s.updHold h v) := by
  refine law.of_held ⟨fun j hold k c live kind => ?_, fun _ idle => idle⟩
  rw [State.updHold_ht, tableUpdate_get] at live
  split at live
  · exact absurd kind (other hold k c live)
  · exact live

/-- R69: a block hold is no ROUTE hold. -/
theorem ensureBlock (x : Line) : IdleRouteLaw (ensureBlock x s) := by
  unfold Machine.ensureBlock
  split
  · refine law.updHold _ fun hold k c e => ?_
    cases e
    nofun
  · exact law

theorem rejudge (x : Line) : IdleRouteLaw (rejudge x s) := by
  rcases rejudge_cases x s with ⟨-, e⟩ | ⟨-, -, e⟩ | ⟨-, -, e⟩ <;> rw [e]
  · exact law
  · exact law.updHold _ nofun
  · exact law.ensureBlock x

/-! ### Routes -/

variable {l : LeverId}

theorem setRouteState {st : RouteState} (busy : st ≠ .idle) :
    IdleRouteLaw (setRouteState l st s) := (law.lawBut l).setRouteState busy

theorem makeIdle : IdleRouteLaw (makeIdle l s) := (law.lawBut l).makeIdle

theorem faultRoute (c : FaultCause) : IdleRouteLaw (faultRoute l c s) := (law.lawBut l).faultRoute c

/-- R82: a route that takes holds becomes GRANTED. -/
theorem routeRequest : IdleRouteLaw (routeRequest l s).2 := by
  have group := (law.lawBut l).createGroup s.cfg.routes[l] (.lever l)
  unfold Machine.routeRequest
  split
  · exact law
  · split
    · exact law
    · rcases createGroup_cases (routeGroup l s.cfg.routes[l]) (.lever l) s with
        ⟨-, e⟩ | ⟨-, -, e⟩ | ⟨-, -, e⟩ <;> rw [e] at group ⊢
      · exact law
      · exact ((group.updRoute _).clearMarks _).setRouteState nofun
      · exact law.latch _ _

theorem routeWithdrawn : IdleRouteLaw (routeWithdrawn l s) :=
  branch law.makeIdle law

theorem leftNormalGranted : IdleRouteLaw (leftNormalGranted l s) :=
  branch (law.setRouteState nofun) law

/-- R86: the holds of an escape, before the route is SET. -/
theorem escapeFromIdle : IdleRouteLawBut l (escapeFromIdle l s) := by
  have group := (law.lawBut l).createGroup s.cfg.routes[l] (.lever l)
  unfold Machine.escapeFromIdle
  refine IdleRouteLawBut.clearMarks ?_ _
  split
  · exact (law.lawBut l).updRoute _
  · split <;> (rename_i e; rw [e] at group; exact group.updRoute _)

theorem routeEscape : IdleRouteLaw (routeEscape l s) := by
  have held : IdleRouteLawBut l (if s.ru[l].state = .idle then Machine.escapeFromIdle l s
      else s.updRoute l fun r => { r with timer := none }) := by
    split
    · exact law.escapeFromIdle
    · exact (law.lawBut l).updRoute _
  have escaped := (held.updRoute fun r => { r with escape := true }).latch .route (.lever l)
  exact escaped.setRouteState nofun

/-- R92: a section released gives up holds, and the route stays in its state. -/
theorem releaseSection (c : TrackId) : IdleRouteLaw (releaseSection l c s) := by
  refine law.of_held ⟨fun h hold k d live _ => ?_, fun k idle => ?_⟩
  · rw [releaseSection_hold] at live
    split at live
    · next was =>
      split at live
      · cases live
      · rw [was, live]
    · cases live
  · by_cases own : k = l
    · rw [own, releaseSection_route] at idle
      exact own ▸ idle
    · rwa [((OwnWork.refl l s).releaseSection c).routes k own] at idle

theorem releaseSections (n : Nat) : IdleRouteLaw (releaseSections l n s) := by
  induction n generalizing s with
  | zero => exact law
  | succ n ih =>
    unfold Machine.releaseSections
    split
    · exact law.makeIdle
    · split
      · exact ih (law.releaseSection _)
      · exact law

theorem releasePass : IdleRouteLaw (releasePass l s) :=
  branch (branch ((law.releaseSections _).faultRoute _) (law.releaseSections _)) law

omit l in
theorem releasePasses : IdleRouteLaw (releasePasses s) :=
  pass (fun _ _ law => releasePass law) s law

theorem startReleasing : IdleRouteLaw (startReleasing l s) :=
  (((law.lawBut l).updRoute _).setRouteState (st := .releasing) nofun).releasePass

/-- R87: the four ends of a return to NORMAL. -/
theorem routeReturned : IdleRouteLaw (routeReturned l s) := by
  unfold Machine.routeReturned returnDecision
  (repeat' split)
  · exact law.faultRoute _
  · exact law.startReleasing
  · exact ((law.lawBut l).updRoute _).setRouteState nofun
  · exact law.makeIdle
  · exact law

omit l in
theorem routeOccupation (c : TrackId) : IdleRouteLaw (routeOccupation c s) :=
  pass (fun _ _ law => branch law.startReleasing law) s law

omit l in
theorem restoreNotice : IdleRouteLaw (restoreNotice s) :=
  pass (fun _ _ law => branch (law.faultRoute _) law) s law

end IdleRouteLaw
end Sys2Proof.Machine

/-! The law for route holds over the lever part of an arrival: the Lever Lock Unit reaches the
routes by its request and its notices only. -/

namespace Sys2Proof.Machine

namespace IdleRouteLaw
variable {s : State} (law : IdleRouteLaw s) {l : LeverId}
include law

/-! ### The judgement of one lever -/

omit l in
theorem notice {f : State → State} (work : IdleRouteLaw (f s)) : IdleRouteLaw (notice f s) :=
  branch work law

omit l in
/-- R54: a notice that is handed under a condition. -/
theorem noticeIf {f : State → State} (c : Bool) (work : IdleRouteLaw (f s)) :
    IdleRouteLaw (if c then Machine.notice f s else s) :=
  branch (law.notice work) law

theorem updLever (f : Lever → Lever) : IdleRouteLaw (s.updLever l f) := law

theorem refuse (why : RefusalReason) : IdleRouteLaw (refuse l why s) :=
  law.of_eq (by simp) (by simp)

theorem leverFault (f : LeverFault) : IdleRouteLaw (leverFault l f s) :=
  (law.updLever _).latch _ _

/-- R43, R44: a lever that seeks a grant is refused, or asks its route. -/
theorem seekAtEnd : IdleRouteLaw (seekAtEnd l s) := by
  have asked (p : EndPos) : IdleRouteLaw (askRoute l p s) := by
    have request := law.routeRequest (l := l)
    unfold askRoute
    split
    · split <;> (rename_i e; rw [e] at request)
      · exact request.updLever _
      all_goals exact request.refuse _
    · exact law.updLever _
  unfold Machine.seekAtEnd seekGrant
  split
  · (repeat' split)
    · exact law.refuse _
    · exact law.refuse _
    · exact law.refuse _
    · exact law.refuse _
    · exact asked _
    · exact law
  · exact law

theorem withdrawGrant (p : EndPos) : IdleRouteLaw (withdrawGrant l p s) :=
  (law.updLever _).noticeIf _ (law.updLever _).routeWithdrawn

theorem withdrawFor (p : EndPos) (why : RefusalReason) : IdleRouteLaw (withdrawFor l p why s) :=
  ((law.refuse why).updLever _).withdrawGrant p

theorem retestGrant (p : EndPos) : IdleRouteLaw (retestGrant l p s) := by
  unfold Machine.retestGrant
  (repeat' split)
  · exact (law.updLever _).withdrawGrant p
  · exact law.withdrawFor p _
  · exact law.withdrawFor p _
  · exact law

theorem noticeReturned (e : EndPos) : IdleRouteLaw (noticeReturned l e s) :=
  law.noticeIf _ law.routeReturned

theorem arriveAt (p e : EndPos) : IdleRouteLaw (arriveAt l p e s) :=
  (law.updLever _).noticeReturned e

theorem beginStroke (p : EndPos) : IdleRouteLaw (beginStroke l p s) :=
  (law.updLever _).noticeIf _ (law.updLever _).leftNormalGranted

theorem leaveOrigin (p : EndPos) : IdleRouteLaw (leaveOrigin l p s) := by
  unfold Machine.leaveOrigin
  split
  · exact (law.beginStroke p).arriveAt p _
  · exact law.beginStroke p

/-- R50: an escape, and the return of a lever that departed to NORMAL. -/
theorem unreleasedDeparture (p : EndPos) : IdleRouteLaw (unreleasedDeparture l p s) := by
  have gone : IdleRouteLaw (departed l s) :=
    branch ((law.leverFault _).updLever _) (law.leverFault _)
  have escaped := gone.noticeIf (signalNormal l p s) (gone.routeEscape (l := l))
  exact branch (escaped.noticeReturned _) escaped

theorem contactFault : IdleRouteLaw (contactFault l s) := by
  have faulted := law.leverFault (l := l) .contradictory
  unfold Machine.contactFault contactEffect
  split
  · exact law
  · split
    · exact (faulted.updLever _).noticeIf _ (faulted.updLever _).leftNormalGranted
    · exact faulted.updLever _
    · exact faulted.noticeIf _ faulted.routeEscape

theorem judgeNotGranted (m : Continuity) : IdleRouteLaw (judgeNotGranted m l s) := by
  unfold Machine.judgeNotGranted
  split
  · exact law.unreleasedDeparture _
  · refine seekAtEnd ?_
    split
    · exact law.noticeReturned _
    · exact law

theorem judgeLever (m : Continuity) : IdleRouteLaw (judgeLever m l s) := by
  unfold Machine.judgeLever
  (repeat' split)
  · exact law
  · exact law.contactFault
  · exact law.retestGrant _
  · exact law.leaveOrigin _
  · exact law.arriveAt _ _
  · exact law
  · exact law.judgeNotGranted m

/-! ### The passes of the lever part -/

theorem evaluateLever (m : Continuity) : IdleRouteLaw (evaluateLever m l s) := by
  have judged : IdleRouteLaw (gripJudged m l s) := branch law (law.updLever _)
  exact branch ((judged.judgeLever m).updLever _) law

theorem closingCheck : IdleRouteLaw (closingCheck l s) := by
  unfold Machine.closingCheck
  (repeat' split)
  · exact law.withdrawFor _ _
  all_goals exact law

theorem restoreDeparture : IdleRouteLaw (restoreDeparture l s) := by
  unfold Machine.restoreDeparture
  (repeat' split)
  · exact law.unreleasedDeparture _
  all_goals exact law

theorem restoreContacts : IdleRouteLaw (restoreContacts l s) :=
  branch law.contactFault law

omit l in
theorem restoreReleases : IdleRouteLaw (forEach 40 restoreRelease s) :=
  law.of_eq (by simp) (by simp)

omit l in
theorem restoreUnseens : IdleRouteLaw (forEach 40 restoreUnseen s) :=
  law.of_eq (by simp) (by simp)

omit l in
/-- R57: the steps of a RESTORED arrival. -/
theorem restoredSteps : IdleRouteLaw (restoredSteps s) := by
  have noticed := law.notice law.restoreNotice
  have released := noticed.restoreReleases
  have departed := pass (fun l _ law => law.restoreDeparture (l := l)) _ released
  have seen := departed.restoreUnseens
  have judged := pass (fun l _ law => law.restoreContacts (l := l)) _ seen
  exact pass (fun l _ law => law.noticeIf _ law.routeReturned) _ judged

omit l in
/-- R41: the lever part of an arrival. -/
theorem takeLeverPart (m : Continuity) : IdleRouteLaw (takeLeverPart m s) := by
  have seen : IdleRouteLaw (seenAgain m s) := branch law.restoredSteps law
  have evaluated := pass (fun l _ law => law.evaluateLever (l := l) m) _ seen
  have checked : IdleRouteLaw (Machine.checked m s) :=
    pass (fun l _ law => law.closingCheck (l := l)) _ evaluated
  have written : IdleRouteLaw (writeMagnets (Machine.checked m s)) := checked.setSbc _
  exact written.notice written.releasePasses

omit l in
/-- R56: the scan-withdrawn notice makes GRANTED routes SET. -/
theorem leverWithdrawn : IdleRouteLaw (leverWithdrawn s) := by
  refine pass (fun l t law => ?_) s law
  have unseen : IdleRouteLaw (becomeUnseen l t) := by
    unfold becomeUnseen
    split
    · exact (law.updLever _).noticeIf _ (law.updLever _).leftNormalGranted
    · exact law.updLever _
    · exact law
  exact branch (branch (unseen.updLever _) unseen) law

end IdleRouteLaw
end Sys2Proof.Machine

/-! The law for route holds over the lines, the train records and the arrivals: none of them creates
a ROUTE hold, and the arrivals reach the routes through the Route Unit. -/

namespace Sys2Proof.Machine

namespace IdleRouteLaw
variable {s : State} (law : IdleRouteLaw s)
include law

/-! ### Lines and records -/

theorem updLine (x : Line) (f : BlockLine → BlockLine) : IdleRouteLaw (s.updLine x f) := law

theorem updBell (x : Line) (f : BellUnit → BellUnit) : IdleRouteLaw (s.updBell x f) := law

theorem updTrain (r : TrainId) (f : Train → Train) : IdleRouteLaw (s.updTrain r f) := law

theorem setOwed (x : Line) (b : Bool) : IdleRouteLaw (s.setOwed x b) := law

theorem retirementCheck (r : TrainId) : IdleRouteLaw (retirementCheck r s) :=
  law.of_eq (by simp) (by simp)

theorem latchChange (r : TrainId) : IdleRouteLaw (latchChange r s) :=
  law.of_eq (by simp) (by simp)

theorem setInstrument (x : Line) (i : Instrument) : IdleRouteLaw (setInstrument x i s) := law

theorem takeEntrySend (x : Line) (c : CodeId) : IdleRouteLaw (takeEntrySend x c s) :=
  law.of_eq (by simp) (by simp)

theorem keepRecognised (x : Line) (groups : List Nat) (heard : Heard) :
    IdleRouteLaw (keepRecognised x groups heard s) := law.of_eq (by simp) (by simp)

theorem storeCode (x : Line) (c : StoredCode) : IdleRouteLaw (storeCode x c s) :=
  law.of_eq (by simp) (by simp)

theorem autoEntering (x : Line) : IdleRouteLaw (autoEntering x s) :=
  law.of_eq (by simp) (by simp)

theorem retireClearing (x : Line) : IdleRouteLaw (retireClearing x s) := law.retireWhere _

theorem setStanding (x : Line) (st : Standing) : IdleRouteLaw (setStanding x st s) :=
  (law.updLine x _).rejudge x

theorem setObstruction (x : Line) (flag : Bool) : IdleRouteLaw (setObstruction x flag s) :=
  (law.updLine x _).rejudge x

/-- R130, R131: a change of the count may re-judge the block hold. -/
theorem changeCount (x : Line) (f : Nat → Nat) : IdleRouteLaw (changeCount x f s) := by
  have latched := (law.updLine x fun b => { b with count := f b.count }).latch (.line x)
    (.lineCause .health)
  rcases changeCount_cases x f s with ⟨-, e⟩ | ⟨-, -, e⟩ | ⟨-, -, -, e⟩ | ⟨-, -, -, e⟩ <;> rw [e]
  · exact law
  · exact law.updLine x _
  · exact latched.rejudge x
  · exact latched

theorem stepUp (x : Line) (n : Nat) : IdleRouteLaw (stepUp x n s) := law.changeCount x _

theorem stepDown (x : Line) : IdleRouteLaw (stepDown x s) := law.changeCount x _

/-! ### Received codes -/

theorem judgeCancel (c : ReceivedCode) : IdleRouteLaw (judgeCancel c s).state := by
  unfold Machine.judgeCancel
  split
  · next r _ =>
    have left := law.updTrain r fun t => t.leavesInbound .none
    split
    · exact ((branch (left.retireClearing _) left).setInstrument _ _).retirementCheck _
    · exact law
  · exact law

/-- R146 to R149: a code judged by its meaning. -/
theorem judgeMeaning (c : ReceivedCode) : IdleRouteLaw (judgeMeaning c s).state := by
  unfold Machine.judgeMeaning
  split
  · exact law.of_eq (by simp) (by simp)
  · exact law.of_eq (by simp) (by simp)
  · unfold judgeOutOfSection
    (repeat' split)
    · exact (((law.updTrain _ _).setStanding _ _).setOwed _ _).retirementCheck _
    · exact law
    · exact law
  · exact law.judgeCancel c
  · exact law
  · exact law
  · exact law
  · exact law.setObstruction _ _
  · exact law.setObstruction _ _

theorem takeReceivedCode (c : ReceivedCode) : IdleRouteLaw (takeReceivedCode c s).1 := by
  have judged : IdleRouteLaw (if c.repetition then Judgement.noEffect s
      else Machine.judgeMeaning c s).state := by
    split
    · exact law
    · exact law.judgeMeaning c
  have counted {j : Judgement} (law : IdleRouteLaw j.state) : IdleRouteLaw
      (if j.inTurn then Machine.stepDown c.line j.state else Machine.stepUp c.line 4 j.state) :=
    branch (law.stepDown _) (law.stepUp _ _)
  unfold Machine.takeReceivedCode
  dsimp only
  split
  · exact (counted judged).latchChange _
  · exact counted judged

/-- R106, R110: the end of a code. -/
theorem endCode (x : Line) (c : Assembly) : IdleRouteLaw (endCode x c s) := by
  have handed (heard : Heard) (repetition : Bool) {u : State} (law : IdleRouteLaw u) :
      IdleRouteLaw (handOver x c heard repetition u).1 := by
    unfold handOver
    (repeat' split)
    · exact law.takeReceivedCode _
    · exact law.stepUp _ _
    · exact law.stepUp _ _
    · exact law
  exact ((handed _ _ (law.updBell x _)).keepRecognised x _ _).storeCode x _

/-! ### Adoptions of the OUT instrument -/

theorem judgeAdoption (x : Line) (new : Instrument) : IdleRouteLaw (judgeAdoption x new s) := by
  have withdrawn (r : TrainId) {u : State} (law : IdleRouteLaw u) :
      IdleRouteLaw (withdrawAcceptance x r u) :=
    ((law.updTrain r _).setStanding x _).latch _ _
  unfold Machine.judgeAdoption
  dsimp only
  split
  · split
    · exact law
    · exact ((law.updTrain _ _).setStanding _ _).latch _ _
  · split
    · exact law.stepUp _ _
    · exact law
  · exact law.stepUp _ _
  · exact withdrawn _ (law.stepUp _ _)
  · exact law
  · exact law.stepUp _ _
  · exact withdrawn _ law
  · exact law

theorem adopt (x : Line) (new : Instrument) : IdleRouteLaw (adopt x new s) := by
  have judged {u : State} (law : IdleRouteLaw u) : IdleRouteLaw
      (if (u.blc.get x).suspended then u else Machine.judgeAdoption x new u) :=
    branch law (law.judgeAdoption x new)
  have first := branch (c := new ≠ .clear) (law.rejudge x) law
  exact (branch ((judged first).rejudge x) (judged first)).latch _ _

/-- R127 to R129: a reading that settles, adopted where it is new. -/
theorem settle (x : Line) (r : RawReading) : IdleRouteLaw (settle x r s) := by
  have invalid {u : State} (law : IdleRouteLaw u) : IdleRouteLaw (invalidReading x u) :=
    (law.stepUp x 4).latch _ _
  have written := law.updLine x fun b => { b with settled := r, candidate := none }
  have adopted := branch (c := outStateOf r = (s.blc.get x).outState) written
    (written.adopt x (outStateOf r))
  exact branch (branch (invalid adopted) adopted) written

/-! ### Track events -/

theorem entryOccupied (x : Line) (c : TrackId) : IdleRouteLaw (entryOccupied x c s) := by
  have entered (r : TrainId) : IdleRouteLaw (enterSection x r s) := by
    have written := law.updTrain r fun t => { t with
      outbound := .inSection, stamps := { t.stamps with enteredOut := some s.tb.clock } }
    have standing := written.setStanding x .inSection
    exact (branch (standing.autoEntering x) (standing.setOwed x true)).latch _ _
  unfold Machine.entryOccupied
  (repeat' split)
  · exact entered _
  · exact law.latch _ _
  · exact law.latch _ _

theorem berthOccupied (x : Line) (c : TrackId) : IdleRouteLaw (berthOccupied x c s) :=
  law.of_eq (by simp) (by simp)

theorem trainOccupation (c : TrackId) : IdleRouteLaw (trainOccupation c s) := by
  refine forEachLine_keeps (P := IdleRouteLaw) (fun x t law => ?_) s law
  have entry := branch (c := (t.cfg.lines.get x).entryCircuit = some c) (law.entryOccupied x c) law
  exact branch (entry.berthOccupied x c) entry

theorem arriveInbound (x : Line) (r : TrainId) : IdleRouteLaw (arriveInbound x r s) :=
  (law.updTrain _ _).retireClearing _

theorem trainClearance (c : TrackId) : IdleRouteLaw (trainClearance c s) := by
  refine forEachLine_keeps (P := IdleRouteLaw) (fun x t law => ?_) s law
  unfold berthCleared
  (repeat' split)
  · exact (law.arriveInbound _ _).latch _ _
  all_goals exact law

/-- R158, R159: an outbound half dropped. -/
theorem dropOutbound (r : TrainId) (lapsed : Bool) : IdleRouteLaw (dropOutbound r lapsed s) := by
  unfold Machine.dropOutbound
  dsimp only
  (repeat' split)
  · exact (law.updTrain _ _).setStanding _ _
  all_goals exact law.updTrain _ _

/-! ### Arrivals and the pickup expiry -/

/-- R22, R32: an arrival's track part hands its occupation events. -/
theorem takeTrackPart : IdleRouteLaw (takeTrackPart s) := by
  have moved : IdleRouteLaw (writeLamps (neighbourChecks s (stepCircuits s))) :=
    law.of_eq (by simp) (by simp)
  exact branch (pass (fun c _ law =>
    branch ((law.routeOccupation c).trainOccupation c) law) _ moved) moved

theorem deliverArrival (m : Continuity) : IdleRouteLaw (deliverArrival m s) :=
  law.takeTrackPart.takeLeverPart m

theorem clearanceEvents (before : State) : IdleRouteLaw (clearanceEvents before s) :=
  branch (pass (fun c _ law => branch (law.releasePasses.trainClearance c) law) s law) law

/-- R12, R16: the two notices of a withdrawal. -/
theorem scanWithdrawn (b : ScanBus) :
    IdleRouteLaw (Machine.leverWithdrawn (trackWithdrawn (s.setSbc b))) :=
  leverWithdrawn (s := trackWithdrawn (s.setSbc b)) law

/-- R9 to R14: the judgement of a frame. -/
theorem judgeFrame (f : Frame) (sdi : BitVec 192) : IdleRouteLaw (judgeFrame f sdi s) := by
  unfold Machine.judgeFrame
  (repeat' split)
  · exact law.setSbc _
  · have taken := law.setSbc (s.sbc.takeGood (f.image sdi))
    unfold afterGood
    (repeat' split)
    · exact (taken.setSbc _).deliverArrival _
    · exact taken
    · exact (taken.setSbc _).deliverArrival _
    · exact taken
    · exact taken.deliverArrival _
    · exact taken
  · have taken := law.setSbc s.sbc.takeBad
    unfold afterBad
    split
    · exact taken.scanWithdrawn _
    · exact taken

end IdleRouteLaw
end Sys2Proof.Machine

/-! The law for route holds over the owners of the requests and over the events. -/

namespace Sys2Proof.Machine

namespace IdleRouteLaw

/-- R83: an empty Hold Table has no ROUTE hold. -/
theorem of_empty {s : State} (empty : ∀ h : HoldId, s.ht[h] = none) : IdleRouteLaw s :=
  fun h hold l c live => by
    rw [empty] at live
    cases live

variable {s : State}

/-- R77, R183: the box starts with an empty Hold Table and the block holds. -/
theorem enterService (s : State) : IdleRouteLaw (enterService s) := by
  have empty : IdleRouteLaw { s with ht := Vector.replicate 72 none, ru := s.ru.map fun r =>
      { Route.reset with changed := r.changed } } := of_empty fun _ => Vector.getElem_replicate _
  exact forEachLine_keeps (P := IdleRouteLaw) (fun x _ law => law.ensureBlock x) _ empty

variable (law : IdleRouteLaw s)
include law

/-! ### Requests -/

/-- R180: a load writes tables of the configuration. -/
theorem inConfig {take : State → State × Reply}
    (owner : (take s).1.ht = s.ht ∧ (take s).1.ru = s.ru) : IdleRouteLaw (inConfig take s).1 := by
  unfold Machine.inConfig
  split
  · exact law
  · exact law.of_eq owner.1 owner.2

/-- A request about a record changes nothing when it is refused, and does what its own rule does
otherwise. -/
theorem withRecord (train : Nat) {k : TrainId → Train → State → State × Reply}
    (owner : ∀ r t, IdleRouteLaw (k r t s).1) : IdleRouteLaw (withRecord train k s).1 := by
  unfold Machine.withRecord
  (repeat' split)
  · exact law
  · exact law
  · exact law
  · exact owner _ _

/-- R73, R74: a bar placed is no ROUTE hold. -/
theorem takePlaceBar (lever position : Nat) (reason : Byte) :
    IdleRouteLaw (takePlaceBar lever position reason s).1 := by
  unfold Machine.takePlaceBar
  (repeat' split)
  · exact law
  · exact law
  · exact law
  · exact law
  · exact law.latch _ _
  · refine law.updHold _ fun hold k c e => ?_
    cases e
    nofun

theorem takeRemoveBar (number : Nat) : IdleRouteLaw (takeRemoveBar number s).1 := by
  unfold Machine.takeRemoveBar
  (repeat' split)
  · exact law
  · exact law
  · exact law.updHold _ nofun
  · exact law

/-- R96: a route in TIMED_RELEASE is not IDLE. -/
theorem takeTimedRelease (n : Nat) : IdleRouteLaw (takeTimedRelease n s).1 := by
  unfold Machine.takeTimedRelease
  (repeat' split)
  · exact law
  · exact law
  · exact law
  · exact ((law.lawBut _).updRoute _).setRouteState nofun
  · exact law

/-- R153: the CLEARING group created, kept or retired again. -/
theorem acceptGroup (x : Line) (r : TrainId) (d : Option Description) (heard : List Nat) :
    IdleRouteLaw (acceptGroup x r d heard s).1 := by
  have group : IdleRouteLaw (createGroup (clearingGroup x s) (.line x) s).2 := by
    refine law.of_held ⟨fun h hold k c live kind => ?_, fun k idle => by simpa using idle⟩
    refine (createGroup_hold live).resolve_right fun ⟨e, m, own⟩ => ?_
    obtain ⟨p, -, rfl⟩ := List.mem_map.mp m
    rw [own] at kind
    cases kind
  unfold Machine.acceptGroup
  split <;> (rename_i e; rw [e] at group)
  · split
    · exact group.retireClearing x
    · exact group.of_eq (by simp) (by simp)
  · exact group
  · exact group

theorem takeAccept (r : Nat) (d : Option Description) : IdleRouteLaw (takeAccept r d s).1 := by
  refine law.withRecord r fun r t => ?_
  (repeat' split)
  · exact law
  · exact law
  · exact law
  · exact law
  · exact law.acceptGroup _ r d _
  · exact law

theorem takeOffer (r x : Nat) : IdleRouteLaw (takeOffer r x s).1 := by
  unfold Machine.takeOffer
  (repeat' split)
  case isFalse => exact ((law.takeEntrySend _ _).updTrain _ _).setStanding _ _
  all_goals exact law

theorem takeTailSeen (r : Nat) : IdleRouteLaw (takeTailSeen r s).1 := by
  refine law.withRecord r fun r t => ?_
  (repeat' split)
  · exact law.updTrain _ _
  · exact (law.arriveInbound _ _).updTrain _ _
  · exact law
  · exact law

theorem takeCancelOffer (r : Nat) : IdleRouteLaw (takeCancelOffer r s).1 := by
  refine law.withRecord r fun r t => ?_
  (repeat' split)
  case isFalse => exact ((law.takeEntrySend _ _).dropOutbound _ _).retirementCheck _
  all_goals exact law

theorem takeScanStop : IdleRouteLaw (takeScanStop s).1 := by
  have stopped : IdleRouteLaw (stopScan s) := branch (law.scanWithdrawn _) (law.setSbc _)
  unfold Machine.takeScanStop
  (repeat' split)
  · exact law
  · exact law
  · exact stopped

theorem takeEnterService : IdleRouteLaw (takeEnterService s).1 := by
  unfold Machine.takeEnterService
  (repeat' split)
  case h_2 => exact enterService s
  all_goals exact law

/-- What the owner of a request does keeps the law. -/
theorem handRequest (i : Instr) : IdleRouteLaw (handRequest i s).1 := by
  cases i
  case loadSlots | loadLever | loadRoute | loadTrack | loadLine | loadCode | loadTiming =>
    refine law.inConfig ?_
    dsimp only
    (repeat' split) <;> simp [loadTimingSet]
  case enterService => exact law.takeEnterService
  case restart => exact of_empty fun h => Vector.getElem_replicate _
  case scanStop => exact law.takeScanStop
  case placeBar => exact law.takePlaceBar _ _ _
  case removeBar => exact law.takeRemoveBar _
  case timedRelease => exact law.takeTimedRelease _
  case accept => exact law.takeAccept _ _
  case offer => exact law.takeOffer _ _
  case tailSeen => exact law.takeTailSeen _
  case cancelOffer => exact law.takeCancelOffer _
  case retireTrain | outOfSection =>
    refine law.withRecord _ fun r t => ?_
    (repeat' split) <;> exact law.of_eq (by simp) (by simp)
  case readLever | readTrack | readRoute | readHold | listHolds | readLine | readCode | readTrain =>
    simp only [Machine.handRequest, atOnce, takeReadLever, takeReadTrack, takeReadRoute,
      takeReadHold, takeListHolds, takeReadLine, takeReadCode, takeReadTrain]
    (repeat' split) <;> exact law
  case loadAttention | scanStart | clearMark | createTrain | setDestination | acknowledge | sendCode
      | restoreLine | releaseCode | clearAttention | setClock =>
    simp only [Machine.handRequest, atOnce, takeLoadAttention, takeScanStart, takeClearMark,
      takeCreateTrain, takeSetDestination, takeAcknowledge, takeSendCode, takeRestoreLine,
      takeReleaseCode, takeClearAttention, takeSetClock]
    (repeat' split) <;> exact law.of_eq (by simp) (by simp)
  all_goals exact law

/-! ### Events -/

/-- R165: a boundary counted changes no route state. -/
theorem takeBoundary : IdleRouteLaw (takeBoundary s) := by
  refine law.of_held ⟨fun _ _ _ _ live _ => live, fun k idle => ?_⟩
  have counted : (Machine.takeBoundary s).ru[k] = s.ru[k].boundary := map_get _ _ _
  rw [counted] at idle
  exact idle

/-- What an event does keeps the law. -/
theorem exec_event {i : Instr} {t : State} (event : isEvent i = true) (run : exec i s = .next t) :
    IdleRouteLaw t := by
  cases i
  case fullReset => cases run; exact of_empty reset_hold
  case tick a b c => cases run; exact law.of_eq (by simp [takeTick]) (by simp [takeTick])
  case pickupExpiry =>
    cases run
    exact (law.of_eq (t := clearDue s) (by simp) (by simp)).clearanceEvents s
  case lapseExpiry r h =>
    simp only [exec, execLapseExpiry] at run
    (repeat' split at run) <;> cases run
    · exact law.of_eq (by simp) (by simp)
    · exact ((law.dropOutbound r true).retirementCheck r).latchChange r
    · exact law
  case frameOpen | closingFrame | closingSync =>
    simp only [exec, execFrameOpen, execClosingFrame, execClosingSync] at run
    split at run <;> cases run <;> exact law.of_eq rfl rfl
  case strokeTimeout | repetitionDeadlineExpiry | sendCompletion | blankingEnd =>
    simp only [exec, execStrokeTimeout, execRepetitionDeadlineExpiry, execSendCompletion,
      execBlankingEnd] at run
    split at run <;> cases run <;> exact law.of_eq (by simp) (by simp)
  case tenthBoundary =>
    simp only [exec, execTenthBoundary] at run
    split at run <;> cases run
    · exact law.takeBoundary
    · exact law
  case frameJudge sdi =>
    simp only [exec, execFrameJudge] at run
    split at run <;> cases run
    · exact law.judgeFrame _ _
    · exact law
  case approachExpiry l =>
    simp only [exec, execApproachExpiry] at run
    split at run <;> cases run
    · exact law.makeIdle
    · exact law
  case emergencyExpiry l =>
    simp only [exec, execEmergencyExpiry] at run
    split at run <;> cases run
    · exact (((law.lawBut l).clearMarks _).makeIdle).latch _ _
    · exact law
  case codeEnd x =>
    simp only [exec, execCodeEnd] at run
    split at run <;> cases run
    · exact law.endCode _ _
    · exact law
  case instrumentSettling x =>
    simp only [exec, execInstrumentSettling] at run
    split at run <;> cases run
    · exact law.settle _ _
    · exact law
  case quietWaitEnd x =>
    simp only [exec, execQuietWaitEnd] at run
    split at run <;> cases run
    · exact ((law.updLine x _).latch _ _).rejudge x
    · exact law
  all_goals cases event

end IdleRouteLaw

/-- Settles O58: the law is kept by every owner's rule and by every event. -/
theorem stepKeepsIdleRoutesWithoutHolds : Obligations.StepKeepsIdleRoutesWithoutHolds := by
  intro s t law run
  exact step_keeps (fun _ _ _ _ law => law.of_eq rfl rfl) (fun i _ law => law.handRequest i)
    (fun _ _ _ event law run => law.exec_event event run) law run

end Sys2Proof.Machine

/-! TIMED_RELEASE: its refusals in order, and the start of the emergency timer. -/

namespace Sys2Proof.Machine

section
variable {s : State}

theorem isSignal_iff {l : LeverId} : s.isSignal l = true ↔
    s.cfg.levers[l].configured = true ∧ s.cfg.levers[l].kind = .signal := by
  simp only [State.isSignal, Bool.and_eq_true, decide_eq_true_eq]

theorem takeTimedRelease_config (config : s.device = .config) (n : Nat) :
    takeTimedRelease n s = (s, .state) := if_pos config

variable (service : s.device = .service)
include service

theorem takeTimedRelease_range {n : Nat} (out : n = 0 ∨ 40 < n) :
    takeTimedRelease n s = (s, .badArgument 1) := by
  rw [takeTimedRelease, if_neg (by simp [service]), leverOf_eq_none.mpr out]

/-- R96: TIMED_RELEASE of a lever in range, judged by the lever's kind and its route's state. -/
theorem takeTimedRelease_lever (l : LeverId) : takeTimedRelease (l.val + 1) s =
    if s.isSignal l = true then
      if s.ru[l].state.timedReleasable then
        (s.withRoute l { s.ru[l] with
          state := .timedRelease, changed := s.tb.clock
          timer := some ⟨.emergency, s.cfg.timing.emergency⟩ },
          .done (bytesTwo s.cfg.timing.emergency))
      else (s, .state)
    else (s, .noRecord) := by
  rw [takeTimedRelease, if_neg (by simp [service]), leverOf_inverse.eq l]
  dsimp only
  rw [setRouteState_updRoute]
  cases s.isSignal l <;> rfl

end

/-- Settles O22: the refusals in the order of R96, then the route's record with its timer. -/
theorem timedReleaseStartsTheEmergencyTimer : Obligations.TimedReleaseStartsTheEmergencyTimer := by
  intro s free
  refine ⟨fun n config => ?config, fun n service out => ?range, fun l service other => ?other,
    fun l service conf kind => ⟨fun refused => ?refused, fun taken => ?taken⟩⟩
  case config => exact serve_eq free (takeTimedRelease_config config n)
  case range => exact serve_eq free (takeTimedRelease_range service out)
  case other =>
    rw [← isSignal_iff] at other
    exact serve_eq free ((takeTimedRelease_lever service l).trans (if_neg other))
  case refused =>
    have closed : ¬s.ru[l].state.timedReleasable = true := by
      rcases refused with e | e | e | e <;> rw [e] <;> exact Bool.false_ne_true
    exact serve_eq free ((takeTimedRelease_lever service l).trans
      ((if_pos (isSignal_iff.mpr ⟨conf, kind⟩)).trans (if_neg closed)))
  case taken =>
    have open_ : s.ru[l].state.timedReleasable = true := by
      rcases taken with e | e | e <;> rw [e] <;> rfl
    exact ⟨_, serve_eq free ((takeTimedRelease_lever service l).trans
        ((if_pos (isSignal_iff.mpr ⟨conf, kind⟩)).trans (if_pos open_))),
      s.withRoute_own l _, fun k ne => s.withRoute_other l _ ne, rfl⟩

end Sys2Proof.Machine

/-! READ_ROUTE: the route record byte by byte. -/

namespace Sys2Proof.Machine

/-! ### The fields of a route record -/

/-- R187: a track state in one byte. -/
theorem trackStateNo_byte (st : TrackState) : bytesOne (trackStateNo st) =
    [match st with | .unknown => 0 | .occupied => 1 | .pickupTiming => 2 | .clear => 3] := by
  cases st <;> rfl

theorem routeStateNo_byte (st : RouteState) : bytesOne (routeStateNo st) = [match st with
    | .idle => 0 | .granted => 1 | .set => 2 | .approachLocked => 3 | .releasing => 4
    | .sequenceFault => 5 | .timedRelease => 6] := by
  cases st <;> rfl

theorem causeNo_byte (cause : Option FaultCause) : bytesOne (causeNo cause) = [match cause with
    | some .sequence => 0 | some .scanLoss => 1 | some .unreleased => 2 | none => 255] := by
  cases cause with
  | none => rfl
  | some c => cases c <;> rfl

/-- R196: the kind of a timer that runs; a due one shows as none. -/
theorem timerKindNo_byte (timer : Option RouteTimer) : bytesOne (timerKindNo timer) =
    [match timer with
      | none => 0
      | some ⟨_, 0⟩ => 0
      | some ⟨.approach, _ + 1⟩ => 1
      | some ⟨.emergency, _ + 1⟩ => 2] := by
  cases timer with
  | none => rfl
  | some t =>
    obtain ⟨kind, remaining⟩ := t
    cases remaining with
    | zero => rfl
    | succ n => cases kind <;> rfl

/-- R187: two flags in one byte. -/
theorem bitsByte_two (a b : Bool) : bitsByte [a, b] = BitVec.ofNat 8 (a.toNat + 2 * b.toNat) := rfl

/-- R196: a points entry at its place, with the running entry of that place where there is one. -/
def pointsBytes (entries : List EntryRun) (e : PointsEntry × Nat) : List Byte :=
  [BitVec.ofNat 8 (e.1.lever.val + 1),
    match e.1.position with | .normal => 0 | .reverse => 1,
    BitVec.ofNat 8 (e.1.circuit.val + 1),
    if (entries[e.2]?.map fun n => n.released) = some true then 1 else 0,
    match entries[e.2]?.bind fun n => n.hold with
      | some h => BitVec.ofNat 8 h.val
      | none => 255]

/-- R196: the points entries from place `n` on, beside the running entries from there on. -/
theorem pointsData_drop (entries : List EntryRun) (points : List PointsEntry) (n : Nat) :
    pointsData points (entries.drop n) = (points.zipIdx n).flatMap (pointsBytes entries) := by
  induction points generalizing n with
  | nil => rw [pointsData]; rfl
  | cons p points ih =>
    rw [List.zipIdx_cons, List.flatMap_cons, ← ih, pointsBytes]
    rcases lt_or_ge n entries.length with inside | past
    · rw [List.drop_eq_getElem_cons inside, pointsData, endPosNo_byte,
        List.getElem?_eq_getElem inside]
      obtain ⟨released, hold⟩ := entries[n]
      cases released <;> cases hold <;> rfl
    · rw [List.drop_eq_nil_of_le past, List.drop_eq_nil_of_le (Nat.le_succ_of_le past), pointsData,
        endPosNo_byte, List.getElem?_eq_none past]
      rfl

theorem pointsData_eq (points : List PointsEntry) (entries : List EntryRun) :
    pointsData points entries = points.zipIdx.flatMap (pointsBytes entries) :=
  pointsData_drop entries points 0

/-! ### READ_ROUTE -/

section
variable {s : State} {l : LeverId}

/-- R99: READ_ROUTE answers the route record of a lever in range. -/
theorem takeReadRoute_lever (s : State) (l : LeverId) :
    takeReadRoute (l.val + 1) s = (s, .done (s.routeData l)) := by
  rw [takeReadRoute, leverOf_inverse.eq l]

/-- R99: the running record of a configured SIGNAL lever, or one in its CONFIG condition. -/
theorem routeView_eq {r : Route}
    (signal : s.cfg.levers[l].configured = true ∧ s.cfg.levers[l].kind = .signal → r = s.ru[l])
    (other : ¬(s.cfg.levers[l].configured = true ∧ s.cfg.levers[l].kind = .signal) →
      r = ⟨.idle, 1, none, [], false, none, 0⟩) : s.routeView l = r := by
  unfold State.routeView
  split
  · next yes => exact (signal yes).symm
  · next no => exact (other no).symm

theorem routeCircuitData_eq : s.routeCircuitData = fun c =>
    [BitVec.ofNat 8 (c.val + 1),
      match s.tcm[c].state with
        | .unknown => 0 | .occupied => 1 | .pickupTiming => 2 | .clear => 3,
      BitVec.ofNat 8 s.tcm[c].mark.toNat] := by
  funext c
  rw [State.routeCircuitData, trackStateNo_byte]
  rfl

theorem approachCircuitData_eq : s.approachCircuitData = fun c =>
    [BitVec.ofNat 8 (c.val + 1),
      match s.tcm[c].state with
        | .unknown => 0 | .occupied => 1 | .pickupTiming => 2 | .clear => 3] := by
  funext c
  rw [State.approachCircuitData, trackStateNo_byte]
  rfl

end

/-- Settles O28: the route record field by field, of a configured SIGNAL lever and of any other. -/
theorem readRouteFollowsItsLayout : Obligations.ReadRouteFollowsItsLayout := by
  intro s free
  refine ⟨fun l r signal other => ?_, fun n out => ?_⟩
  · have data := serve_eq (n := 35) free (takeReadRoute_lever s l)
    rw [State.routeData, routeView_eq signal other] at data
    simp only [bitsByte_two, routeStateNo_byte, timerKindNo_byte, shownTimer_eq, causeNo_byte,
      pointsData_eq, listBytes, routeCircuitData_eq, approachCircuitData_eq,
      List.append_assoc] at data
    simp only [List.append_assoc]
    exact data
  · have refused : takeReadRoute n s = (s, .badArgument 1) := by
      rw [takeReadRoute, leverOf_eq_none.mpr out]
    exact serve_eq free refused

end Sys2Proof.Machine

/-! The bell wire: a beat placed in a code, a tick's sample of BELL_IN, the end of the blanking and of the
repetition deadline, and the completion of a send. -/

namespace Sys2Proof.Machine

/-! ### A beat placed in a code -/

/-- R105: one more beat in the last group of a code, held at 9. -/
theorem Assembly.beatInGroup_last {c : Assembly} {before : List Nat} {n : Nat}
    (groups : c.groups = before ++ [n]) : c.beatInGroup =
      if n < 9 then { c with groups := before ++ [n + 1] } else { c with overflow := true } := by
  simp [Assembly.beatInGroup, groups]

/-- A beat counted in the last group writes the groups and the OVERFLOW mark only. -/
theorem Assembly.beatInGroup_kept (c : Assembly) :
    c.beatInGroup = { c with
      groups := c.beatInGroup.groups, overflow := c.beatInGroup.overflow } := by
  unfold Assembly.beatInGroup
  (repeat' split) <;> rfl

/-- A new group leaves the HELD mark of a code as it was. -/
theorem Assembly.newGroup_held (c : Assembly) : c.newGroup.held = c.held := by
  unfold Assembly.newGroup
  split <;> rfl

section
variable (t : Timing) (rise fall : Tick) (held : Bool)

/-- R105: the code that a beat leaves in assembly, before its gap reference and its end tick move. -/
def beatPlaced (c : Assembly) : Assembly :=
  if c.beyond then c
  else if (rise - c.lastFall).toNat < t.groupGap then c.beatInGroup
  else c.newGroup

/-- R104, R105: a beat in a code that is already in assembly. -/
theorem placeBeat_some (c : Assembly) : placeBeat t rise fall held (some c) =
    { beatPlaced t rise c with
      held := (beatPlaced t rise c).held || held
      lastFall := fall
      endTick := fall + BitVec.ofNat 32 t.endGap } := rfl

theorem beatPlaced_held (c : Assembly) : (beatPlaced t rise c).held = c.held := by
  unfold beatPlaced
  (repeat' split)
  · rfl
  · rw [Assembly.beatInGroup_kept]
  · exact c.newGroup_held

/-- R105: the gap reference, the end tick and the HELD mark that every accepted beat gives. -/
theorem placeBeat_marks (code : Option Assembly) :
    (placeBeat t rise fall held code).lastFall = fall ∧
    (placeBeat t rise fall held code).endTick = fall + BitVec.ofNat 32 t.endGap ∧
    (placeBeat t rise fall held code).held = ((code.map fun c => c.held).getD false || held) := by
  cases code with
  | none => exact ⟨rfl, rfl, rfl⟩
  | some c => exact ⟨rfl, rfl, by rw [placeBeat_some, beatPlaced_held]; rfl⟩

end

/-- Settles O6: a beat opens a code, joins the last group by its gap, or opens a group. -/
theorem beatsAreGroupedByTheirGap : Obligations.BeatsAreGroupedByTheirGap := by
  intro t rise fall held
  refine ⟨⟨rfl, rfl, rfl⟩, placeBeat_marks t rise fall held, fun c => ?_⟩
  simp only [placeBeat_some]
  refine ⟨fun open_ => ⟨fun before n groups near => ?_, fun far => ?_⟩, fun beyond => ?_⟩
  · have joins : beatPlaced t rise c = c.beatInGroup := by
      rw [beatPlaced, if_neg (by simp [open_]), if_pos near]
    rw [joins, Assembly.beatInGroup_last groups]
    refine ⟨by split <;> exact open_, fun below => ?_, fun nine => ?_⟩
    · rw [if_pos below]; exact ⟨rfl, rfl⟩
    · subst nine; exact ⟨groups, rfl⟩
  · have opens : beatPlaced t rise c = c.newGroup := by
      rw [beatPlaced, if_neg (by simp [open_]), if_neg (Nat.not_lt.mpr far)]
    rw [opens, Assembly.newGroup]
    refine ⟨fun room => ?_, fun full => ?_⟩
    · rw [if_pos room]; exact ⟨rfl, rfl, open_⟩
    · rw [if_neg (by omega)]; exact ⟨rfl, rfl, rfl⟩
  · have stays : beatPlaced t rise c = c := if_pos beyond
    rw [stays]
    exact ⟨rfl, rfl, beyond⟩

/-! ### A sample of BELL_IN -/

section
variable {b : BellUnit} {edge : Tick} (t : Timing) (now : Tick)

/-- R102: a sample at the recognised level ends a candidate. -/
theorem BellUnit.sample_steady : b.sample t now b.level = { b with candidate := none } := by
  simp [BellUnit.sample]

/-- R102: the first sample at the other level is the candidate. -/
theorem BellUnit.sample_first {level : Bool} (other : level ≠ b.level)
    (fresh : b.candidate = none) : b.sample t now level = { b with candidate := some now } := by
  simp [BellUnit.sample, other, fresh]

/-- R102: the second sample high recognises the rising edge, at the tick of its candidate. -/
theorem BellUnit.sample_rises (low : b.level = false) (candidate : b.candidate = some edge) :
    b.sample t now true =
      { b with level := true, candidate := none, pulse := some edge } := by
  simp [BellUnit.sample, low, candidate]

/-- R102: the second sample low recognises the falling edge, at the tick of its candidate. -/
theorem BellUnit.sample_falls (high : b.level = true) (candidate : b.candidate = some edge) :
    b.sample t now false =
      { b with level := false, candidate := none }.fallingEdge t edge := by
  simp [BellUnit.sample, high, candidate]

/-- R104: a pulse narrower than MIN_BEAT is noise. -/
theorem BellUnit.fallingEdge_noise {rise : Tick} (pulse : b.pulse = some rise)
    (narrow : (edge - rise).toNat < t.minBeat) :
    b.fallingEdge t edge = { b with pulse := none } := by
  simp only [BellUnit.fallingEdge, pulse, if_pos narrow]

/-- R104: a wider pulse is a beat, held when it is wider than MAX_BEAT. -/
theorem BellUnit.fallingEdge_beat {rise : Tick} (pulse : b.pulse = some rise)
    (wide : t.minBeat ≤ (edge - rise).toNat) : b.fallingEdge t edge = { b with
      pulse := none
      code := some (placeBeat t rise edge (decide (t.maxBeat < (edge - rise).toNat)) b.code) } := by
  simp only [BellUnit.fallingEdge, pulse, if_neg (Nat.not_lt.mpr wide)]

end

section
variable (x : Line) (level : Bool) (s : State)

theorem sampleBell_bu : (sampleBell x level s).bu =
    s.bu.set x ((s.bu.get x).sample s.cfg.timing s.tb.tickCount level) := by
  unfold sampleBell
  dsimp only
  split <;> rfl

/-- R133: a rising-edge notice moves the end of a quiet wait, and no other sample does. -/
theorem sampleBell_blc : (sampleBell x level s).blc =
    match (s.bu.get x).risingNotice level with
      | some edge => s.blc.set x ((s.blc.get x).risingEdge edge)
      | none => s.blc := by
  unfold sampleBell
  dsimp only
  cases (s.bu.get x).risingNotice level <;> rfl

variable (inputs : LineInputs)

/-- R102, R117: the line's Bell Unit after its inputs are sampled. -/
theorem sampleLine_bell : (sampleLine x inputs s).bu.get x =
    if (s.bu.get x).blankUntil.isSome then s.bu.get x
    else (s.bu.get x).sample s.cfg.timing s.tb.tickCount inputs.bellIn := by
  unfold sampleLine
  dsimp only
  split <;> simp [sampleBell_bu]

/-- R133: the line's quiet wait after its inputs are sampled. -/
theorem sampleLine_quiet : ((sampleLine x inputs s).blc.get x).quiet =
    if (s.bu.get x).blankUntil.isSome then (s.blc.get x).quiet
    else match (s.bu.get x).risingNotice inputs.bellIn with
      | some edge => (s.blc.get x).quiet.map fun _ => edge + 2000
      | none => (s.blc.get x).quiet := by
  have kept (b : BlockLine) (r : RawReading) : (b.sample r).quiet = b.quiet := by
    unfold BlockLine.sample
    (repeat' split) <;> rfl
  unfold sampleLine
  dsimp only
  rw [State.updLine_blc, PerLine.get_set_self, kept]
  split
  · rfl
  · rw [sampleBell_blc]
    split
    · rw [PerLine.get_set_self]; rfl
    · rfl

variable {x}

/-- A line's inputs sampled leave the other lines. -/
theorem sampleLine_other {y : Line} (ne : y ≠ x) : (sampleLine x inputs s).bu.get y = s.bu.get y ∧
    (sampleLine x inputs s).blc.get y = s.blc.get y := by
  unfold sampleLine
  dsimp only
  rw [State.updLine_blc, PerLine.get_set_ne _ _ ne]
  split
  · exact ⟨rfl, rfl⟩
  · rw [State.updLine_bu, sampleBell_bu, PerLine.get_set_ne _ _ ne, sampleBell_blc]
    refine ⟨rfl, ?_⟩
    split
    · rw [PerLine.get_set_ne _ _ ne]
    · rfl

end

/-- R164: the tick count of a tick. -/
theorem TimeBase.tick_tickCount (t : TimeBase) : t.tick.tickCount = t.tickCount + 1 := by
  unfold TimeBase.tick
  split <;> rfl

/-- R102, R117, R133: what a tick makes of a line's Bell Unit and of its quiet wait. -/
theorem takeTick_line (a b c : LineInputs) (s : State) (x : Line) :
    let wire := ((PerLine.mk a b c).get x).bellIn
    (takeTick a b c s).bu.get x =
      (if (s.bu.get x).blankUntil.isSome then s.bu.get x
        else (s.bu.get x).sample s.cfg.timing (s.tb.tickCount + 1) wire) ∧
    ((takeTick a b c s).blc.get x).quiet =
      (if (s.bu.get x).blankUntil.isSome then (s.blc.get x).quiet
        else match (s.bu.get x).risingNotice wire with
          | some edge => (s.blc.get x).quiet.map fun _ => edge + 2000
          | none => (s.blc.get x).quiet) := by
  cases x <;>
    simp [takeTick, sampleLine_bell, sampleLine_quiet, sampleLine_other, TimeBase.tick_tickCount] <;>
    exact ⟨rfl, rfl⟩

/-- R133: only a recognised rising edge gives a notice. -/
theorem BellUnit.risingNotice_none {b : BellUnit} {level : Bool}
    (quiet : level = b.level ∨ b.candidate = none ∨ level = false) : b.risingNotice level = none := by
  unfold BellUnit.risingNotice
  split
  · next rises =>
    obtain ⟨high, low⟩ : level = true ∧ b.level = false := by simpa using rises
    simpa [high, low] using quiet
  · rfl

/-- R102, R133: the notice of a recognised rising edge names the tick of its candidate. -/
theorem BellUnit.risingNotice_some {b : BellUnit} {edge : Tick} (low : b.level = false)
    (candidate : b.candidate = some edge) : b.risingNotice true = some edge := by
  simp [BellUnit.risingNotice, low, candidate]

/-- Settles O5: the branches of a sample, by blanking, recognised level and candidate. -/
theorem tickSamplesTheBellWire : Obligations.TickSamplesTheBellWire := by
  intro s a b c x
  refine ⟨takeTick a b c s, rfl, ?_⟩
  obtain ⟨bell, quiet⟩ := takeTick_line a b c s x
  intro old new now wire
  have sampled (open_ : old.blankUntil = none) :
      new = old.sample s.cfg.timing now wire ∧ ((takeTick a b c s).blc.get x).quiet =
        match old.risingNotice wire with
          | some edge => (s.blc.get x).quiet.map fun _ => edge + 2000
          | none => (s.blc.get x).quiet := by
    have notBlanked : ¬(s.bu.get x).blankUntil.isSome := by
      rw [show (s.bu.get x).blankUntil = none from open_]; exact nofun
    rw [if_neg notBlanked] at bell quiet
    exact ⟨bell, quiet⟩
  have silent (open_ : old.blankUntil = none)
      (no : wire = old.level ∨ old.candidate = none ∨ wire = false) :
      ((takeTick a b c s).blc.get x).quiet = (s.blc.get x).quiet := by
    rw [(sampled open_).2, BellUnit.risingNotice_none no]
  refine ⟨fun blanked => ?_, fun open_ steady => ⟨?_, silent open_ (.inl steady)⟩,
    fun open_ other fresh => ⟨?_, silent open_ (.inr (.inl fresh))⟩,
    fun edge open_ high low candidate => ⟨?_, ?_⟩,
    fun edge rise open_ low high candidate pulse => ⟨silent open_ (.inr (.inr low)), ?_⟩⟩
  · have blanked' := Option.isSome_iff_ne_none.mpr blanked
    exact ⟨bell.trans (if_pos blanked'), quiet.trans (if_pos blanked')⟩
  · rw [(sampled open_).1, steady, BellUnit.sample_steady]
  · rw [(sampled open_).1, BellUnit.sample_first _ _ other fresh]
  · rw [(sampled open_).1, high, BellUnit.sample_rises _ _ low candidate]
  · rw [(sampled open_).2, high, BellUnit.risingNotice_some low candidate]
  · rw [(sampled open_).1, low, BellUnit.sample_falls _ _ high candidate]
    refine ⟨fun narrow => ?_, fun wide => ⟨_, ?_, rfl, placeBeat_marks _ _ _ _ _⟩⟩
    · exact BellUnit.fallingEdge_noise (b := { old with level := false, candidate := none }) _ pulse
        narrow
    · exact BellUnit.fallingEdge_beat (b := { old with level := false, candidate := none }) _ pulse
        wide

/-! ### The end of the blanking and the repetition deadline -/

/-- R117, R102: sampling resumes from a level low with no candidate. -/
theorem execBlankingEnd_due {s : State} {x : Line} {due : Tick} (bellIn : Bool)
    (until_ : (s.bu.get x).blankUntil = some due) (now : reached s.tb.tickCount due = true)
    (low : (s.bu.get x).level = false) (fresh : (s.bu.get x).candidate = none) :
    execBlankingEnd x bellIn s = .next (s.updBell x fun b => { b with
      blankUntil := none, candidate := if bellIn then some s.tb.tickCount else none }) := by
  have isDue : blankingDue x s = true := by simp only [blankingDue, until_, now]
  have quiet : ({ s.bu.get x with blankUntil := none } : BellUnit).risingNotice bellIn = none :=
    BellUnit.risingNotice_none (.inr (.inl fresh))
  rw [execBlankingEnd, if_pos isDue]
  simp only [sampleBell, State.updBell, PerLine.get_set_self, quiet, PerLine.set_set]
  cases bellIn with
  | false => simp [BellUnit.sample, low]
  | true => simp [BellUnit.sample, low, fresh]

/-- Settles O36: the blanking ends with a sample; the deadline clears the expectation and latches. -/
theorem blankingAndDeadlineComeToTheirEnds : Obligations.BlankingAndDeadlineComeToTheirEnds := by
  intro s x
  refine ⟨fun due bellIn until_ now low fresh => execBlankingEnd_due bellIn until_ now low fresh,
    fun groups expected => ⟨latch (.line x) (.lineCause .unacknowledged) (s.updBell x fun b =>
      { b with expected := none, unacknowledged := true }), ?_, rfl, latch_latched_of rfl, rfl⟩,
    fun groups n expected => ?_⟩
  · have due : repetitionDue x s = true := by simp [repetitionDue, expected]
    exact if_pos due
  · have waits : ¬repetitionDue x s = true := by simp [repetitionDue, expected]
    exact if_neg waits

/-! ### The completion of a send -/

/-- R131: ACTIVE is a count below 96. -/
theorem health_active_iff {b : BlockLine} : b.health = .active ↔ b.count < 96 := by
  unfold BlockLine.health healthOf
  (repeat' split) <;> simp_all

section
variable {s : State} {x : Line}

/-- The send of a loaded entry is a send of its counts. -/
theorem takeEntrySend_loaded {c : CodeId} {e : CodeEntry} (loaded : s.cfg.codes[c] = some e) :
    takeEntrySend x c s = takeSend x e.counts (some c) (some e.meaning) s := by
  rw [takeEntrySend, loaded]

/-- A send writes the Bell Units and the attention records only. -/
theorem takeSend_rest (groups : List Nat) (entry : Option CodeId) (meaning : Option Meaning) :
    { takeSend x groups entry meaning s with bu := s.bu, au := s.au } = s := by
  unfold takeSend
  dsimp only
  split <;> rfl

/-- R152: an IDLE sender takes the automatic ENTERING at once. -/
theorem autoEntering_idle {c : CodeId} {e : CodeEntry} (idle : (s.bu.get x).sender = none)
    (entry : lowestSendable s .entering none c e) :
    autoEntering x s = takeSend x e.counts (some c) (some .entering) s := by
  obtain ⟨loaded, -, meaning, -⟩ := id entry
  rw [autoEntering, entryToSend_eq_some.mpr ⟨e, entry⟩]
  simp only [idle, Option.isNone_none, if_true]
  rw [takeEntrySend_loaded loaded, meaning]

/-- R152: ENTERING owed after a send-completed notice. -/
theorem takeSendCompleted_eq (meaning : Option Meaning) (dropped : Bool) :
    takeSendCompleted x meaning dropped s = s.setOwed x (if dropped then true
      else if meaning = some .entering then false else s.trt.owed.get x) := by
  unfold takeSendCompleted
  cases dropped <;> by_cases entering : meaning = some .entering <;>
    simp [entering, State.setOwed]

variable (s x) in
/-- R116, R121, R152: the line after its send is completed, before a pending ENTERING is taken. -/
def sendCompleted (send : Send) : State :=
  let pending := (s.bu.get x).pendingEntering
  let active := decide ((s.blc.get x).health = .active)
  (takeSendCompleted x send.meaning (pending && !active) s).updBell x fun b =>
    { b with sender := none, pendingEntering := false, expected := some ⟨send.groups, 300⟩ }

theorem exec_sendCompletion {send : Send} (sending : (s.bu.get x).sender = some send)
    (ended : reached s.tb.tickCount (send.start + BitVec.ofNat 32 send.length) = true) :
    exec (.sendCompletion x) s = .next
      (if (s.bu.get x).pendingEntering && decide ((s.blc.get x).health = .active) then
        autoEntering x (sendCompleted s x send) else sendCompleted s x send) := by
  have due : completedSend x s = some send := by simp only [completedSend, sending, ended, if_true]
  change execSendCompletion x s = _
  rw [execSendCompletion, due]
  rfl

end

/-- Settles O35: no pending ENTERING, a pending one dropped, and a pending one taken. -/
theorem sendCompletionSetsTheExpectation : Obligations.SendCompletionSetsTheExpectation := by
  intro s x send sending ended cleared idle
  have completed := exec_sendCompletion sending ended
  refine ⟨fun none_ => ?_, fun waits faulty => ?_, fun c e waits healthy entry => ?_⟩
  · rw [completed, none_]
    simp [sendCompleted, takeSendCompleted_eq, none_, State.setOwed, State.updBell, idle, cleared]
  · have inactive : ¬(s.blc.get x).health = .active := by rw [health_active_iff]; omega
    rw [completed]
    simp [sendCompleted, takeSendCompleted_eq, waits, inactive, State.setOwed, State.updBell, idle]
  · have active : (s.blc.get x).health = .active := health_active_iff.mpr healthy
    have kept : sendCompleted s x send = { s with
        bu := s.bu.set x idle, trt := { s.trt with owed := s.trt.owed.set x cleared } } := by
      simp [sendCompleted, takeSendCompleted_eq, waits, active, State.setOwed, State.updBell, idle,
        cleared]
    have taken : autoEntering x (sendCompleted s x send) =
        takeSend x e.counts (some c) (some .entering) (sendCompleted s x send) :=
      autoEntering_idle (by simp [kept, idle]) (by rw [kept]; exact entry)
    have run : exec (.sendCompletion x) s = .next
        (takeSend x e.counts (some c) (some .entering) (sendCompleted s x send)) := by
      rw [completed, waits, active, ← taken]
      rfl
    refine ⟨_, run, (takeSend_taken _ _ _ _ _).of_eq ?_ ?_ ?_ ?_ rfl rfl, ?_⟩
    · rw [kept]
    · rw [kept]
    · rw [kept]
    · rw [kept]
    · have rest := congrArg (fun u : State => { u with bu := s.bu })
        (takeSend_rest (s := sendCompleted s x send) (x := x) e.counts (some c) (some .entering))
      rw [kept] at rest ⊢
      exact rest

end Sys2Proof.Machine

/-! READ_CODE and RELEASE_CODE: the older unreleased code shown, and freed. -/

namespace Sys2Proof.Machine

/-! ### Bytes of a stored code -/

/-- R187: a pattern as a list: the count, then the groups. -/
theorem patternList_bytes (groups : List Nat) :
    patternList groups = BitVec.ofNat 8 groups.length :: groups.map (BitVec.ofNat 8) := by
  have bytes := listBytes_bytesOne_map id groups
  rwa [List.map_id] at bytes

/-- R187: seven flags in one byte. -/
theorem bitsByte_seven (a b c d e f g : Bool) : bitsByte [a, b, c, d, e, f, g] =
    BitVec.ofNat 8 (a.toNat + 2 * b.toNat + 4 * c.toNat + 8 * d.toNat + 16 * e.toNat +
      32 * f.toNat + 64 * g.toNat) := by
  simp only [bitsByte, List.foldr]
  congr 1
  omega

/-- R197: the entry of a stored code, 255 when absent. -/
theorem heard_entryByte (heard : Heard) : orAbsent heard.entryNo =
    [match heard with | .recognised e _ _ => BitVec.ofNat 8 e.val | _ => 255] := by
  cases heard <;> rfl

/-- R187, R197: the meaning of a stored code. -/
theorem heardNo_byte (heard : Heard) : bytesOne (heardNo heard) = [match heard with
    | .recognised _ .callAttention _ => 0 | .recognised _ .offer _ => 1
    | .recognised _ .entering _ => 2 | .recognised _ .outOfSection _ => 3
    | .recognised _ .cancel _ => 4 | .recognised _ .obstructionDanger _ => 5
    | .recognised _ .obstructionRemoved _ => 6 | .recognised _ .testing _ => 7
    | .recognised _ .information _ => 8 | .unrecognised => 9 | .malformed => 10] := by
  cases heard with
  | recognised e m cls => cases m <;> rfl
  | unrecognised => rfl
  | malformed => rfl

/-- R197: the class of a stored code, 0 when absent. -/
theorem heard_classByte (heard : Heard) : orZero heard.classNo =
    [match heard with | .recognised _ _ (some n) => BitVec.ofNat 8 n | _ => 0] := by
  cases heard with
  | recognised e m cls => cases cls <;> rfl
  | unrecognised => rfl
  | malformed => rfl

/-! ### The older unreleased buffer -/

/-- The buffer (true is buffer 1) that holds the older unreleased code `c` (R112). -/
def BellUnit.OlderIn (b : BellUnit) (c : StoredCode) (one : Bool) : Prop :=
  (b.buffer0 = some c ∧ one = false ∧ (b.buffer1 = none ∨ b.turn = false)) ∨
    (b.buffer1 = some c ∧ one = true ∧ (b.buffer0 = none ∨ b.turn = true))

section
variable {b : BellUnit} {c : StoredCode} {one : Bool} (holds : b.OlderIn c one)
include holds

theorem BellUnit.OlderIn.olderIsOne : b.olderIsOne = one := by
  unfold BellUnit.olderIsOne
  rcases holds with ⟨filled, rfl, other⟩ | ⟨filled, rfl, other⟩ <;>
    rcases other with empty | turn <;> simp_all

theorem BellUnit.OlderIn.older : b.older = some c := by
  unfold BellUnit.older
  rw [holds.olderIsOne]
  rcases holds with ⟨filled, rfl, -⟩ | ⟨filled, rfl, -⟩ <;> exact filled

theorem BellUnit.OlderIn.unreleased : b.unreleased ≠ 0 := by
  unfold BellUnit.unreleased
  rcases holds with ⟨filled, -, -⟩ | ⟨filled, -, -⟩ <;> simp [filled]

/-- R114: the older code's buffer is freed, the other kept, and OVERRUN cleared. -/
theorem BellUnit.OlderIn.released : b.releaseOlder = { b with
    buffer0 := if one then b.buffer0 else none
    buffer1 := if one then none else b.buffer1
    overrun := false } := by
  unfold BellUnit.releaseOlder
  rw [holds.olderIsOne]
  cases one <;> rfl

end

section
variable {s : State} {x : Line}

/-- R113: READ_CODE shows the older unreleased code. -/
theorem takeReadCode_older {c : StoredCode} (older : (s.bu.get x).older = some c) :
    takeReadCode (lineNo x) s = (s, .done (s.codeData x c)) := by
  rw [takeReadCode, lineOf_inverse.eq x]
  dsimp only
  rw [older]

/-- R114: RELEASE_CODE frees the older unreleased code. -/
theorem takeReleaseCode_older (some_ : (s.bu.get x).unreleased ≠ 0) :
    takeReleaseCode (lineNo x) s = (s.updBell x BellUnit.releaseOlder,
      .done (bytesOne ((s.bu.get x).unreleased - 1) ++ bytesOne (flagNo (s.bu.get x).overrun))) := by
  rw [takeReleaseCode, lineOf_inverse.eq x]
  exact if_neg some_

/-- R113, R114: with no unreleased code both are refused. -/
theorem takeCode_empty (empty0 : (s.bu.get x).buffer0 = none)
    (empty1 : (s.bu.get x).buffer1 = none) :
    takeReadCode (lineNo x) s = (s, .noRecord) ∧ takeReleaseCode (lineNo x) s = (s, .noRecord) := by
  have older : (s.bu.get x).older = none := by simp [BellUnit.older, empty0, empty1]
  have unreleased : (s.bu.get x).unreleased = 0 := by simp [BellUnit.unreleased, empty0, empty1]
  rw [takeReadCode, takeReleaseCode, lineOf_inverse.eq x]
  dsimp only
  rw [older]
  exact ⟨rfl, if_pos unreleased⟩

/-- R113, R114: a number of no line. -/
theorem takeCode_range {n : Nat} (above : 3 ≤ n) :
    takeReadCode n s = (s, .badArgument 1) ∧ takeReleaseCode n s = (s, .badArgument 1) := by
  rw [takeReadCode, takeReleaseCode, lineOf_eq_none (by omega)]
  exact ⟨rfl, rfl⟩

end

/-- Settles O30: the older code shown and freed, nothing to show, and no such line. -/
theorem receivedCodesAreReadAndReleasedOldestFirst :
    Obligations.ReceivedCodesAreReadAndReleasedOldestFirst := by
  intro s x free
  refine ⟨fun c one (holds : (s.bu.get x).OlderIn c one) => ⟨?read, ?release⟩,
    fun empty0 empty1 => ⟨serve_eq free (takeCode_empty empty0 empty1).1,
      serve_eq free (takeCode_empty empty0 empty1).2⟩,
    fun n above => ⟨serve_eq free (takeCode_range above).1, serve_eq free (takeCode_range above).2⟩⟩
  case read =>
    refine ⟨s.fill (9 + 1 + c.groups.length) (6 - c.groups.length), fill_length _ _ _, ?_⟩
    have answer := serve_eq (n := 39) free (takeReadCode_older holds.older)
    rw [State.codeData, State.patternBytes, ← patternList, patternList_bytes] at answer
    simp only [bitsByte_seven, heard_entryByte, heardNo_byte, heard_classByte] at answer
    simp only [List.append_assoc] at answer ⊢
    exact answer
  case release =>
    refine ⟨_, serve_eq free (takeReleaseCode_older holds.unreleased), ?_, fun y other => ?_, rfl⟩
    · rw [State.holding_bu, State.updBell_bu, PerLine.get_set_self, holds.released]
    · rw [State.holding_bu, State.updBell_bu, PerLine.get_set_ne _ _ other]

end Sys2Proof.Machine

/-! The sends of a line: the wave on BELL_OUT, SEND_CODE and ACKNOWLEDGE, and OFFER. -/

namespace Sys2Proof.Machine

/-! ### The wave of a send -/

/-- R115: when the beat numbered `beat` (from 0) of a group starts, in ticks from the start tick of the
send; `before` are the groups sent before that group. -/
def beatRise (t : Timing) (before : List Nat) (beat : Nat) : Nat :=
  (before.sum + beat) * t.on + ((before.map fun g => g - 1).sum + beat) * t.intra +
    before.length * t.group

/-- R115: the length of one group. -/
def groupTicks (t : Timing) (g : Nat) : Nat := g * t.on + (g - 1) * t.intra

section
variable (t : Timing)

theorem beatRise_nil (beat : Nat) : beatRise t [] beat = beat * t.on + beat * t.intra := by
  simp [beatRise]

theorem beatRise_cons (g : Nat) (before : List Nat) (beat : Nat) :
    beatRise t (g :: before) beat = groupTicks t g + t.group + beatRise t before beat := by
  simp only [beatRise, groupTicks, List.sum_cons, List.map_cons, List.length_cons]
  ring

/-- The last beat of a group ends with the group. -/
theorem beatRise_within {g beat : Nat} (inGroup : beat < g) :
    beatRise t [] beat + t.on ≤ groupTicks t g := by
  have beats : (beat + 1) * t.on ≤ g * t.on := Nat.mul_le_mul_right _ inGroup
  have gaps : beat * t.intra ≤ (g - 1) * t.intra := Nat.mul_le_mul_right _ (by omega)
  rw [beatRise_nil, groupTicks]
  rw [Nat.add_mul] at beats
  omega

/-- R115: within a group the output is high for ON ticks at each beat. -/
theorem waveLevel_groupWave (g n : Nat) : waveLevel (groupWave t g) n = true ↔
    ∃ beat, beat < g ∧ beatRise t [] beat ≤ n ∧ n < beatRise t [] beat + t.on := by
  simp only [beatRise_nil]
  induction g using groupWave.induct generalizing n with
  | case1 => simp [groupWave, waveLevel]
  | case2 =>
    constructor
    · intro high
      exact ⟨0, by omega, by omega, by simpa [groupWave, waveLevel] using high⟩
    · rintro ⟨beat, below, -, early⟩
      obtain rfl : beat = 0 := by omega
      simpa [groupWave, waveLevel] using early
  | case3 g notZero ih =>
    have later (beat : Nat) : (beat + 1) * t.on + (beat + 1) * t.intra =
        beat * t.on + beat * t.intra + t.on + t.intra := by ring
    have wave : waveLevel (groupWave t (g + 1)) n =
        if n < t.on then true else if n - t.on < t.intra then false
        else waveLevel (groupWave t g) (n - t.on - t.intra) := by
      rw [groupWave]
      · rfl
      · exact notZero
    rw [wave]
    split
    · next early => exact ⟨fun _ => ⟨0, by omega, by omega, by omega⟩, fun _ => rfl⟩
    · next late =>
      split
      · next gap =>
        refine ⟨nofun, ?_⟩
        rintro ⟨beat, -, from_, till⟩
        cases beat with
        | zero => omega
        | succ beat => rw [later] at from_; omega
      · next past =>
        rw [ih]
        constructor
        · rintro ⟨beat, below, from_, till⟩
          exact ⟨beat + 1, by omega, by rw [later]; omega, by rw [later]; omega⟩
        · rintro ⟨beat, below, from_, till⟩
          cases beat with
          | zero => omega
          | succ beat =>
            rw [later] at from_ till
            exact ⟨beat, by omega, by omega, by omega⟩

/-- R115: the wave after the first of several groups. -/
theorem waveLevel_sendWave_cons (g h : Nat) (rest : List Nat) (n : Nat) :
    waveLevel (sendWave t (g :: h :: rest)) n =
      if n < groupTicks t g then waveLevel (groupWave t g) n
      else if n - groupTicks t g < t.group then false
      else waveLevel (sendWave t (h :: rest)) (n - groupTicks t g - t.group) := by
  rw [sendWave, waveLevel_append, groupWave_length]
  · rfl
  · exact nofun

/-- R115: over a send the output is high for ON ticks at each beat of each group. -/
theorem waveLevel_sendWave (groups : List Nat) (n : Nat) : waveLevel (sendWave t groups) n = true ↔
    ∃ before c after beat, groups = before ++ c :: after ∧ beat < c ∧
      beatRise t before beat ≤ n ∧ n < beatRise t before beat + t.on := by
  induction groups generalizing n with
  | nil => simp [sendWave, waveLevel]
  | cons g rest ih =>
    have first : waveLevel (groupWave t g) n = true → ∃ before c after beat,
        g :: rest = before ++ c :: after ∧ beat < c ∧
          beatRise t before beat ≤ n ∧ n < beatRise t before beat + t.on := by
      intro high
      obtain ⟨beat, below, from_, till⟩ := (waveLevel_groupWave t g n).mp high
      exact ⟨[], g, rest, beat, rfl, below, from_, till⟩
    cases rest with
    | nil =>
      refine ⟨first, ?_⟩
      rintro ⟨before, c, after, beat, split_, below, from_, till⟩
      obtain ⟨rfl, rest⟩ | ⟨_, -, rest⟩ := List.cons_eq_append_iff.mp split_
      · cases rest
        exact (waveLevel_groupWave t g n).mpr ⟨beat, below, from_, till⟩
      · simp at rest
    | cons h rest =>
      rw [waveLevel_sendWave_cons]
      constructor
      · intro high
        split at high
        · exact first high
        · split at high
          · cases high
          · obtain ⟨before, c, after, beat, split_, below, from_, till⟩ := (ih _).mp high
            refine ⟨g :: before, c, after, beat, by rw [split_]; rfl, below, ?_⟩
            rw [beatRise_cons]
            omega
      · rintro ⟨before, c, after, beat, split_, below, from_, till⟩
        obtain ⟨rfl, head⟩ | ⟨before', rfl, tail⟩ := List.cons_eq_append_iff.mp split_
        · cases head
          have within := beatRise_within t below
          rw [if_pos (by omega)]
          exact (waveLevel_groupWave t g n).mpr ⟨beat, below, from_, till⟩
        · rw [beatRise_cons] at from_ till
          rw [if_neg (by omega), if_neg (by omega)]
          exact (ih _).mpr ⟨before', c, after, beat, tail, below, by omega, by omega⟩

/-- R115: the length of a send by its beats, where no group is empty. -/
theorem sendLength_of_pos {groups : List Nat} (pos : ∀ g ∈ groups, 1 ≤ g) : sendLength t groups =
    groups.sum * t.on + (groups.sum - groups.length) * t.intra + (groups.length - 1) * t.group := by
  have gaps : (groups.map fun g => g - 1).sum + groups.length = groups.sum := by
    induction groups with
    | nil => rfl
    | cons g rest ih =>
      have one := pos g List.mem_cons_self
      have others := ih fun h listed => pos h (List.mem_cons_of_mem _ listed)
      simp only [List.map_cons, List.sum_cons, List.length_cons]
      omega
  rw [sendLength, show (groups.map fun g => g - 1).sum = groups.sum - groups.length by omega]

/-- R115: a send ends ON ticks after the rise of its last beat. -/
theorem sendLength_last (before : List Nat) (c : Nat) :
    sendLength t (before ++ [c + 1]) = beatRise t before c + t.on := by
  simp only [sendLength, beatRise, List.sum_append, List.map_append, List.length_append,
    List.sum_singleton, List.map_cons, List.map_nil, List.length_singleton, Nat.add_sub_cancel]
  ring

end

section
variable {s : State} {x : Line}

/-- R115: BELL_OUT is low with an IDLE sender. -/
theorem bellOut_idle (idle : (s.bu.get x).sender = none) : s.bellOut x = false := by
  rw [State.bellOut, idle]

/-- R115: BELL_OUT is high in the ON ticks of each beat of the send in progress. -/
theorem bellOut_sending {send : Send} (sending : (s.bu.get x).sender = some send) :
    let now := (s.tb.tickCount - send.start).toNat
    s.bellOut x = true ↔ now < 2147483648 ∧ ∃ before c after beat,
      send.groups = before ++ c :: after ∧ beat < c ∧
        beatRise s.cfg.timing before beat ≤ now ∧
        now < beatRise s.cfg.timing before beat + s.cfg.timing.on := by
  intro now
  rw [State.bellOut, sending]
  dsimp only
  rw [Bool.and_eq_true, waveLevel_sendWave, reached, decide_eq_true_eq]

/-! ### A request that takes a send -/

/-- R116, R177: a request that takes a send answers, and leaves what the send leaves. -/
theorem serve_sends {n : Byte} {take : State → State × Reply} {groups : List Nat}
    {entry : Option CodeId} {meaning : Option Meaning} {data : List Byte} (free : s.portFree)
    (answer : take s = (takeSend x groups entry meaning s, .done data)) :
    ∃ t, serve n take s = .next t ∧ SendTaken x groups entry meaning s t ∧
      { t with bu := s.bu, au := s.au } = s.holding (replyBytes 0 n data) :=
  ⟨_, serve_eq free answer, (takeSend_taken x groups entry meaning s).of_eq rfl rfl rfl rfl rfl rfl,
    congrArg (fun u : State => u.holding (replyBytes 0 n data)) (takeSend_rest groups entry meaning)⟩

theorem not_suspended (below : (s.blc.get x).count < 255) : ¬(s.blc.get x).suspended = true := by
  rw [suspended_iff]; omega

theorem sending_isSome (sending : (s.bu.get x).sender ≠ none) :
    (s.bu.get x).sender.isSome = true := Option.isSome_iff_ne_none.mpr sending

/-! ### SEND_CODE -/

theorem codeOf_eq_none {n : Nat} (above : 32 ≤ n) : codeOf n = none := dif_neg (by omega)

/-- R119 order 5: what SEND_CODE does not send. -/
theorem sendableByHost_eq_false {owed : Bool} {m : Meaning} : sendableByHost owed m = false ↔
    m = .offer ∨ m = .outOfSection ∨ m = .cancel ∨ (m = .entering ∧ owed = false) := by
  cases m <;> simp [sendableByHost]

variable (s) in
theorem takeSendCode_config (config : s.device = .config) (n m : Nat) :
    takeSendCode n m s = (s, .state) := if_pos config

variable (service : s.device = .service)
include service

theorem takeSendCode_noLine {n : Nat} (above : 3 ≤ n) (m : Nat) :
    takeSendCode n m s = (s, .badArgument 1) := by
  rw [takeSendCode, if_neg (by simp [service]), lineOf_eq_none (by omega)]

theorem takeSendCode_noEntry {m : Nat} (above : 32 ≤ m) :
    takeSendCode (lineNo x) m s = (s, .badArgument 2) := by
  rw [takeSendCode, if_neg (by simp [service]), lineOf_inverse.eq x, codeOf_eq_none above]

theorem takeSendCode_unloaded {c : CodeId} (empty : s.cfg.codes[c] = none) :
    takeSendCode (lineNo x) c.val s = (s, .noRecord) := by
  rw [takeSendCode, if_neg (by simp [service]), lineOf_inverse.eq x, codeOf_val]
  dsimp only
  rw [empty]

/-- R119: SEND_CODE of a loaded entry, from order 4 on. -/
theorem takeSendCode_loaded {c : CodeId} {e : CodeEntry} (loaded : s.cfg.codes[c] = some e) :
    takeSendCode (lineNo x) c.val s =
      if !e.sendable then (s, .badArgument 2)
      else if !sendableByHost (s.trt.owed.get x) e.meaning then (s, .badArgument 2)
      else if (s.blc.get x).suspended then (s, .state)
      else if (s.bu.get x).sender.isSome then (s, .busy)
      else (takeSend x e.counts (some c) (some e.meaning) s,
        .done (bytesTwo (sendLength s.cfg.timing e.counts))) := by
  rw [takeSendCode, if_neg (by simp [service]), lineOf_inverse.eq x, codeOf_val]
  dsimp only
  rw [loaded]

/-- R119 orders 4 and 5: what SEND_CODE refuses for its entry. -/
def EntryRefused (e : CodeEntry) (owed : Bool) : Prop :=
  e.sendable = false ∨ e.meaning = .offer ∨ e.meaning = .outOfSection ∨ e.meaning = .cancel ∨
    (e.meaning = .entering ∧ owed = false)

theorem takeSendCode_refused {c : CodeId} {e : CodeEntry} (loaded : s.cfg.codes[c] = some e)
    (refused : EntryRefused e (s.trt.owed.get x)) :
    takeSendCode (lineNo x) c.val s = (s, .badArgument 2) := by
  rw [takeSendCode_loaded service loaded]
  rcases refused with unsendable | meaning
  · rw [if_pos (by simp [unsendable])]
  · rw [sendableByHost_eq_false.mpr meaning]
    exact ite_self _

/-- R119: SEND_CODE of an entry that may be sent, from order 6 on. -/
theorem takeSendCode_allowed {c : CodeId} {e : CodeEntry} (loaded : s.cfg.codes[c] = some e)
    (allowed : ¬EntryRefused e (s.trt.owed.get x)) : takeSendCode (lineNo x) c.val s =
      if (s.blc.get x).suspended then (s, .state)
      else if (s.bu.get x).sender.isSome then (s, .busy)
      else (takeSend x e.counts (some c) (some e.meaning) s,
        .done (bytesTwo (sendLength s.cfg.timing e.counts))) := by
  obtain ⟨sendable, meaning⟩ := not_or.mp allowed
  rw [takeSendCode_loaded service loaded, if_neg (by simpa using sendable),
    if_neg (by rw [Bool.not_eq_true', sendableByHost_eq_false]; exact meaning)]

/-! ### ACKNOWLEDGE -/

omit service in
variable (s) in
theorem takeAcknowledge_config (config : s.device = .config) (n : Nat) :
    takeAcknowledge n s = (s, .state) := if_pos config

theorem takeAcknowledge_noLine {n : Nat} (above : 3 ≤ n) :
    takeAcknowledge n s = (s, .badArgument 1) := by
  rw [takeAcknowledge, if_neg (by simp [service]), lineOf_eq_none (by omega)]

theorem takeAcknowledge_suspended (shut : 255 ≤ (s.blc.get x).count) :
    takeAcknowledge (lineNo x) s = (s, .state) := by
  rw [takeAcknowledge, if_neg (by simp [service]), lineOf_inverse.eq x]
  exact if_pos (suspended_iff.mpr shut)

variable (below : (s.blc.get x).count < 255)
include below

theorem takeAcknowledge_nothing (none_ : (s.bu.get x).lastRecognised = none) :
    takeAcknowledge (lineNo x) s = (s, .noRecord) := by
  rw [takeAcknowledge, if_neg (by simp [service]), lineOf_inverse.eq x]
  dsimp only
  rw [if_neg (not_suspended below), none_]

/-- R120: ACKNOWLEDGE of a line with a last recognised code. -/
theorem takeAcknowledge_code {c : RecognisedCode} (last : (s.bu.get x).lastRecognised = some c) :
    takeAcknowledge (lineNo x) s =
      if (s.bu.get x).sender.isSome then (s, .busy)
      else (takeSend x c.groups none none s,
        .done (patternList c.groups ++ bytesTwo (sendLength s.cfg.timing c.groups))) := by
  rw [takeAcknowledge, if_neg (by simp [service]), lineOf_inverse.eq x]
  dsimp only
  rw [if_neg (not_suspended below), last]

end

/-- R115, R126, R199: the levels on the pins of a line, for O32. -/
theorem linePins (s : State) (x : Line) :
    (s.instrOutP x = true ↔ (s.blc.get x).inInstrument = .clear) ∧
    (s.instrOutN x = true ↔ (s.blc.get x).inInstrument = .onLine) ∧
    ¬(s.instrOutP x = true ∧ s.instrOutN x = true) := by
  simp only [State.instrOutP, State.instrOutN, decide_eq_true_eq, true_and]
  rintro ⟨positive, negative⟩
  rw [positive] at negative
  cases negative

/-- Settles O32: the pins, the length of a send, and the two requests in the order of their rules. -/
theorem hostSendsFollowTheirOrder : Obligations.HostSendsFollowTheirOrder := by
  refine ⟨fun s x => ⟨bellOut_idle, fun send sending => bellOut_sending sending, linePins s x⟩,
    fun t groups pos => sendLength_of_pos t pos, sendLength_last, fun s free =>
    ⟨fun config => ⟨fun n m => serve_eq free (takeSendCode_config s config n m),
      fun n => serve_eq free (takeAcknowledge_config s config n)⟩, fun service =>
    ⟨fun n m above => serve_eq free (takeSendCode_noLine service above m),
      fun n above => serve_eq free (takeAcknowledge_noLine service above), fun x =>
    ⟨fun m above => serve_eq free (takeSendCode_noEntry service above),
      fun c empty => serve_eq free (takeSendCode_unloaded service empty), ?sendCode,
      fun shut => serve_eq free (takeAcknowledge_suspended service shut),
      fun below none_ => serve_eq free (takeAcknowledge_nothing service below none_),
      ?acknowledge⟩⟩⟩⟩
  case sendCode =>
    intro c e loaded
    have allowed (open_) := takeSendCode_allowed (x := x) service loaded open_
    refine ⟨fun refused => serve_eq free (takeSendCode_refused service loaded refused),
      fun open_ shut => serve_eq free ((allowed open_).trans (if_pos (suspended_iff.mpr shut))),
      fun open_ below sending => ?_, fun open_ below idle => serve_sends free ?_⟩
    · have busy : takeSendCode (lineNo x) c.val s = (s, .busy) := by
        rw [allowed open_, if_neg (not_suspended below), if_pos (sending_isSome sending)]
      exact serve_eq free busy
    · rw [allowed open_, if_neg (not_suspended below), if_neg (by simp [idle])]
      rfl
  case acknowledge =>
    intro c below last
    have answer := takeAcknowledge_code service below last
    refine ⟨fun sending => serve_eq free (answer.trans (if_pos (sending_isSome sending))),
      fun idle => serve_sends free (answer.trans ?_)⟩
    rw [if_neg (by simp [idle]), patternList_bytes]

/-! ### OFFER -/

section
variable {s : State} {x : Line} {r : TrainId} {v : Train}

/-- R69: the block hold ensured on a line with its starter. -/
theorem ensureBlock_of_starter {l : LeverId} (starter : (s.cfg.lines.get x).starter = some l) :
    (ensureBlock x s).ht[blockEntry x] = match s.ht[blockEntry x] with
      | none => some ⟨.block x, l, .normal, s.tb.clock⟩
      | some hold => some hold := by
  rw [ensureBlock_entry, starter]
  cases s.ht[blockEntry x] <;> rfl

/-- R135, R136: the block hold after a standing under which the block condition fails: ensured. -/
theorem setStanding_ensures {st : Standing} (other : st ≠ .accepted) (service : s.device = .service) :
    (∀ l, (s.cfg.lines.get x).starter = some l → (setStanding x st s).ht[blockEntry x] =
      match s.ht[blockEntry x] with
        | none => some ⟨.block x, l, .normal, s.tb.clock⟩
        | some hold => some hold) ∧
    ∀ h : HoldId, h ≠ blockEntry x → (setStanding x st s).ht[h] = s.ht[h] := by
  refine ⟨fun l starter => ?_, fun h ne => rejudge_other ne⟩
  have fails : ¬({ s.blc.get x with standing := st } : BlockLine).blockCondition = true := by
    rw [blockCondition_iff]
    rintro ⟨-, -, -, accepted⟩
    exact other accepted
  rw [setStanding, rejudge_entry, State.updLine_device, if_pos service, State.updLine_blc, PerLine.get_set_self,
    if_neg fails]
  exact ensureBlock_of_starter starter

/-- R150: the offer taken sends the entry, writes the half and gives the standing. -/
theorem offerOn_whole {c : CodeId} {e : CodeEntry} (service : s.device = .service)
    (live : s.trt.records[r] = some v) (loaded : s.cfg.codes[c] = some e) :
    SendTaken x e.counts (some c) (some e.meaning) s (offerOn x r c s) ∧
    (offerOn x r c s).trt.records[r] = some { v with
      outbound := .offered, destination := .line x
      stamps := { v.stamps with offeredOut := some s.tb.clock }
      outLapse := some (s.cfg.lines.get x).lapse } ∧
    (∀ q : TrainId, q ≠ r → (offerOn x r c s).trt.records[q] = s.trt.records[q]) ∧
    (offerOn x r c s).trt.owed = s.trt.owed ∧
    (offerOn x r c s).blc = s.blc.set x { s.blc.get x with standing := .offered } ∧
    (∀ l, (s.cfg.lines.get x).starter = some l → (offerOn x r c s).ht[blockEntry x] =
      match s.ht[blockEntry x] with
        | none => some ⟨.block x, l, .normal, s.tb.clock⟩
        | some hold => some hold) ∧
    (∀ h : HoldId, h ≠ blockEntry x → (offerOn x r c s).ht[h] = s.ht[h]) := by
  have trt : (offerOn x r c s).trt = (s.updTrain r fun t => { t with
      outbound := .offered, destination := .line x
      stamps := { t.stamps with offeredOut := some s.tb.clock }
      outLapse := some (s.cfg.lines.get x).lapse }).trt := by
    simp only [offerOn, setStanding_frame, State.updTrain_trt, takeEntrySend_frame]
  have sent := takeEntrySend_loaded (x := x) loaded
  have holds := setStanding_ensures (x := x) (st := .offered) nofun
    (s := (takeEntrySend x c s).updTrain r fun t => { t with
      outbound := .offered, destination := .line x
      stamps := { t.stamps with offeredOut := some s.tb.clock }
      outLapse := some (s.cfg.lines.get x).lapse })
    (by simp only [State.updTrain_device, takeEntrySend_frame, service])
  simp only [State.updTrain_cfg, State.updTrain_ht, State.updTrain_tb, takeEntrySend_frame] at holds
  refine ⟨?_, ?_, fun q other => ?_, ?_, ?_, holds⟩
  · refine (takeSend_taken x e.counts (some c) (some e.meaning) s).of_eq rfl rfl rfl rfl ?_ ?_ <;>
      simp only [offerOn, setStanding_frame, State.updTrain_bu, State.updTrain_au, sent]
  · rw [trt, State.updTrain_trt, tableUpdate_get_self, live]
    rfl
  · rw [trt, State.updTrain_trt, tableUpdate_get_ne _ _ other]
  · rw [trt]
    rfl
  · simp only [offerOn, setStanding, rejudge_frame, State.updLine_blc, State.updTrain_blc,
      takeEntrySend_frame]

/-- R150 orders 7 to 9: the offer of the entry found to send. -/
def offerWith (x : Line) (r : TrainId) (s : State) : Option CodeId → State × Reply
  | none => (s, .badArgument 1)
  | some c =>
    if (s.bu.get x).sender.isSome then (s, .busy)
    else (offerOn x r c s, .done (bytesOne c.val ++ bytesTwo (s.entryLength c)))

variable (s) in
theorem takeOffer_config (config : s.device = .config) (n m : Nat) :
    takeOffer n m s = (s, .state) := if_pos config

variable (service : s.device = .service)
include service

theorem takeOffer_noTrain {n : Nat} (out : n = 0 ∨ 12 < n) (m : Nat) :
    takeOffer n m s = (s, .badArgument 1) := by
  rw [takeOffer, if_neg (by simp [service]), trainOf_eq_none.mpr out]

theorem takeOffer_noLine {m : Nat} (above : 3 ≤ m) :
    takeOffer (r.val + 1) m s = (s, .badArgument 2) := by
  rw [takeOffer, if_neg (by simp [service]), trainOf_inverse.eq r, lineOf_eq_none (by omega)]

theorem takeOffer_free (empty : s.trt.records[r] = none) :
    takeOffer (r.val + 1) (lineNo x) s = (s, .noRecord) := by
  rw [takeOffer, if_neg (by simp [service]), trainOf_inverse.eq r, lineOf_inverse.eq x]
  dsimp only
  rw [empty]

variable (live : s.trt.records[r] = some v)
include live

/-- R150: OFFER of a live record, from order 4 on. -/
theorem takeOffer_live : takeOffer (r.val + 1) (lineNo x) s =
    if (s.blc.get x).suspended then (s, .state)
    else if (s.trt.outboundTrain x).isSome || decide (v.outbound ≠ .none) then (s, .state)
    else offerWith x r s (entryToSend s.cfg.codes .offer (some v.trainClass)) := by
  rw [takeOffer, if_neg (by simp [service]), trainOf_inverse.eq r, lineOf_inverse.eq x]
  dsimp only
  rw [live]
  dsimp only
  cases entryToSend s.cfg.codes .offer (some v.trainClass) <;> rfl

/-- R150: what refuses the offer of a live record on a line with STATE. -/
def OfferBlocked (s : State) (x : Line) (v : Train) : Prop :=
  255 ≤ (s.blc.get x).count ∨ (∃ q, outboundOn s q x) ∨ v.outbound ≠ .none

omit service live in
theorem outboundTrain_isSome : (s.trt.outboundTrain x).isSome = true ↔ ∃ q, outboundOn s q x := by
  rw [Option.isSome_iff_ne_none, ne_eq, outboundTrain_eq_none]
  simp only [not_forall, not_not]

theorem takeOffer_blocked (blocked : OfferBlocked s x v) :
    takeOffer (r.val + 1) (lineNo x) s = (s, .state) := by
  rw [takeOffer_live service live]
  rcases blocked with shut | occupied
  · exact if_pos (suspended_iff.mpr shut)
  · rw [if_pos (c := _ || _) (by simpa [outboundTrain_isSome] using occupied)]
    exact ite_self _

/-- R150: the offer that nothing blocks, from order 7 on. -/
theorem takeOffer_open (open_ : ¬OfferBlocked s x v) : takeOffer (r.val + 1) (lineNo x) s =
    offerWith x r s (entryToSend s.cfg.codes .offer (some v.trainClass)) := by
  obtain ⟨below, unoccupied⟩ := not_or.mp open_
  rw [takeOffer_live service live, if_neg (by rwa [suspended_iff]),
    if_neg (by simpa [outboundTrain_isSome] using unoccupied)]

end

/-- Settles O41: the refusals of OFFER in their order, then the offer taken. -/
theorem offerIsSentAndMirrored : Obligations.OfferIsSentAndMirrored := by
  intro s free
  refine ⟨fun n m config => serve_eq free (takeOffer_config s config n m), fun service =>
    ⟨fun n m out => serve_eq free (takeOffer_noTrain service out m),
      fun r m above => serve_eq free (takeOffer_noLine service above),
      fun r x empty => serve_eq free (takeOffer_free service empty), ?_⟩⟩
  intro r v x live answer blocked
  have open_ (ready : ¬blocked) := takeOffer_open (x := x) service live ready
  refine ⟨fun shut => serve_eq free (takeOffer_blocked service live shut),
    fun ready none_ => ?_, fun c e ready entry => ?_⟩
  · have unsendable := open_ ready
    rw [entryToSend_eq_none.mpr none_] at unsendable
    exact serve_eq free unsendable
  · have found := open_ ready
    rw [entryToSend_eq_some.mpr ⟨e, entry⟩] at found
    obtain ⟨loaded, -, meaning, -⟩ := entry
    refine ⟨fun sending => serve_eq free (found.trans (if_pos (sending_isSome sending))),
      fun idle => ?_⟩
    obtain ⟨sent, record, records, owed, blc, block, holds⟩ :=
      offerOn_whole (x := x) service live loaded
    rw [meaning] at sent
    refine ⟨_, serve_eq free (found.trans (if_neg (by simp [idle]))),
      sent.of_eq rfl rfl rfl rfl rfl rfl, record, records, owed, blc, block, holds, ?_⟩
    simp only [State.holding, offerOn_frame, State.entryLength, loaded]
    rfl

end Sys2Proof.Machine

/-! The attention records: when a source is pending and with what detail, and the three requests of the
Attention Unit. -/

namespace Sys2Proof.Machine

/-! ### Level sources and latched sources -/

/-- R169: SCAN, CODE_x and OBSTRUCTION are level sources. -/
def IsLevel (i : SourceId) : Prop :=
  i = Source.id .scan ∨ (∃ x, i = Source.id (.code x)) ∨ i = Source.id .obstruction

/-- The level sources by their numbers, less 1. -/
theorem isLevel_iff {i : SourceId} : IsLevel i ↔
    i.val = 0 ∨ i.val = 6 ∨ i.val = 7 ∨ i.val = 8 ∨ i.val = 13 := by
  constructor
  · rintro (rfl | ⟨x, rfl⟩ | rfl)
    · decide
    · cases x <;> decide
    · decide
  · rintro (h | h | h | h | h)
    · exact .inl (Fin.ext h)
    · exact .inr (.inl ⟨.a, Fin.ext h⟩)
    · exact .inr (.inl ⟨.b, Fin.ext h⟩)
    · exact .inr (.inl ⟨.c, Fin.ext h⟩)
    · exact .inr (.inr (Fin.ext h))

/-- R170: the sources of fixed priority by their numbers, less 1. -/
theorem isFixed_iff {i : SourceId} : isFixed i = true ↔ i.val = 0 ∨ i.val = 1 ∨ i.val = 13 := by
  simp only [isFixed, Bool.or_eq_true, decide_eq_true_eq, or_assoc, Fin.ext_iff]
  rfl

section
variable (s : State)

theorem level_scan : s.level (Source.id .scan) = some (decide (s.sbc.scan = .lost)) := rfl

theorem level_code (x : Line) :
    s.level (Source.id (.code x)) = some (decide (0 < (s.bu.get x).unreleased)) := by
  cases x <;> rfl

theorem level_obstruction : s.level (Source.id .obstruction) =
    some (s.blc.a.obstruction || s.blc.b.obstruction || s.blc.c.obstruction) := rfl

variable {s} {i : SourceId}

/-- R169: the condition stands for the pending of a level source, and MULTIPLE is clear. -/
theorem level_source {holds : Bool} (level : s.level i = some holds) :
    s.sourcePending i = holds ∧ s.sourceMultiple i = false := by
  simp [State.sourcePending, State.sourceMultiple, level]

/-- R168: a latched source has no condition. -/
theorem level_latched (latched : ¬IsLevel i) : s.level i = none := by
  obtain ⟨scan, code, obstruction⟩ := by simpa only [IsLevel, not_or, not_exists] using latched
  simp [State.level, scan, code, obstruction]

/-- R168: a latched source is as its record says. -/
theorem latched_source (latched : ¬IsLevel i) : s.sourcePending i = s.au[i].pending ∧
    s.sourceMultiple i = s.au[i].multiple ∧
    s.sourceDetail i = if s.au[i].pending then s.au[i].detail else none := by
  have level := level_latched (s := s) latched
  have pending : s.sourcePending i = s.au[i].pending := by rw [State.sourcePending, level]; rfl
  obtain ⟨scan, code, obstruction⟩ := by simpa only [IsLevel, not_or, not_exists] using latched
  refine ⟨pending, by rw [State.sourceMultiple, level]; rfl, ?_⟩
  rw [State.sourceDetail, pending]
  simp [scan, code, obstruction]

theorem level_isSome (level : IsLevel i) : (s.level i).isSome = true := by
  rcases level with rfl | ⟨x, rfl⟩ | rfl
  · rfl
  · rw [level_code]; rfl
  · rfl

theorem level_sourceMultiple (level : IsLevel i) : s.sourceMultiple i = false := by
  rw [State.sourceMultiple, if_pos (level_isSome level)]

/-- The detail of a source that is not pending is absent (log 44). -/
theorem sourceDetail_quiet (quiet : ¬s.sourcePending i = true) : s.sourceDetail i = none := if_neg quiet

/-! ### The pending of each source -/

/-- R112: the number of unreleased buffers. -/
theorem unreleased_pos {b : BellUnit} : 0 < b.unreleased ↔ b.buffer0 ≠ none ∨ b.buffer1 ≠ none := by
  cases h0 : b.buffer0 <;> cases h1 : b.buffer1 <;> simp [BellUnit.unreleased, h0, h1]

theorem unreleased_eq {b : BellUnit} (some_ : b.buffer0 ≠ none ∨ b.buffer1 ≠ none) :
    b.unreleased = if b.buffer0 ≠ none ∧ b.buffer1 ≠ none then 2 else 1 := by
  cases h0 : b.buffer0 <;> cases h1 : b.buffer1 <;> simp_all [BellUnit.unreleased]

/-- A source that is pending exactly when `holds`, with `detail` then and none otherwise. -/
def Shows (s : State) (i : SourceId) (holds : Prop) (detail : Option Detail) : Prop :=
  (s.sourcePending i = true ↔ holds) ∧ (holds → s.sourceDetail i = detail) ∧
    (¬holds → s.sourceDetail i = none)

theorem shows_of_pending {holds : Prop} {detail : Option Detail}
    (pending : s.sourcePending i = true ↔ holds)
    (shown : s.sourcePending i = true → s.sourceDetail i = detail) : Shows s i holds detail :=
  ⟨pending, fun h => shown (pending.mpr h), fun h => sourceDetail_quiet fun p => h (pending.mp p)⟩

variable (s)

theorem scan_shows : Shows s (Source.id .scan) (s.sbc.scan = .lost) none := by
  refine shows_of_pending ?_ fun pending => if_pos pending
  rw [(level_source (level_scan s)).1, decide_eq_true_eq]

theorem code_shows (x : Line) : Shows s (Source.id (.code x))
    ((s.bu.get x).buffer0 ≠ none ∨ (s.bu.get x).buffer1 ≠ none)
    (some (.buffers (if (s.bu.get x).buffer0 ≠ none ∧ (s.bu.get x).buffer1 ≠ none then 2 else 1))) := by
  have pending : s.sourcePending (Source.id (.code x)) = true ↔
      (s.bu.get x).buffer0 ≠ none ∨ (s.bu.get x).buffer1 ≠ none := by
    rw [(level_source (level_code s x)).1, decide_eq_true_eq, unreleased_pos]
  refine shows_of_pending pending fun isPending => ?_
  rw [← unreleased_eq (pending.mp isPending), State.sourceDetail, if_pos isPending]
  cases x <;> rfl

theorem obstruction_shows : Shows s (Source.id .obstruction) (∃ x, (s.blc.get x).obstruction = true)
    (some (.lines ⟨s.blc.a.obstruction, s.blc.b.obstruction, s.blc.c.obstruction⟩)) := by
  refine shows_of_pending ?_ fun pending => if_pos pending
  rw [(level_source (level_obstruction s)).1, Bool.or_eq_true, Bool.or_eq_true]
  constructor
  · rintro ((a | b) | c)
    · exact ⟨.a, a⟩
    · exact ⟨.b, b⟩
    · exact ⟨.c, c⟩
  · rintro ⟨x, flag⟩
    cases x
    · exact .inl (.inl flag)
    · exact .inl (.inr flag)
    · exact .inr flag

theorem sourceActive_iff : s.sourceActive i = true ↔
    s.au[i].enabled = true ∧ s.sourcePending i = true := by
  rw [State.sourceActive, Bool.and_eq_true]

theorem attn_iff : s.attn = true ↔
    ∃ i : SourceId, s.au[i].enabled = true ∧ s.sourcePending i = true := by
  simp only [State.attn, List.any_eq_true, List.mem_finRange, true_and, sourceActive_iff]

end

/-! ### LOAD_ATTENTION -/

open Function (IsPartialInv)

theorem sourceOf_inverse : IsPartialInv (fun i : SourceId => i.val + 1) sourceOf := by
  intro i n
  unfold sourceOf
  split
  · simp only [Option.some.injEq, Fin.ext_iff]
    omega
  · simp only [reduceCtorEq, false_iff]
    omega

theorem sourceOf_eq_none {n : Nat} : sourceOf n = none ↔ n = 0 ∨ 14 < n := by
  simp only [sourceOf, dite_eq_right_iff, reduceCtorEq, imp_false]
  omega

section
variable {s : State} {i : SourceId}

theorem takeLoadAttention_service (service : s.device = .service) (n e p : Nat) :
    takeLoadAttention n e p s = (s, .state) := if_pos service

variable (config : s.device = .config)
include config

theorem takeLoadAttention_noSource {n : Nat} (out : n = 0 ∨ 14 < n) (e p : Nat) :
    takeLoadAttention n e p s = (s, .badArgument 1) := by
  rw [takeLoadAttention, if_neg (by simp [config]), sourceOf_eq_none.mpr out]

theorem takeLoadAttention_badEnable {e : Nat} (above : 1 < e) (p : Nat) :
    takeLoadAttention (i.val + 1) e p s = (s, .badArgument 2) := by
  rw [takeLoadAttention, if_neg (by simp [config]), sourceOf_inverse.eq i, yesNoOf_eq_none above]

theorem takeLoadAttention_badPriority (e : Bool) {p : Nat} (free : ¬isFixed i = true) (above : 7 < p) :
    takeLoadAttention (i.val + 1) e.toNat p s = (s, .badArgument 3) := by
  have refused : loadedPriority s i p = none := by
    rw [loadedPriority, if_neg free, if_neg (by omega)]
  rw [takeLoadAttention, if_neg (by simp [config]), sourceOf_inverse.eq i, yesNoOf_toNat]
  dsimp only
  rw [refused]

theorem takeLoadAttention_loads (e : Bool) {p : Nat} (fits : isFixed i = true ∨ p ≤ 7) :
    takeLoadAttention (i.val + 1) e.toNat p s = (s.updSource i fun r => { r with
      enabled := e, priority := if isFixed i then s.au[i].priority else p }, .ok) := by
  have loaded : loadedPriority s i p = some (if isFixed i then s.au[i].priority else p) := by
    unfold loadedPriority
    split
    · rfl
    · next free => rw [if_pos (fits.resolve_left free)]
  rw [takeLoadAttention, if_neg (by simp [config]), sourceOf_inverse.eq i, yesNoOf_toNat]
  dsimp only
  rw [loaded]

end

/-! ### NEXT_ATTENTION -/

/-- R187: the bits of flags gathered into a number, bit 0 first. -/
theorem testBit_foldr_flags {α : Type} (p : α → Bool) (l : List α) (k : Nat) :
    (l.foldr (fun i n => flagNo (p i) + 2 * n) 0).testBit k = (l[k]?.map p).getD false := by
  induction l generalizing k with
  | nil => simp
  | cons i l ih =>
    cases k with
    | zero => cases h : p i <;> simp [Nat.testBit_zero, flagNo, h, Nat.add_mod]
    | succ k =>
      have half (n : Nat) : (flagNo (p i) + 2 * n) / 2 = n := by
        cases p i <;> simp only [flagNo, Bool.toNat_true, Bool.toNat_false] <;> omega
      rw [List.foldr_cons, Nat.testBit_succ, half, ih]
      rfl

section
variable {s : State}

/-- R190: the pending flags are the number whose bits are the pending of the fourteen sources. -/
theorem pendingFlags_eq {flags : Nat} (below : flags < 16384)
    (bits : ∀ i : SourceId, flags.testBit i.val = s.sourcePending i) : s.pendingFlags = flags := by
  refine Nat.eq_of_testBit_eq fun k => ?_
  rw [State.pendingFlags, testBit_foldr_flags]
  by_cases inRange : k < 14
  · rw [bits ⟨k, inRange⟩]
    simp [inRange]
  · have wide : 2 ^ 14 ≤ 2 ^ k := Nat.pow_le_pow_right (by omega) (by omega)
    have high : flags.testBit k = false := Nat.testBit_lt_two_pow (below.trans_le wide)
    rw [high]
    simp [inRange]

variable {active : List SourceId} (listed : ∀ i, i ∈ active ↔
  s.au[i].enabled = true ∧ s.sourcePending i = true)
include listed

/-- R172: the number of enabled pending sources. -/
theorem activeCount_eq (once : active.Nodup) : s.activeCount = active.length := by
  rw [State.activeCount, countOf, List.countP_eq_length_filter]
  refine List.Perm.length_eq ((List.perm_ext_iff_of_nodup
    ((List.nodup_finRange 14).filter _) once).mpr fun i => ?_)
  rw [List.mem_filter, listed, sourceActive_iff]
  simp

/-- R170, R172: the source ranked first is the one that no other outranks. -/
theorem topSource_eq_some {i : SourceId} (first : i ∈ active)
    (ranked : ∀ j ∈ active, s.rank j < s.rank i ∨ (s.rank j = s.rank i ∧ i.val ≤ j.val)) :
    s.topSource = some i := by
  have ranksFirst_iff (i : SourceId) : s.ranksFirst i = true ↔ i ∈ active ∧
      ∀ j ∈ active, s.rank j < s.rank i ∨ (s.rank j = s.rank i ∧ i.val ≤ j.val) := by
    simp only [State.ranksFirst, Bool.and_eq_true, List.all_eq_true, List.mem_finRange,
      Bool.or_eq_true, Bool.not_eq_true', ← Bool.not_eq_true, sourceActive_iff, ← listed,
      decide_eq_true_eq, forall_const, or_assoc, imp_iff_not_or]
  refine lowest_eq_some.mpr ⟨(ranksFirst_iff i).mpr ⟨first, ranked⟩, fun j lower => ?_⟩
  rw [← Bool.not_eq_true, ranksFirst_iff]
  rintro ⟨active_, outranks⟩
  have below := ranked j active_
  have above := outranks i first
  omega

theorem topSource_eq_none (empty : active = []) : s.topSource = none := by
  refine lowest_eq_none.mpr fun i => ?_
  have inactive : s.sourceActive i = false := by
    rw [← Bool.not_eq_true, sourceActive_iff, ← listed, empty]
    exact List.not_mem_nil
  rw [State.ranksFirst, inactive, Bool.false_and]

end

/-! ### CLEAR_ATTENTION -/

section
variable {s : State} {i : SourceId}

theorem takeClearAttention_noSource {n : Nat} (out : n = 0 ∨ 14 < n) :
    takeClearAttention n s = (s, .badArgument 1) := by
  rw [takeClearAttention, sourceOf_eq_none.mpr out]

theorem takeClearAttention_source : takeClearAttention (i.val + 1) s =
    (if (s.level i).isSome then s else s.updSource i SourceRecord.clear, .done (s.clearReport i)) := by
  rw [takeClearAttention, sourceOf_inverse.eq i]

/-- R174: a level source is reported and left. -/
theorem takeClearAttention_level (level : IsLevel i) : takeClearAttention (i.val + 1) s =
    (s, .done ([BitVec.ofNat 8 (i.val + 1), BitVec.ofNat 8 (s.sourcePending i).toNat] ++
      detailBytes (s.sourceDetail i) ++ [0])) := by
  rw [takeClearAttention_source, if_pos (level_isSome level), State.clearReport,
    level_sourceMultiple level]
  rfl

/-- R174: a latched source is reported and its record cleared. -/
theorem takeClearAttention_latched (latched : ¬IsLevel i) : takeClearAttention (i.val + 1) s =
    (s.updSource i SourceRecord.clear,
      .done ([BitVec.ofNat 8 (i.val + 1), BitVec.ofNat 8 s.au[i].pending.toNat] ++
        detailBytes (if s.au[i].pending then s.au[i].detail else none) ++
        [BitVec.ofNat 8 s.au[i].multiple.toNat])) := by
  obtain ⟨pending, multiple, detail⟩ := latched_source (s := s) latched
  rw [takeClearAttention_source, level_latched latched, State.clearReport, pending, multiple, detail]
  rfl

end

/-- Settles O50: each source by its kind, then the three requests. -/
theorem attentionRequestsWorkTheRecords : Obligations.AttentionRequestsWorkTheRecords := by
  refine ⟨fun s => ⟨scan_shows s, code_shows s, obstruction_shows s, fun i level => ?_,
    fun i scan code obstruction => ?_, attn_iff s⟩, fun s free => ?_⟩
  · exact level_sourceMultiple level
  · have latched : ¬IsLevel i := by
      rintro (h | ⟨x, h⟩ | h)
      · exact scan h
      · exact code x h
      · exact obstruction h
    obtain ⟨pending, multiple, detail⟩ := latched_source (s := s) latched
    exact ⟨pending, multiple, fun isPending => detail.trans (if_pos isPending)⟩
  intro fixed levelled
  have fixed_iff (i : SourceId) : isFixed i = true ↔ fixed i := isFixed_iff
  refine ⟨fun n e p service => serve_eq free (takeLoadAttention_service service n e p),
    fun n e p config out => serve_eq free (takeLoadAttention_noSource config out e p),
    fun i e p config above => serve_eq free (takeLoadAttention_badEnable config above p),
    fun i e p config notFixed above => serve_eq free
      (takeLoadAttention_badPriority config e (by rwa [fixed_iff]) above),
    fun i e p config fits => ?load, fun active flags once listed below bits => ?next,
    fun n out => serve_eq free (takeClearAttention_noSource out),
    fun i level => serve_eq free (takeClearAttention_level (isLevel_iff.mpr level)),
    fun i latched => serve_eq free (takeClearAttention_latched (by rwa [isLevel_iff]))⟩
  case load =>
    have loads := serve_eq (n := 8) free (takeLoadAttention_loads (i := i) config e
      (p := p) (by rwa [fixed_iff]))
    simp only [fixed_iff] at loads
    exact loads
  case next =>
    intro rank
    have rank_eq (i : SourceId) : s.rank i = rank i := by
      simp only [State.rank, fixed_iff, rank]
    have answer := serve_eq (n := 64) (take := takeNextAttention) (r := .done _) free rfl
    rw [activeCount_eq listed once, pendingFlags_eq below bits, State.nextAttention] at answer
    refine ⟨fun empty => ?_, fun i first ranked => ?_⟩
    · rw [topSource_eq_none listed empty, empty] at answer
      exact answer
    · simp only [← rank_eq] at ranked
      rw [topSource_eq_some listed first ranked] at answer
      simp only [List.append_assoc] at answer ⊢
      exact answer

end Sys2Proof.Machine

/-! A received code judged by the halves of its line: the step it earns, and the record it moves. -/

namespace Sys2Proof.Machine

/-! ### The step of a judged code -/

/-- R145 step 1: a repetition is in turn without effect; any other code is judged by its meaning. -/
def judgedCode (c : ReceivedCode) (s : State) : Judgement :=
  if c.repetition then .noEffect s else judgeMeaning c s

/-- R145 step 4: the judgement, with the step of the fault count that it earns. -/
def countedCode (c : ReceivedCode) (s : State) : State :=
  if (judgedCode c s).inTurn then stepDown c.line (judgedCode c s).state
  else stepUp c.line 4 (judgedCode c s).state

section
variable {c : ReceivedCode} {s : State}

theorem judgedCode_repetition (repetition : c.repetition = true) : judgedCode c s = .noEffect s :=
  if_pos repetition

theorem judgedCode_new (new : c.repetition = false) : judgedCode c s = judgeMeaning c s :=
  if_neg (by simp [new])

theorem takeReceivedCode_changed {r : TrainId} (changed : (judgedCode c s).changed = some r) :
    takeReceivedCode c s =
      (latchChange r (countedCode c s), !(judgedCode c s).inTurn) := by
  have whole : takeReceivedCode c s = match (judgedCode c s).changed with
    | some r => (latchChange r (countedCode c s), !(judgedCode c s).inTurn)
    | none => (countedCode c s, !(judgedCode c s).inTurn) := rfl
  rw [whole, changed]

theorem takeReceivedCode_unchanged (unchanged : (judgedCode c s).changed = none) :
    takeReceivedCode c s = (countedCode c s, !(judgedCode c s).inTurn) := by
  have whole : takeReceivedCode c s = match (judgedCode c s).changed with
    | some r => (latchChange r (countedCode c s), !(judgedCode c s).inTurn)
    | none => (countedCode c s, !(judgedCode c s).inTurn) := rfl
  rw [whole, unchanged]

/-- R145 step 5: whatever TRAIN latches, the rest is as the step of the count leaves it. -/
theorem takeReceivedCode_counted : (takeReceivedCode c s).2 = !(judgedCode c s).inTurn ∧
    (takeReceivedCode c s).1.trt = (countedCode c s).trt ∧
    (takeReceivedCode c s).1.blc = (countedCode c s).blc ∧
    (takeReceivedCode c s).1.ht = (countedCode c s).ht := by
  cases changed : (judgedCode c s).changed with
  | none => rw [takeReceivedCode_unchanged changed]; exact ⟨rfl, rfl, rfl, rfl⟩
  | some r =>
    rw [takeReceivedCode_changed changed]
    simp only [latchChange_frame, and_self]

/-- R145 step 5: TRAIN names the record that the code changed. -/
theorem takeReceivedCode_latches {r : TrainId} (changed : (judgedCode c s).changed = some r) :
    (takeReceivedCode c s).1.au[Source.id .train].detail = some (.record r) := by
  rw [takeReceivedCode_changed changed]
  dsimp only
  unfold latchChange
  split <;> exact (latch_latched .train (.record r) _).detail

end

/-! ### The count -/

section
variable {x : Line} {s : State}

theorem suspended_eq_false (below : (s.blc.get x).count < 255) : (s.blc.get x).suspended = false :=
  Bool.eq_false_iff.mpr (not_suspended below)

/-- R130: a line that is not SUSPENDED takes the new value of its count. -/
theorem changeCount_open (f : Nat → Nat) (below : (s.blc.get x).count < 255) :
    (changeCount x f s).blc =
      s.blc.set x { s.blc.get x with count := f (s.blc.get x).count } := by
  rw [changeCount_line, if_neg (not_suspended below)]

/-- R130, R131: a change of the count latches no source but the line's. -/
theorem changeCount_otherSource (f : Nat → Nat) {i : SourceId} (other : i ≠ Source.id (.line x)) :
    (changeCount x f s).au[i] = s.au[i] := by
  rcases changeCount_cases x f s with ⟨-, e⟩ | ⟨-, -, e⟩ | ⟨-, -, -, e⟩ | ⟨-, -, -, e⟩ <;>
    simp only [e]
  · rfl
  · simp only [rejudge_frame]
    exact (latch_latched (.line x) (.lineCause .health) _).others i other
  · exact (latch_latched (.line x) (.lineCause .health) _).others i other

/-- R131: a line re-judges its block hold only when its count comes to 255. -/
theorem changeCount_ht {f : Nat → Nat} (below : f (s.blc.get x).count < 255) :
    (changeCount x f s).ht = s.ht := by
  rcases changeCount_cases x f s with ⟨-, e⟩ | ⟨-, -, e⟩ | ⟨-, -, suspends, -⟩ | ⟨-, -, -, e⟩
  · rw [e]
  · rw [e]; rfl
  · have full : ({ s.blc.get x with count := f (s.blc.get x).count } : BlockLine).suspended = true :=
      decide_eq_true suspends
    rw [suspended_iff] at full
    exact absurd below (by simpa using full)
  · rw [e]; rfl

end

section
variable {c : ReceivedCode} {s : State} (below : (s.blc.get c.line).count < 255)
include below

/-- R130, R145: a code in turn steps the count by -1, and leaves the rest as its judgement does. -/
theorem takeReceivedCode_inTurn {j : Judgement} (judged : judgedCode c s = j)
    (turn : j.inTurn = true) {b : BlockLine} (own : j.state.blc.get c.line = b)
    (count : b.count = (s.blc.get c.line).count) :
    ((takeReceivedCode c s).2 = false ∧ ((takeReceivedCode c s).1.blc.get c.line).count =
      (s.blc.get c.line).count - 1) ∧
    (takeReceivedCode c s).1.blc.get c.line = { b with count := (s.blc.get c.line).count - 1 } ∧
    (takeReceivedCode c s).1.trt = j.state.trt ∧ (takeReceivedCode c s).1.ht = j.state.ht := by
  have counted : countedCode c s = stepDown c.line j.state := by
    rw [countedCode, judged, if_pos turn]
  obtain ⟨answer, trt, blc, ht⟩ := takeReceivedCode_counted (c := c) (s := s)
  have line : (takeReceivedCode c s).1.blc.get c.line =
      { b with count := (s.blc.get c.line).count - 1 } := by
    rw [blc, counted, stepDown, changeCount_open _ (by rw [own]; omega), PerLine.get_set_self, own,
      count]
  refine ⟨⟨by rw [answer, judged, turn]; rfl, by rw [line]⟩, line, ?_, ?_⟩
  · rw [trt, counted]
    simp only [stepDown_frame]
  · rw [ht, counted, stepDown, changeCount_ht (by rw [own]; omega)]

/-- R111, R130, R145: a code out of turn moves no record and steps the count by 4. -/
theorem takeReceivedCode_outOfTurn {u : State} (judged : judgedCode c s = .outOfTurn u)
    (records : u.trt = s.trt) (lines : u.blc = s.blc) :
    ((takeReceivedCode c s).2 = true ∧ ((takeReceivedCode c s).1.blc.get c.line).count =
      min 255 ((s.blc.get c.line).count + 4) ∧ (takeReceivedCode c s).1.trt = s.trt) ∧
    ∀ i : SourceId, i ≠ Source.id (.line c.line) → (takeReceivedCode c s).1.au[i] = u.au[i] := by
  have counted : countedCode c s = stepUp c.line 4 u := by
    rw [countedCode, judged]
    exact if_neg nofun
  have taken : takeReceivedCode c s = (stepUp c.line 4 u, true) := by
    rw [takeReceivedCode_unchanged (by rw [judged]; rfl), counted, judged]
    rfl
  rw [taken]
  refine ⟨⟨rfl, ?_, ?_⟩, fun i other => changeCount_otherSource _ other⟩
  · rw [stepUp, changeCount_open _ (by rw [lines]; exact below), PerLine.get_set_self, lines]
  · simp only [stepUp_frame, records]

end

/-! ### The half that a code speaks of -/

section
variable {s : State} {x : Line} {q : TrainId} {v : Train}

/-- A record whose active inbound half stands on a line is the line's inbound train. -/
theorem inboundTrain_of_half (law : HalvesLaw s) (live : s.trt.records[q] = some v)
    (on : v.arrivalLine = some x) (active : v.inbound = .offered ∨ v.inbound = .accepted ∨
      v.inbound = .inSection ∨ v.inbound = .arrived) : s.trt.inboundTrain x = some q :=
  (inboundTrain_eq_some law).mpr ⟨v, live, on, active⟩

theorem inboundOf_live (live : s.trt.records[q] = some v) : s.inboundOf q = v.inbound := by
  rw [State.inboundOf, live]

theorem outboundOf_live (live : s.trt.records[q] = some v) : s.outboundOf q = v.outbound := by
  rw [State.outboundOf, live]

/-- The record of a train written, read back. -/
theorem updTrain_record (live : s.trt.records[q] = some v) (f : Train → Train) :
    (s.updTrain q f).trt.records[q] = some (f v) := by
  rw [State.updTrain_trt, tableUpdate_get_self, live]
  rfl

theorem updTrain_other {p : TrainId} (other : p ≠ q) (f : Train → Train) :
    (s.updTrain q f).trt.records[p] = s.trt.records[p] := by
  rw [State.updTrain_trt, tableUpdate_get_ne _ _ other]

end

/-! ### OFFER -/

section
variable {c : ReceivedCode} {s : State}

/-- R146: an offer with an inbound train on the line. -/
theorem judgeOffer_occupied {q : TrainId} (on : inboundOn s q c.line) :
    judgeOffer c s = .outOfTurn s := by
  unfold judgeOffer
  split
  · rfl
  · next empty => exact absurd on (inboundTrain_eq_none.mp empty q)

/-- R143: the shared records and the line's reserve are all live. -/
theorem recordForOffer_eq_none {x : Line}
    (full : ∀ q : TrainId, q.val < 9 ∨ q = reserveRecord x → s.trt.records[q] ≠ none) :
    s.trt.recordForOffer x = none := by
  have shared : s.trt.freeShared = none := by
    refine Option.eq_none_iff_forall_ne_some.mpr fun r found => ?_
    obtain ⟨below, free, -⟩ := freeShared_record.mp found
    exact full r (.inl below) free
  rw [TrainTable.recordForOffer, shared]
  exact if_neg (by simpa using full _ (.inr rfl))

theorem reserveRecord_val (x : Line) : 9 ≤ (reserveRecord x).val := by cases x <;> decide

/-- R143: the lowest free shared record, or the line's reserve when no shared record is free. -/
theorem recordForOffer_eq_some {x : Line} {q : TrainId} (free : s.trt.records[q] = none)
    (place : q.val < 9 ∨ q = reserveRecord x)
    (first : ∀ p : TrainId, p.val < q.val → p.val < 9 → s.trt.records[p] ≠ none) :
    s.trt.recordForOffer x = some q := by
  rcases place with shared | rfl
  · have found : s.trt.freeShared = some q :=
      freeShared_record.mpr ⟨shared, free, fun p lower => first p lower (by omega)⟩
    rw [TrainTable.recordForOffer, found]
  · have shared : s.trt.freeShared = none := by
      refine Option.eq_none_iff_forall_ne_some.mpr fun r found => ?_
      obtain ⟨below, empty, -⟩ := freeShared_record.mp found
      have reserve := reserveRecord_val x
      exact first r (by omega) below empty
    rw [TrainTable.recordForOffer, shared]
    exact if_pos (by simpa using free)

variable (none_ : ∀ q, ¬inboundOn s q c.line)
include none_

/-- R146: an offer that finds no record free. -/
theorem judgeOffer_full (full : s.trt.recordForOffer c.line = none) :
    judgeOffer c s = .outOfTurn (latch .pool (.line c.line) s) := by
  rw [judgeOffer, inboundTrain_eq_none.mpr none_]
  dsimp only
  rw [full]

/-- R146: an offer makes the record that it is given. -/
theorem judgeOffer_creates {q : TrainId} (given : s.trt.recordForOffer c.line = some q) :
    judgeOffer c s = ⟨s.updRecord q (some (Train.offered c (s.cfg.lines.get c.line).lapse)), true,
      some q⟩ := by
  rw [judgeOffer, inboundTrain_eq_none.mpr none_]
  dsimp only
  rw [given]

end

/-! ### ENTERING, OUT_OF_SECTION and CANCEL -/

section
variable {c : ReceivedCode} {s : State} {q : TrainId} {v : Train}

/-- R147: ENTERING with no inbound half ACCEPTED on the line. -/
theorem judgeEntering_outOfTurn (law : HalvesLaw s) (other : ∀ q v, s.trt.records[q] = some v →
    inboundOn s q c.line → v.inbound ≠ .accepted) : judgeEntering c s = .outOfTurn s := by
  unfold judgeEntering
  split
  · next r found =>
    have on := (inboundTrain_eq_some law).mp found
    obtain ⟨v, live, -⟩ := id on
    rw [inboundOf_live live, if_neg (other r v live on)]
  · rfl

/-- R148: CANCEL with no inbound half OFFERED or ACCEPTED on the line. -/
theorem judgeCancel_outOfTurn (law : HalvesLaw s) (other : ∀ q v, s.trt.records[q] = some v →
    inboundOn s q c.line → v.inbound ≠ .offered ∧ v.inbound ≠ .accepted) :
    judgeCancel c s = .outOfTurn s := by
  unfold judgeCancel
  split
  · next r found =>
    have on := (inboundTrain_eq_some law).mp found
    obtain ⟨v, live, -⟩ := id on
    obtain ⟨notOffered, notAccepted⟩ := other r v live on
    rw [inboundOf_live live, if_neg (not_or.mpr ⟨notOffered, notAccepted⟩)]
  · rfl

/-- R147: OUT_OF_SECTION with no outbound half IN_SECTION on the line. -/
theorem judgeOutOfSection_outOfTurn (law : HalvesLaw s) (other : ∀ q v, s.trt.records[q] = some v →
    outboundOn s q c.line → v.outbound ≠ .inSection) : judgeOutOfSection c s = .outOfTurn s := by
  unfold judgeOutOfSection
  split
  · next r found =>
    have on := (outboundTrain_eq_some law).mp found
    obtain ⟨v, live, -⟩ := id on
    rw [outboundOf_live live, if_neg (other r v live on)]
  · rfl

/-- R147: the state in which an ENTERING in turn leaves the line. -/
def entered (c : ReceivedCode) (q : TrainId) (s : State) : State :=
  setInstrument c.line .onLine (s.updTrain q fun t =>
    { t with inbound := .inSection, stamps := { t.stamps with enteredIn := some c.received } })

/-- R147: the state in which an OUT_OF_SECTION in turn leaves the line, before the retirement check. -/
def sectionGivenBack (c : ReceivedCode) (q : TrainId) (s : State) : State :=
  (setStanding c.line .none (s.updTrain q fun t => { t with
    outbound := .cleared
    stamps := { t.stamps with clearedOut := some c.received } })).setOwed c.line false

/-- R148: the state in which a CANCEL in turn leaves the line, before the retirement check. -/
def offerCancelled (c : ReceivedCode) (q : TrainId) (s : State) : State :=
  let s1 := s.updTrain q fun t => t.leavesInbound .none
  setInstrument c.line .blocked
    (if s.inboundOf q = .accepted then retireClearing c.line s1 else s1)

variable (law : HalvesLaw s) (live : s.trt.records[q] = some v)
include law live

theorem judgeEntering_inTurn (on : v.arrivalLine = some c.line) (accepted : v.inbound = .accepted) :
    judgeEntering c s = ⟨entered c q s, true, some q⟩ := by
  rw [judgeEntering, inboundTrain_of_half law live on (.inr (.inl accepted))]
  exact if_pos ((inboundOf_live live).trans accepted)

theorem judgeOutOfSection_inTurn (on : v.destination = .line c.line)
    (inSection : v.outbound = .inSection) : judgeOutOfSection c s =
      ⟨retirementCheck q (sectionGivenBack c q s), true, some q⟩ := by
  have found : s.trt.outboundTrain c.line = some q :=
    (outboundTrain_eq_some law).mpr ⟨v, live, on, .inr (.inr inSection)⟩
  rw [judgeOutOfSection, found]
  exact if_pos ((outboundOf_live live).trans inSection)

theorem judgeCancel_inTurn (on : v.arrivalLine = some c.line)
    (open_ : v.inbound = .offered ∨ v.inbound = .accepted) : judgeCancel c s =
      ⟨retirementCheck q (offerCancelled c q s), true, some q⟩ := by
  have active : v.inbound = .offered ∨ v.inbound = .accepted ∨ v.inbound = .inSection ∨
      v.inbound = .arrived := open_.imp_right .inl
  rw [judgeCancel, inboundTrain_of_half law live on active]
  exact if_pos (by rwa [inboundOf_live live])

end

/-! ### What the records become -/

section
variable {c : ReceivedCode} {s : State} {q : TrainId} {v : Train}

/-- R161: a record with its outbound half CLEARED retires unless its inbound half is active. -/
theorem retires_cleared (cleared : v.outbound = .cleared) :
    v.retires = true ↔ v.inbound = .none ∨ v.inbound = .cleared := by
  cases inbound : v.inbound <;>
    simp [Train.retires, cleared, inbound, Inbound.active, Outbound.active]

/-- R161: a record from a line with its inbound half NONE retires unless its outbound half is active. -/
theorem retires_withdrawn {x : Line} (on : v.arrivalLine = some x) (none_ : v.inbound = .none) :
    v.retires = true ↔ v.outbound = .none ∨ v.outbound = .cleared := by
  cases outbound : v.outbound <;>
    simp [Train.retires, on, none_, outbound, Inbound.active, Outbound.active]

/-- R161: a record after its retirement check. -/
theorem retirementCheck_record {u : State} {w : Train} (live : u.trt.records[q] = some w) :
    (w.retires = true → (retirementCheck q u).trt.records[q] = none) ∧
    (¬w.retires = true → (retirementCheck q u).trt.records[q] = some w) := by
  rw [retirementCheck_own, live]
  exact ⟨fun retires => if_pos retires, fun stays => if_neg stays⟩

theorem sectionGivenBack_whole (live : s.trt.records[q] = some v) :
    (sectionGivenBack c q s).trt.records[q] = some { v with
      outbound := .cleared, stamps := { v.stamps with clearedOut := some c.received } } ∧
    (∀ p : TrainId, p ≠ q → (sectionGivenBack c q s).trt.records[p] = s.trt.records[p]) ∧
    (sectionGivenBack c q s).trt.owed.get c.line = false ∧
    (sectionGivenBack c q s).blc.get c.line = { s.blc.get c.line with standing := .none } := by
  have records : (sectionGivenBack c q s).trt.records = (s.updTrain q fun t => { t with
      outbound := .cleared, stamps := { t.stamps with clearedOut := some c.received } }).trt.records := by
    simp only [sectionGivenBack, State.setOwed_trt, setStanding_frame]
  refine ⟨?_, fun p other => ?_, ?_, ?_⟩
  · rw [records, updTrain_record live]
  · rw [records, updTrain_other other]
  · simp only [sectionGivenBack, State.setOwed_trt, PerLine.get_set_self]
  · simp only [sectionGivenBack, setStanding, State.setOwed_blc, rejudge_frame, State.updLine_blc,
      State.updTrain_blc, PerLine.get_set_self]

theorem offerCancelled_whole (live : s.trt.records[q] = some v) :
    (offerCancelled c q s).trt.records[q] = some { v with inbound := .none, inLapse := none } ∧
    (∀ p : TrainId, p ≠ q → (offerCancelled c q s).trt.records[p] = s.trt.records[p]) ∧
    (offerCancelled c q s).blc.get c.line = { s.blc.get c.line with inInstrument := .blocked } ∧
    (v.inbound = .accepted → ∀ (h : HoldId) (hold : Hold), (offerCancelled c q s).ht[h] = some hold →
      hold.kind ≠ .clearing c.line) := by
  have trt : (offerCancelled c q s).trt = (s.updTrain q fun t => t.leavesInbound .none).trt := by
    unfold offerCancelled
    dsimp only
    split <;> simp [retireClearing]
  have blc : (offerCancelled c q s).blc =
      s.blc.set c.line { s.blc.get c.line with inInstrument := .blocked } := by
    unfold offerCancelled
    dsimp only
    split <;> simp [setInstrument, retireClearing]
  refine ⟨?_, fun p other => ?_, by rw [blc, PerLine.get_set_self], fun accepted h hold held => ?_⟩
  · rw [trt, updTrain_record live]
    rfl
  · rw [trt, updTrain_other other]
  · simp only [offerCancelled, inboundOf_live live, if_pos accepted, setInstrument_frame] at held
    have kept := (retireWhere_live.mp held).2
    rwa [← Bool.not_eq_true, clearingOf_iff] at kept

end

/-! ### The answer, meaning by meaning -/

/-- R111, R130: the code was in turn, and stepped the count by -1. -/
def InTurn (c : ReceivedCode) (s : State) : Prop :=
  (takeReceivedCode c s).2 = false ∧
    ((takeReceivedCode c s).1.blc.get c.line).count = (s.blc.get c.line).count - 1

/-- R111, R130: the code was out of turn, moved no record and stepped the count by 4. -/
def OutOfTurn (c : ReceivedCode) (s : State) : Prop :=
  (takeReceivedCode c s).2 = true ∧ ((takeReceivedCode c s).1.blc.get c.line).count =
    min 255 ((s.blc.get c.line).count + 4) ∧ (takeReceivedCode c s).1.trt = s.trt

section
variable {c : ReceivedCode} {s : State} {q : TrainId} {v : Train}
  (below : (s.blc.get c.line).count < 255)
include below

/-- R111: a code in turn without effect moves no record. -/
theorem noEffect_inTurn (judged : judgedCode c s = .noEffect s) : InTurn c s ∧
    (takeReceivedCode c s).1.trt = s.trt ∧ (takeReceivedCode c s).1.ht = s.ht ∧
    ((takeReceivedCode c s).1.blc.get c.line).obstruction = (s.blc.get c.line).obstruction := by
  obtain ⟨turn, line, trt, ht⟩ := takeReceivedCode_inTurn below judged rfl rfl rfl
  exact ⟨turn, trt, ht, by rw [line]; rfl⟩

theorem refused_outOfTurn (judged : judgedCode c s = .outOfTurn s) : OutOfTurn c s :=
  (takeReceivedCode_outOfTurn below judged rfl rfl).1

/-- R149: an obstruction code writes the line's flag and moves no record. -/
theorem obstruction_inTurn {flag : Bool}
    (judged : judgedCode c s = .noEffect (setObstruction c.line flag s)) : InTurn c s ∧
    (takeReceivedCode c s).1.trt = s.trt ∧
    ((takeReceivedCode c s).1.blc.get c.line).obstruction = flag := by
  have own : (setObstruction c.line flag s).blc.get c.line =
      { s.blc.get c.line with obstruction := flag } := by
    simp only [setObstruction, rejudge_frame, State.updLine_blc, PerLine.get_set_self]
  obtain ⟨turn, line, trt, -⟩ := takeReceivedCode_inTurn below judged rfl own rfl
  exact ⟨turn, trt.trans (by simp only [Judgement.noEffect, setObstruction_frame]),
    by rw [line]⟩

/-- R143, R146: an offer for which no record is free latches POOL. -/
theorem offer_full (judged : judgedCode c s = .outOfTurn (latch .pool (.line c.line) s)) :
    OutOfTurn c s ∧ (takeReceivedCode c s).1.au[Source.id .pool].pending = true ∧
      (takeReceivedCode c s).1.au[Source.id .pool].detail = some (.line c.line) := by
  obtain ⟨out, sources⟩ := takeReceivedCode_outOfTurn below judged rfl rfl
  have pool : Source.id .pool ≠ Source.id (.line c.line) := by cases c.line <;> decide
  obtain ⟨pending, detail, -⟩ := latch_latched .pool (.line c.line) s
  rw [sources _ pool]
  exact ⟨out, pending, detail⟩

/-- R146: an offer in turn makes the record it is given, and no other. -/
theorem offer_inTurn (judged : judgedCode c s = ⟨s.updRecord q
      (some (Train.offered c (s.cfg.lines.get c.line).lapse)), true, some q⟩) : InTurn c s ∧
    (takeReceivedCode c s).1.au[Source.id .train].detail = some (.record q) ∧
    (∀ p : TrainId, p ≠ q → (takeReceivedCode c s).1.trt.records[p] = s.trt.records[p]) ∧
    (takeReceivedCode c s).1.trt.records[q] =
      some (Train.offered c (s.cfg.lines.get c.line).lapse) := by
  obtain ⟨turn, -, trt, -⟩ := takeReceivedCode_inTurn below judged rfl rfl rfl
  refine ⟨turn, takeReceivedCode_latches (by rw [judged]), fun p other => ?_, ?_⟩
  · rw [trt]; exact tableUpdate_get_ne _ _ other
  · rw [trt]; exact tableUpdate_get_self _ _ _

variable (live : s.trt.records[q] = some v)
include live

/-- R147: an ENTERING in turn makes the half IN_SECTION. -/
theorem entering_inTurn (judged : judgedCode c s = ⟨entered c q s, true, some q⟩) : InTurn c s ∧
    ((takeReceivedCode c s).1.blc.get c.line).inInstrument = .onLine ∧
    (∀ p : TrainId, p ≠ q → (takeReceivedCode c s).1.trt.records[p] = s.trt.records[p]) ∧
    (takeReceivedCode c s).1.trt.records[q] = some { v with
      inbound := .inSection, stamps := { v.stamps with enteredIn := some c.received } } := by
  have own : (entered c q s).blc.get c.line =
      { s.blc.get c.line with inInstrument := .onLine } := by
    simp only [entered, setInstrument, State.updLine_blc, State.updTrain_blc, PerLine.get_set_self]
  obtain ⟨turn, line, trt, -⟩ := takeReceivedCode_inTurn below judged rfl own rfl
  refine ⟨turn, ?_, fun p other => ?_, ?_⟩
  · rw [line]
  · rw [trt]; exact updTrain_other other _
  · rw [trt]; exact updTrain_record live _

/-- R147, R161: an OUT_OF_SECTION in turn clears the half, and the record may retire. -/
theorem outOfSection_inTurn
    (judged : judgedCode c s = ⟨retirementCheck q (sectionGivenBack c q s), true, some q⟩) :
    InTurn c s ∧ ((takeReceivedCode c s).1.blc.get c.line).standing = .none ∧
    (takeReceivedCode c s).1.trt.owed.get c.line = false ∧
    (∀ p : TrainId, p ≠ q → (takeReceivedCode c s).1.trt.records[p] = s.trt.records[p]) ∧
    ((v.inbound = .none ∨ v.inbound = .cleared) →
      (takeReceivedCode c s).1.trt.records[q] = none) ∧
    (¬(v.inbound = .none ∨ v.inbound = .cleared) →
      (takeReceivedCode c s).1.trt.records[q] = some { v with
        outbound := .cleared, stamps := { v.stamps with clearedOut := some c.received } }) := by
  obtain ⟨record, others, owed, own⟩ := sectionGivenBack_whole (c := c) live
  have line_ : (retirementCheck q (sectionGivenBack c q s)).blc.get c.line =
      { s.blc.get c.line with standing := .none } := by
    simp only [retirementCheck_frame, own]
  obtain ⟨turn, line, trt, -⟩ := takeReceivedCode_inTurn below judged rfl line_ rfl
  obtain ⟨gone, stays⟩ := retirementCheck_record record
  rw [retires_cleared rfl] at gone stays
  refine ⟨turn, ?_, ?_, fun p other => ?_, ?_, ?_⟩
  · rw [line]
  · rw [trt]; simp only [retirementCheck_frame]; exact owed
  · rw [trt]; exact (retirementCheck_other other).trans (others p other)
  · rw [trt]; exact gone
  · rw [trt]; exact stays

/-- R148, R161: a CANCEL in turn withdraws the half, and the record may retire. -/
theorem cancel_inTurn (on : v.arrivalLine = some c.line)
    (judged : judgedCode c s = ⟨retirementCheck q (offerCancelled c q s), true, some q⟩) :
    InTurn c s ∧ ((takeReceivedCode c s).1.blc.get c.line).inInstrument = .blocked ∧
    (∀ p : TrainId, p ≠ q → (takeReceivedCode c s).1.trt.records[p] = s.trt.records[p]) ∧
    ((v.outbound = .none ∨ v.outbound = .cleared) →
      (takeReceivedCode c s).1.trt.records[q] = none) ∧
    (¬(v.outbound = .none ∨ v.outbound = .cleared) → (takeReceivedCode c s).1.trt.records[q] =
      some { v with inbound := .none, inLapse := none }) ∧
    (v.inbound = .accepted → ∀ (h : HoldId) (hold : Hold),
      (takeReceivedCode c s).1.ht[h] = some hold → hold.kind ≠ .clearing c.line) := by
  obtain ⟨record, others, own, holds⟩ := offerCancelled_whole (c := c) live
  have line_ : (retirementCheck q (offerCancelled c q s)).blc.get c.line =
      { s.blc.get c.line with inInstrument := .blocked } := by
    simp only [retirementCheck_frame, own]
  obtain ⟨turn, line, trt, ht⟩ := takeReceivedCode_inTurn below judged rfl line_ rfl
  obtain ⟨gone, stays⟩ := retirementCheck_record record
  rw [retires_withdrawn (v := { v with inbound := .none, inLapse := none }) on rfl] at gone stays
  refine ⟨turn, ?_, fun p other => ?_, ?_, ?_, fun accepted h hold held => ?_⟩
  · rw [line]
  · rw [trt]; exact (retirementCheck_other other).trans (others p other)
  · rw [trt]; exact gone
  · rw [trt]; exact stays
  · rw [ht] at held
    simp only [retirementCheck_frame] at held
    exact holds accepted h hold held

end

/-- R145 step 2: a new code of a meaning is judged by the rule of that meaning. -/
theorem judgedCode_meaning {c : ReceivedCode} {s : State} {m : Meaning} (new : c.repetition = false)
    (meaning : c.meaning = m) : judgedCode c s = judgeMeaning { c with meaning := m } s := by
  rw [judgedCode_new new, ← meaning]

/-- Settles O34: the code is judged by the half it speaks of, and the step it earns is taken. -/
theorem receivedCodesAreJudgedByTheHalves : Obligations.ReceivedCodesAreJudgedByTheHalves := by
  intro s c law service below r x inTurn outOfTurn
  refine ⟨fun repetition => ?repetition, fun new => ⟨fun meaning => ?quiet,
    fun meaning => obstruction_inTurn below (judgedCode_meaning new meaning),
    fun meaning => obstruction_inTurn below (judgedCode_meaning new meaning),
    fun meaning ⟨q, on⟩ => refused_outOfTurn below ?occupied,
    fun meaning none_ full => offer_full below ?full,
    fun q meaning none_ free place first => ?offer,
    fun meaning other => refused_outOfTurn below ?noEntering,
    fun q v meaning live on accepted => entering_inTurn below live ?entering,
    fun meaning other => refused_outOfTurn below ?noSection,
    fun q v meaning live on inSection => outOfSection_inTurn below live ?outOfSection,
    fun meaning other => refused_outOfTurn below ?noCancel,
    fun q v meaning live on open_ => cancel_inTurn below live on ?cancel⟩,
    by simp only [r, takeReceivedCode_frame, and_self]⟩
  case repetition =>
    obtain ⟨turn, trt, -, obstruction⟩ := noEffect_inTurn below (judgedCode_repetition repetition)
    exact ⟨turn, trt, obstruction⟩
  case quiet =>
    have judged : judgedCode c s = .noEffect s := by
      rcases meaning with m | m | m <;> exact judgedCode_meaning new m
    obtain ⟨turn, trt, ht, -⟩ := noEffect_inTurn below judged
    exact ⟨turn, trt, ht⟩
  case occupied => exact (judgedCode_meaning new meaning).trans (judgeOffer_occupied on)
  case full =>
    exact (judgedCode_meaning new meaning).trans
      (judgeOffer_full none_ (recordForOffer_eq_none full))
  case offer =>
    have created := (judgedCode_meaning new meaning).trans
      (judgeOffer_creates none_ (recordForOffer_eq_some free place first))
    obtain ⟨turn, train, others, record⟩ := offer_inTurn below created
    exact ⟨turn, train, others, _, record, rfl, rfl, rfl, rfl, rfl, rfl, rfl, rfl, rfl, rfl, rfl, rfl,
      rfl, rfl, rfl⟩
  case noEntering =>
    exact (judgedCode_meaning new meaning).trans (judgeEntering_outOfTurn law other)
  case entering =>
    exact (judgedCode_meaning new meaning).trans (judgeEntering_inTurn law live on accepted)
  case noSection =>
    exact (judgedCode_meaning new meaning).trans (judgeOutOfSection_outOfTurn law other)
  case outOfSection =>
    exact (judgedCode_meaning new meaning).trans (judgeOutOfSection_inTurn law live on inSection)
  case noCancel => exact (judgedCode_meaning new meaning).trans (judgeCancel_outOfTurn law other)
  case cancel =>
    exact (judgedCode_meaning new meaning).trans (judgeCancel_inTurn law live on open_)

end Sys2Proof.Machine

/-! The end of a code: what it is found to be, what is handed over, and where it is stored. -/

namespace Sys2Proof.Machine

/-! ### What a decoded code is found to be -/

section
variable {codes : Vector (Option CodeEntry) 32} {c : Assembly}

/-- R106: a code is MALFORMED for its HELD or its OVERFLOW mark alone. -/
theorem identify_malformed : identify codes c = .malformed ↔ c.held = true ∨ c.overflow = true := by
  rw [← Bool.or_eq_true]
  unfold identify
  (repeat' split) <;> simp_all

/-- R108: a well-formed code is recognised as the lowest entry that is heard in it. -/
theorem identify_recognised {i : CodeId} {m : Meaning} {cls : Option Nat} :
    identify codes c = .recognised i m cls ↔ c.held = false ∧ c.overflow = false ∧
      ∃ e, codes[i] = some e ∧ entryHears e c.groups ∧ e.meaning = m ∧ e.trainClass = cls ∧
        ∀ (j : CodeId) (f : CodeEntry), j.val < i.val → codes[j] = some f →
          ¬entryHears f c.groups := by
  have lowest_iff : lowest (fun i : CodeId => entryMatches c.groups codes[i]) = some i ↔
      (∃ e, codes[i] = some e ∧ entryHears e c.groups) ∧
      ∀ (j : CodeId) (f : CodeEntry), j.val < i.val → codes[j] = some f → ¬entryHears f c.groups := by
    simp only [lowest_eq_some, ← Bool.not_eq_true, entryMatches_iff, not_exists, not_and]
    exact and_congr_right fun _ => ⟨fun h j f below => h j below f, fun h j below f => h j f below⟩
  constructor
  · intro heard
    have formed : ¬(c.held = true ∨ c.overflow = true) := by
      rw [← identify_malformed (codes := codes), heard]; exact nofun
    unfold identify at heard
    rw [if_neg (by simpa using formed)] at heard
    split at heard
    · next k found =>
      split at heard
      · next e loaded =>
        cases heard
        obtain ⟨⟨f, loaded', hears⟩, first⟩ := lowest_iff.mp found
        cases loaded.symm.trans loaded'
        obtain ⟨held, overflow⟩ := not_or.mp formed
        exact ⟨by simpa using held, by simpa using overflow, e, loaded, hears, rfl, rfl, first⟩
      · cases heard
    · cases heard
  · rintro ⟨held, overflow, e, loaded, hears, rfl, rfl, first⟩
    have found := lowest_iff.mpr ⟨⟨e, loaded, hears⟩, first⟩
    unfold identify
    rw [if_neg (by simp [held, overflow]), found]
    dsimp only
    rw [loaded]

/-- R121: a code repeats what was sent when it is well formed and has the groups expected. -/
theorem isRepetition_iff {b : BellUnit} {heard : Heard} {groups : List Nat} :
    b.isRepetition heard groups = true ↔
      heard ≠ .malformed ∧ ∃ e, b.expected = some e ∧ e.groups = groups := by
  unfold BellUnit.isRepetition
  cases b.expected with
  | none => simp
  | some e =>
    rw [Bool.and_eq_true, decide_eq_true_eq, decide_eq_true_eq]
    refine and_congr_right fun _ => ⟨fun same => ⟨e, rfl, same.symm⟩, ?_⟩
    rintro ⟨f, found, same⟩
    cases found
    exact same.symm

end

/-! ### The stages of the end -/

/-- R110 steps 1 and 2: the line with the code out of assembly, and a repetition no more expected. -/
def codeStripped (x : Line) (repetition : Bool) (s : State) : State :=
  s.updBell x fun b => { b with code := none, expected := if repetition then none else b.expected }

/-- R110 step 3: the state and the answer after a code is handed over. -/
def codeHanded (x : Line) (c : Assembly) (heard : Heard) (repetition : Bool) (s : State) :
    State × Bool := handOver x c heard repetition (codeStripped x repetition s)

/-- R110 step 4: the last recognised code of a line after a code has ended. -/
def lastAfter (s : State) (x : Line) (groups : List Nat) : Heard → Option RecognisedCode
  | .recognised i _ _ =>
    if s.device = .service then some ⟨groups, i⟩ else (s.bu.get x).lastRecognised
  | .unrecognised | .malformed => (s.bu.get x).lastRecognised

section
variable {s : State} {x : Line} {c : Assembly} {heard : Heard} {repetition : Bool}

theorem keepRecognised_bu (groups : List Nat) : (keepRecognised x groups heard s).bu =
    s.bu.set x { s.bu.get x with lastRecognised := lastAfter s x groups heard } := by
  have same : s.bu = s.bu.set x { s.bu.get x with
      lastRecognised := (s.bu.get x).lastRecognised } := (PerLine.set_get _ _).symm
  unfold keepRecognised lastAfter
  cases heard with
  | recognised i m cls =>
    by_cases service : s.device = .service
    · simp only [if_pos service, State.updBell_bu]
    · simp only [if_neg service]
      exact same
  | unrecognised => exact same
  | malformed => exact same

theorem codeHanded_bu : (codeHanded x c heard repetition s).1.bu = s.bu.set x { s.bu.get x with
    code := none, expected := if repetition then none else (s.bu.get x).expected } := by
  rw [codeHanded]
  simp only [handOver_frame]
  rfl

/-- R110: the line's Bell Unit before the code is offered to the buffers. -/
theorem recognisedKept_bu : (keepRecognised x c.groups heard
    (codeHanded x c heard repetition s).1).bu = s.bu.set x { s.bu.get x with
      code := none, expected := if repetition then none else (s.bu.get x).expected
      lastRecognised := lastAfter s x c.groups heard } := by
  have device : (codeHanded x c heard repetition s).1.device = s.device := by
    rw [codeHanded]
    simp only [handOver_frame]
    rfl
  have last : lastAfter (codeHanded x c heard repetition s).1 x c.groups heard =
      lastAfter s x c.groups heard := by
    unfold lastAfter
    rw [codeHanded_bu, PerLine.get_set_self, device]
  rw [keepRecognised_bu, last, codeHanded_bu, PerLine.get_set_self, PerLine.set_set]

/-- R112: the code that a code's end offers to the buffers. -/
def codeStored (x : Line) (c : Assembly) (heard : Heard) (repetition : Bool) (s : State) : StoredCode :=
  ⟨c.groups, heard, c.held, c.overflow, (codeHanded x c heard repetition s).2, repetition, s.tb.clock⟩

variable (hears : identify s.cfg.codes c = heard)
  (repeats : (s.bu.get x).isRepetition heard c.groups = repetition)
include hears repeats

/-- R110: the end of a code, stage by stage. -/
theorem endCode_eq : endCode x c s = storeCode x (codeStored x c heard repetition s)
    (keepRecognised x c.groups heard (codeHanded x c heard repetition s).1) := by
  subst hears repeats
  rfl

/-- R112: the code stored in the free buffer that the write turn names, or lost with OVERRUN. -/
theorem endCode_bu : (endCode x c s).bu = s.bu.set x
    (if (s.bu.get x).turnBuffer.isNone then
      ({ s.bu.get x with
        code := none, expected := if repetition then none else (s.bu.get x).expected
        lastRecognised := lastAfter s x c.groups heard } : BellUnit).store
          (codeStored x c heard repetition s)
    else { s.bu.get x with
      code := none, expected := if repetition then none else (s.bu.get x).expected
      lastRecognised := lastAfter s x c.groups heard, overrun := true }) := by
  have buffer : ((keepRecognised x c.groups heard (codeHanded x c heard repetition s).1).bu.get
      x).turnBuffer = (s.bu.get x).turnBuffer := by
    rw [recognisedKept_bu, PerLine.get_set_self]
    rfl
  rw [endCode_eq hears repeats, storeCode, buffer]
  split
  · rw [State.updBell_bu, recognisedKept_bu, PerLine.get_set_self, PerLine.set_set]
  · simp only [latch_frame, State.updBell_bu, recognisedKept_bu, PerLine.get_set_self,
      PerLine.set_set]

/-- The Bell Unit, its source and nothing else follow the handing over. -/
theorem endCode_kept : (endCode x c s).trt = (codeHanded x c heard repetition s).1.trt ∧
    (endCode x c s).blc = (codeHanded x c heard repetition s).1.blc ∧
    (endCode x c s).ht = (codeHanded x c heard repetition s).1.ht := by
  rw [endCode_eq hears repeats]
  simp only [storeCode_frame, keepRecognised_frame, and_self]

/-- R112: a code stored latches nothing. -/
theorem endCode_stored (free : (s.bu.get x).turnBuffer = none) :
    (endCode x c s).au = (codeHanded x c heard repetition s).1.au ∧
    { endCode x c s with bu := s.bu } = { (codeHanded x c heard repetition s).1 with bu := s.bu } := by
  have buffer : ((keepRecognised x c.groups heard (codeHanded x c heard repetition s).1).bu.get
      x).turnBuffer = none := by
    rw [recognisedKept_bu, PerLine.get_set_self]
    exact free
  have rest (u : State) : { keepRecognised x c.groups heard u with bu := s.bu } =
      { u with bu := s.bu } := by
    unfold keepRecognised
    (repeat' split) <;> rfl
  rw [endCode_eq hears repeats, storeCode, buffer]
  exact ⟨by simp, rest _⟩

/-- R112: a code lost latches OVERRUN. -/
theorem endCode_lost (full : (s.bu.get x).turnBuffer ≠ none) :
    Latched (.line x) (.lineCause .overrun) (codeHanded x c heard repetition s).1 (endCode x c s) ∧
    { endCode x c s with bu := s.bu, au := s.au } =
      { (codeHanded x c heard repetition s).1 with bu := s.bu, au := s.au } := by
  have buffer : ((keepRecognised x c.groups heard (codeHanded x c heard repetition s).1).bu.get
      x).turnBuffer ≠ none := by
    rw [recognisedKept_bu, PerLine.get_set_self]
    exact full
  have rest (u : State) : { keepRecognised x c.groups heard u with bu := s.bu, au := s.au } =
      { u with bu := s.bu, au := s.au } := by
    unfold keepRecognised
    (repeat' split) <;> rfl
  rw [endCode_eq hears repeats, storeCode, if_neg (by simpa using buffer)]
  exact ⟨latch_latched_of (by simp), rest _⟩

end

/-! ### What is handed over -/

section
variable {s : State} {x : Line} {c : Assembly} {heard : Heard} {repetition : Bool}

/-- R110 step 3: nothing is handed over in CONFIG or on a SUSPENDED line. -/
theorem codeHanded_kept (kept : s.device = .config ∨ 255 ≤ (s.blc.get x).count) :
    codeHanded x c heard repetition s = (codeStripped x repetition s, false) := by
  refine if_neg ?_
  rintro ⟨service, open_⟩
  have service : s.device = .service := service
  have open_ : (s.blc.get x).suspended = false := open_
  rcases kept with config | shut
  · rw [config] at service; cases service
  · rw [suspended_iff.mpr shut] at open_; cases open_

variable (service : s.device = .service) (below : (s.blc.get x).count < 255)
include service below

/-- R110 step 3: a recognised code is handed to the Train Record Table. -/
theorem codeHanded_recognised (i : CodeId) (m : Meaning) (cls : Option Nat) :
    codeHanded x c (.recognised i m cls) repetition s =
      takeReceivedCode ⟨x, m, cls, c.groups, repetition, s.tb.clock⟩ (codeStripped x repetition s) :=
  if_pos ⟨service, suspended_eq_false below⟩

/-- R130: any other code steps the fault count by 8. -/
theorem codeHanded_fault (other : heard = .unrecognised ∨ heard = .malformed) :
    codeHanded x c heard repetition s = (stepUp x 8 (codeStripped x repetition s), false) := by
  rcases other with rfl | rfl <;> exact if_pos ⟨service, suspended_eq_false below⟩

end

/-! ### A rising step -/

/-- R131: a rising count changes the health when it comes to 96 or to 255. -/
theorem healthOf_rises {old new : Nat} (below : old < 255) (rises : old ≤ new) :
    healthOf new ≠ healthOf old ↔ old < 96 ∧ 96 ≤ new ∨ 255 ≤ new := by
  unfold healthOf
  (repeat' split) <;> simp <;> omega

section
variable {s : State} {x : Line} (n : Nat) (below : (s.blc.get x).count < 255)
include below

/-- R131: a rising step that brings the count to 96 or to 255 latches LINE_x. -/
theorem stepUp_latches (changes : (s.blc.get x).count < 96 ∧ 96 ≤ min 255 ((s.blc.get x).count + n) ∨
    255 ≤ min 255 ((s.blc.get x).count + n)) :
    Latched (.line x) (.lineCause .health) s (stepUp x n s) := by
  have differs := (healthOf_rises below (by omega)).mpr changes
  rcases changeCount_cases x (fun c => min 255 (c + n)) s with
    ⟨shut, -⟩ | ⟨-, same, -⟩ | ⟨-, -, -, e⟩ | ⟨-, -, -, e⟩
  · rw [suspended_eq_false below] at shut; cases shut
  · exact absurd same differs
  · obtain ⟨pending, detail, multiple, settings, others⟩ :=
      latch_latched_of (src := .line x) (d := .lineCause .health) (s := s)
        (s1 := s.updLine x fun b => { b with count := min 255 (b.count + n) }) rfl
    rw [stepUp, e]
    constructor <;> simp only [rejudge_frame] <;> assumption
  · rw [stepUp, e]
    exact latch_latched_of rfl

/-- R131: any other rising step latches nothing. -/
theorem stepUp_quiet (stays : ¬((s.blc.get x).count < 96 ∧
    96 ≤ min 255 ((s.blc.get x).count + n) ∨ 255 ≤ min 255 ((s.blc.get x).count + n))) :
    (stepUp x n s).au = s.au := by
  have same := not_not.mp (mt (healthOf_rises below (by omega)).mp stays)
  rcases changeCount_cases x (fun c => min 255 (c + n)) s with
    ⟨-, e⟩ | ⟨-, -, e⟩ | ⟨-, differs, -⟩ | ⟨-, differs, -⟩
  · rw [stepUp, e]
  · rw [stepUp, e]; rfl
  · exact absurd same differs
  · exact absurd same differs

/-- R131, R136: a line that becomes SUSPENDED has its block hold ensured. -/
theorem stepUp_suspends {l : LeverId} (service : s.device = .service)
    (full : 255 ≤ min 255 ((s.blc.get x).count + n)) (starter : (s.cfg.lines.get x).starter = some l) :
    (stepUp x n s).ht[blockEntry x] = match s.ht[blockEntry x] with
      | none => some ⟨.block x, l, .normal, s.tb.clock⟩
      | some hold => some hold := by
  have suspends : healthOf (min 255 ((s.blc.get x).count + n)) = .suspended := by
    have shut : ({ s.blc.get x with
      count := min 255 ((s.blc.get x).count + n) } : BlockLine).suspended = true :=
        suspended_iff.mpr full
    exact of_decide_eq_true shut
  have differs := (healthOf_rises below (by omega)).mpr (.inr full)
  have e : stepUp x n s = rejudge x (latch (.line x) (.lineCause .health)
      (s.updLine x fun b => { b with count := min 255 (b.count + n) })) := by
    rcases changeCount_cases x (fun c => min 255 (c + n)) s with
      ⟨shut, -⟩ | ⟨-, same, -⟩ | ⟨-, -, -, e⟩ | ⟨-, -, stays, -⟩
    · rw [suspended_eq_false below] at shut; cases shut
    · exact absurd same differs
    · exact e
    · exact absurd suspends stays
  have fails : ¬({ s.blc.get x with
      count := min 255 ((s.blc.get x).count + n) } : BlockLine).blockCondition = true := by
    rw [blockCondition_iff]
    rintro ⟨-, open_, -⟩
    exact absurd full (Nat.not_le.mpr open_)
  rw [e, rejudge_entry]
  simp only [latch_frame, State.updLine_device, if_pos service, State.updLine_blc,
    PerLine.get_set_self, if_neg fails]
  exact ensureBlock_of_starter starter

end

/-- R106: CODE_END at the end tick of the code in assembly. -/
theorem exec_codeEnd {s : State} {x : Line} {c : Assembly} (code : (s.bu.get x).code = some c)
    (ended : reached s.tb.tickCount c.endTick = true) :
    exec (.codeEnd x) s = .next (endCode x c s) := by
  have due : endingCode x s = some c := by simp only [endingCode, code, ended, if_true]
  change execCodeEnd x s = _
  rw [execCodeEnd, due]

/-! ### The clauses of the obligation -/

section
variable {s : State} {x : Line} {c : Assembly} {heard : Heard} {repetition : Bool}
  (hears : identify s.cfg.codes c = heard)
  (repeats : (s.bu.get x).isRepetition heard c.groups = repetition)
include hears repeats

theorem endCode_bell_stored (free : (s.bu.get x).turnBuffer = none) :
    (endCode x c s).bu.get x = { s.bu.get x with
      code := none, expected := if repetition then none else (s.bu.get x).expected
      lastRecognised := lastAfter s x c.groups heard, turn := !(s.bu.get x).turn
      buffer0 := if (s.bu.get x).turn then (s.bu.get x).buffer0
        else some (codeStored x c heard repetition s)
      buffer1 := if (s.bu.get x).turn then some (codeStored x c heard repetition s)
        else (s.bu.get x).buffer1 } := by
  rw [endCode_bu hears repeats, PerLine.get_set_self, if_pos (by rw [free]; rfl), BellUnit.store]
  cases (s.bu.get x).turn <;> rfl

theorem endCode_bell_lost (full : (s.bu.get x).turnBuffer ≠ none) :
    (endCode x c s).bu.get x = { s.bu.get x with
      code := none, expected := if repetition then none else (s.bu.get x).expected
      lastRecognised := lastAfter s x c.groups heard, overrun := true } := by
  rw [endCode_bu hears repeats, PerLine.get_set_self, if_neg (by simpa using full)]

/-- R110: in CONFIG and on a SUSPENDED line no other block sees the code. -/
theorem endCode_unhanded (kept : s.device = .config ∨ 255 ≤ (s.blc.get x).count) :
    (codeHanded x c heard repetition s).2 = false ∧
    ((s.bu.get x).turnBuffer = none → { endCode x c s with bu := s.bu } = s) ∧
    ((s.bu.get x).turnBuffer ≠ none → { endCode x c s with bu := s.bu, au := s.au } = s) := by
  have handed := codeHanded_kept (c := c) (heard := heard) (repetition := repetition) kept
  refine ⟨by rw [handed], fun free => ?_, fun full => ?_⟩
  · rw [(endCode_stored hears repeats free).2, handed]
    rfl
  · rw [(endCode_lost hears repeats full).2, handed]
    rfl

variable (service : s.device = .service) (below : (s.blc.get x).count < 255)
include service below

/-- R110: what the Train Record Table makes of a recognised code, the end of the code leaves. -/
theorem endCode_recognised {i : CodeId} {m : Meaning} {cls : Option Nat}
    (recognised : heard = .recognised i m cls) :
    let r := takeReceivedCode ⟨x, m, cls, c.groups, repetition, s.tb.clock⟩
      (codeStripped x repetition s)
    (codeHanded x c heard repetition s).2 = r.2 ∧ (endCode x c s).trt = r.1.trt ∧
    (endCode x c s).blc = r.1.blc ∧ (endCode x c s).ht = r.1.ht ∧
    ((s.bu.get x).turnBuffer = none → (endCode x c s).au = r.1.au) ∧
    ((s.bu.get x).turnBuffer ≠ none →
      Latched (.line x) (.lineCause .overrun) r.1 (endCode x c s)) := by
  intro r
  have handed : codeHanded x c heard repetition s = r := by
    subst recognised
    exact codeHanded_recognised service below i m cls
  obtain ⟨trt, blc, ht⟩ := endCode_kept hears repeats
  rw [handed] at trt blc ht
  refine ⟨congrArg Prod.snd handed, trt, blc, ht, fun free => ?_, fun full => ?_⟩
  · rw [(endCode_stored hears repeats free).1, handed]
  · have lost := (endCode_lost hears repeats full).1
    rwa [handed] at lost

/-- R130, R131: what the step of 8 of any other code leaves. -/
theorem endCode_fault (other : heard = .unrecognised ∨ heard = .malformed) :
    let count := min 255 ((s.blc.get x).count + 8)
    (codeHanded x c heard repetition s).2 = false ∧
    (endCode x c s).blc = s.blc.set x { s.blc.get x with count := count } ∧
    (endCode x c s).trt = s.trt ∧
    (∀ h : HoldId, h ≠ blockEntry x → (endCode x c s).ht[h] = s.ht[h]) ∧
    (count < 255 → (endCode x c s).ht = s.ht) ∧
    (255 ≤ count → ∀ l, (s.cfg.lines.get x).starter = some l →
      (endCode x c s).ht[blockEntry x] = match s.ht[blockEntry x] with
        | none => some ⟨.block x, l, .normal, s.tb.clock⟩
        | some hold => some hold) ∧
    ((s.bu.get x).turnBuffer = none →
      ((s.blc.get x).count < 96 ∧ 96 ≤ count ∨ 255 ≤ count →
        Latched (.line x) (.lineCause .health) s (endCode x c s)) ∧
      (¬((s.blc.get x).count < 96 ∧ 96 ≤ count ∨ 255 ≤ count) → (endCode x c s).au = s.au)) := by
  intro count
  have handed := codeHanded_fault (c := c) (repetition := repetition) service below other
  obtain ⟨trt, blc, ht⟩ := endCode_kept hears repeats
  rw [handed] at trt blc ht
  refine ⟨by rw [handed], blc.trans (changeCount_open _ below), trt.trans ?_, fun h ne => ?_,
    fun stays => ?_, fun full l starter => ?_, fun free => ?_⟩
  · simp only [stepUp_frame]
    rfl
  · rw [ht]
    exact changeCount_other ne
  · rw [ht]
    exact changeCount_ht stays
  · rw [ht]
    exact stepUp_suspends (s := codeStripped x repetition s) 8 below service full starter
  · have au := (endCode_stored hears repeats free).1
    rw [handed] at au
    refine ⟨fun changes => ?_, fun stays => ?_⟩
    · obtain ⟨pending, detail, multiple, settings, others⟩ :=
        stepUp_latches (s := codeStripped x repetition s) 8 below changes
      constructor <;> rw [au] <;> assumption
    · exact au.trans (stepUp_quiet (s := codeStripped x repetition s) 8 below stays)

end

/-- Settles O33: the judgement, the Bell Unit, and what the handing over gives to the other blocks. -/
theorem codeEndStoresWhatWasHeard : Obligations.CodeEndStoresWhatWasHeard := by
  intro s x c code ended
  obtain ⟨heard, hears⟩ : ∃ heard, identify s.cfg.codes c = heard := ⟨_, rfl⟩
  obtain ⟨repetition, repeats⟩ : ∃ again, (s.bu.get x).isRepetition heard c.groups = again := ⟨_, rfl⟩
  refine ⟨endCode x c s, heard, (codeHanded x c heard repetition s).2, exec_codeEnd code ended,
    hears ▸ identify_malformed, fun i m cls => hears ▸ identify_recognised, ?line, fun y other => ?_,
    by simp only [endCode_frame, and_self]⟩
  case line =>
    intro old isRepetition into stored expected last
    have repeats_iff : repetition = true ↔ isRepetition := repeats ▸ isRepetition_iff
    have marked : decide isRepetition = repetition :=
      Bool.eq_iff_iff.mpr (decide_eq_true_iff.trans repeats_iff.symm)
    have expects : expected = if repetition then none else old.expected :=
      if_congr repeats_iff.symm rfl rfl
    have keeps : last = lastAfter s x c.groups heard := by
      simp only [last, lastAfter]
      cases heard <;> rfl
    have offered : stored = codeStored x c heard repetition s := by
      simp only [stored, marked, codeStored]
    rw [expects, keeps, offered, marked]
    refine ⟨fun free => endCode_bell_stored hears repeats free, fun full =>
      ⟨endCode_bell_lost hears repeats full, (endCode_lost hears repeats full).1.pending,
        (endCode_lost hears repeats full).1.detail⟩, fun kept => endCode_unhanded hears repeats kept,
      fun service below => ⟨fun i m cls recognised => endCode_recognised hears repeats service below
        recognised, fun other => endCode_fault hears repeats service below other⟩⟩
  · rw [endCode_bu hears repeats, PerLine.get_set_ne _ _ other]

end Sys2Proof.Machine

/-! The order of the received-code buffers and the range of the fault count: what each writer of a Bell
Unit and of a Block Line Controller keeps of them. -/

namespace Sys2Proof.Machine

/-! ### The two laws of one line -/

/-- R112: the buffer named by the write turn is unreleased only when both are. -/
def BellUnit.Ordered (b : BellUnit) : Prop :=
  b.turnBuffer.isSome = true → b.buffer0.isSome = true ∧ b.buffer1.isSome = true

/-- The buffers and the write turn are the same. -/
def BellUnit.SameBuffers (a b : BellUnit) : Prop :=
  b.buffer0 = a.buffer0 ∧ b.buffer1 = a.buffer1 ∧ b.turn = a.turn

theorem BellUnit.SameBuffers.ordered {a b : BellUnit} (same : a.SameBuffers b) (law : a.Ordered) :
    b.Ordered := by
  obtain ⟨zero, one, turn⟩ := same
  unfold BellUnit.Ordered BellUnit.turnBuffer
  rw [zero, one, turn]
  exact law

/-- R112: with both buffers free the order holds. -/
theorem BellUnit.ordered_of_free {b : BellUnit} (zero : b.buffer0 = none) (one : b.buffer1 = none) :
    b.Ordered := by
  simp [BellUnit.Ordered, BellUnit.turnBuffer, zero, one]

/-- R112: after a store the buffer just filled is not the one the write turn names, so a code in that
one makes two. -/
theorem BellUnit.store_ordered (b : BellUnit) (c : StoredCode) : (b.store c).Ordered := by
  rw [BellUnit.Ordered, BellUnit.turnBuffer, BellUnit.store]
  cases turn : b.turn <;> simp

/-- R112, R114: the older code freed; the write turn then names a free buffer. -/
theorem BellUnit.releaseOlder_ordered {b : BellUnit} (law : b.Ordered) : b.releaseOlder.Ordered := by
  unfold BellUnit.Ordered BellUnit.turnBuffer at law
  unfold BellUnit.Ordered BellUnit.releaseOlder BellUnit.olderIsOne BellUnit.turnBuffer
  cases turn : b.turn <;> cases zero : b.buffer0 <;> cases one : b.buffer1 <;> simp_all

/-- R102, R104: a sample of BELL_IN leaves the buffers. -/
theorem BellUnit.sample_buffers (b : BellUnit) (t : Timing) (now : Tick) (level : Bool) :
    b.SameBuffers (b.sample t now level) := by
  unfold BellUnit.sample BellUnit.fallingEdge
  dsimp only
  (repeat' split) <;> exact ⟨rfl, rfl, rfl⟩

theorem BlockLine.sample_count (b : BlockLine) (r : RawReading) : (b.sample r).count = b.count := by
  unfold BlockLine.sample
  (repeat' split) <;> rfl

/-! ### Work that keeps both laws -/

/-- Between two states each line keeps the order of its buffers and the range of its fault count. -/
structure LinesWork (s t : State) : Prop where
  buffers : ∀ x, (s.bu.get x).Ordered → (t.bu.get x).Ordered
  counts : ∀ x, (s.blc.get x).count ≤ 255 → (t.blc.get x).count ≤ 255

namespace LinesWork

theorem refl (s : State) : LinesWork s s := ⟨fun _ law => law, fun _ law => law⟩

variable {s t : State} (work : LinesWork s t)
include work

theorem of_eq {u : State} (bu : u.bu = t.bu) (blc : u.blc = t.blc) : LinesWork s u where
  buffers := by rw [bu]; exact work.buffers
  counts := by rw [blc]; exact work.counts

/-! ### The writers -/

/-- The Bell Units written, each with its order kept. -/
theorem bells {u : State} (kept : ∀ x, (t.bu.get x).Ordered → (u.bu.get x).Ordered)
    (blc : u.blc = t.blc) : LinesWork s u where
  buffers x law := kept x (work.buffers x law)
  counts := by rw [blc]; exact work.counts

theorem updBell {x : Line} {f : BellUnit → BellUnit}
    (kept : (t.bu.get x).Ordered → (f (t.bu.get x)).Ordered) : LinesWork s (t.updBell x f) := by
  refine work.bells (fun y law => ?_) rfl
  rw [State.updBell_bu, PerLine.get_set]
  split
  · next e => subst e; exact kept law
  · exact law

/-- A Bell Unit written elsewhere than in its buffers. -/
theorem updBell_same (x : Line) {f : BellUnit → BellUnit}
    (same : (t.bu.get x).SameBuffers (f (t.bu.get x))) : LinesWork s (t.updBell x f) :=
  work.updBell same.ordered

theorem updLine {x : Line} {f : BlockLine → BlockLine}
    (kept : (t.blc.get x).count ≤ 255 → (f (t.blc.get x)).count ≤ 255) :
    LinesWork s (t.updLine x f) where
  buffers := work.buffers
  counts y law := by
    have before := work.counts y law
    rw [State.updLine_blc, PerLine.get_set]
    split
    · next e => subst e; exact kept before
    · exact before

/-- A line written elsewhere than in its count. -/
theorem updLine_same (x : Line) {f : BlockLine → BlockLine}
    (same : (f (t.blc.get x)).count = (t.blc.get x).count) : LinesWork s (t.updLine x f) :=
  work.updLine same.le.trans

theorem latch (src : Source) (d : Detail) : LinesWork s (latch src d t) :=
  work.of_eq (by simp) (by simp)

theorem rejudge (x : Line) : LinesWork s (rejudge x t) := work.of_eq (by simp) (by simp)

theorem updTrain (r : TrainId) (f : Train → Train) : LinesWork s (t.updTrain r f) := work.of_eq rfl rfl

theorem setOwed (x : Line) (owed : Bool) : LinesWork s (t.setOwed x owed) := work.of_eq rfl rfl

theorem setSbc (b : ScanBus) : LinesWork s (t.setSbc b) := work.of_eq rfl rfl

theorem retirementCheck (r : TrainId) : LinesWork s (retirementCheck r t) :=
  work.of_eq (by simp) (by simp)

theorem latchChange (r : TrainId) : LinesWork s (latchChange r t) := work.of_eq (by simp) (by simp)

theorem retireClearing (x : Line) : LinesWork s (retireClearing x t) := 
  work.of_eq (by simp [Machine.retireClearing]) (by simp [Machine.retireClearing])

/-! ### Block Line Controllers -/

theorem setInstrument (x : Line) (i : Instrument) : LinesWork s (setInstrument x i t) :=
  work.updLine_same x rfl

theorem setStanding (x : Line) (st : Standing) : LinesWork s (setStanding x st t) :=
  (work.updLine_same x rfl).rejudge x

theorem setObstruction (x : Line) (flag : Bool) : LinesWork s (setObstruction x flag t) :=
  (work.updLine_same x rfl).rejudge x

/-- R130: a change of the count that keeps it in its range. -/
theorem changeCount (x : Line) {f : Nat → Nat} (range : ∀ n ≤ 255, f n ≤ 255) :
    LinesWork s (changeCount x f t) := by
  have written := work.updLine (x := x) (f := fun b => { b with count := f b.count }) (range _)
  rcases changeCount_cases x f t with ⟨-, e⟩ | ⟨-, -, e⟩ | ⟨-, -, -, e⟩ | ⟨-, -, -, e⟩ <;> rw [e]
  · exact work
  · exact written
  · exact (written.latch _ _).rejudge x
  · exact written.latch _ _

theorem stepUp (x : Line) (n : Nat) : LinesWork s (stepUp x n t) :=
  work.changeCount x fun _ _ => Nat.min_le_left _ _

theorem stepDown (x : Line) : LinesWork s (stepDown x t) :=
  work.changeCount x fun n le => (Nat.sub_le n 1).trans le

/-! ### Bell Units -/

theorem sampleBell (x : Line) (level : Bool) : LinesWork s (sampleBell x level t) := by
  have sampled := work.updBell_same x (f := fun b => b.sample t.cfg.timing t.tb.tickCount level)
    (BellUnit.sample_buffers _ _ _ _)
  unfold Machine.sampleBell
  dsimp only
  split
  · exact sampled.updLine_same x rfl
  · exact sampled

theorem sampleLine (x : Line) (inputs : LineInputs) : LinesWork s (sampleLine x inputs t) := by
  unfold Machine.sampleLine
  dsimp only
  split
  · exact work.updLine_same x (BlockLine.sample_count _ _)
  · exact (work.sampleBell x _).updLine_same x (BlockLine.sample_count _ _)

theorem storeCode (x : Line) (c : StoredCode) : LinesWork s (storeCode x c t) := by
  unfold Machine.storeCode
  split
  · exact work.updBell fun _ => BellUnit.store_ordered _ c
  · exact (work.updBell_same x ⟨rfl, rfl, rfl⟩).latch _ _

theorem takeSend (x : Line) (groups : List Nat) (entry : Option CodeId) (meaning : Option Meaning) :
    LinesWork s (takeSend x groups entry meaning t) := by
  have sent := takeSend_taken x groups entry meaning t
  refine work.bells (fun y law => ?_) (by simp)
  by_cases own : y = x
  · subst own
    obtain ⟨zero, one, turn, -⟩ := sent.buffersKept
    exact BellUnit.SameBuffers.ordered ⟨zero, one, turn⟩ law
  · rw [sent.otherLines y own]
    exact law

theorem takeEntrySend (x : Line) (c : CodeId) : LinesWork s (takeEntrySend x c t) := by
  unfold Machine.takeEntrySend
  split
  · exact work.takeSend x _ _ _
  · exact work

theorem autoEntering (x : Line) : LinesWork s (autoEntering x t) := by
  unfold Machine.autoEntering
  (repeat' split)
  · exact work.takeEntrySend x _
  · exact work.updBell_same x ⟨rfl, rfl, rfl⟩
  · exact work

/-! ### Received codes -/

theorem judgeMeaning (c : ReceivedCode) : LinesWork s (judgeMeaning c t).state := by
  unfold Machine.judgeMeaning
  split
  · exact work.of_eq (by simp) (by simp)
  · unfold judgeEntering
    (repeat' split)
    · exact (work.updTrain _ _).setInstrument _ _
    all_goals exact work
  · unfold judgeOutOfSection
    (repeat' split)
    · exact (((work.updTrain _ _).setStanding _ _).setOwed _ _).retirementCheck _
    all_goals exact work
  · unfold judgeCancel
    split
    · split
      · refine (setInstrument ?_ _ _).retirementCheck _
        split
        · exact (work.updTrain _ _).retireClearing _
        · exact work.updTrain _ _
      · exact work
    · exact work
  · exact work
  · exact work
  · exact work
  · exact work.setObstruction _ _
  · exact work.setObstruction _ _

theorem takeReceivedCode (c : ReceivedCode) : LinesWork s (takeReceivedCode c t).1 := by
  have judged : LinesWork s (judgedCode c t).state := by
    unfold judgedCode
    split
    · exact work
    · exact work.judgeMeaning c
  have counted : LinesWork s (countedCode c t) := by
    unfold countedCode
    split
    · exact judged.stepDown _
    · exact judged.stepUp _ _
  cases changed : (judgedCode c t).changed with
  | none => rw [takeReceivedCode_unchanged changed]; exact counted
  | some r => rw [takeReceivedCode_changed changed]; exact counted.latchChange r

/-- R106, R110: the end of a code. -/
theorem endCode (x : Line) (c : Assembly) : LinesWork s (endCode x c t) := by
  have handed (heard : Heard) (again : Bool) : LinesWork s (codeHanded x c heard again t).1 := by
    have stripped : LinesWork s (codeStripped x again t) := work.updBell_same x ⟨rfl, rfl, rfl⟩
    unfold codeHanded handOver
    split
    · split
      · exact stripped.takeReceivedCode _
      · exact stripped.stepUp _ _
      · exact stripped.stepUp _ _
    · exact stripped
  have kept (heard : Heard) (again : Bool) : LinesWork s
      (keepRecognised x c.groups heard (codeHanded x c heard again t).1) := by
    unfold keepRecognised
    (repeat' split)
    · exact (handed _ again).updBell_same x ⟨rfl, rfl, rfl⟩
    all_goals exact handed _ again
  rw [endCode_eq rfl rfl]
  exact (kept _ _).storeCode x _

/-- R116: the completion of a send. -/
theorem completeSend (x : Line) (send : Send) : LinesWork s (completeSend x send t) := by
  have completed : LinesWork s (sendCompleted t x send) := by
    unfold sendCompleted
    dsimp only
    rw [takeSendCompleted_eq]
    exact (work.setOwed x _).updBell_same x ⟨rfl, rfl, rfl⟩
  change LinesWork s (if _ then Machine.autoEntering x (sendCompleted t x send) else sendCompleted t x send)
  split
  · exact completed.autoEntering x
  · exact completed

/-! ### Adoptions of the OUT instrument -/

theorem judgeAdoption (x : Line) (new : Instrument) : LinesWork s (judgeAdoption x new t) := by
  have withdrawn {u : State} (r : TrainId) (work : LinesWork s u) :
      LinesWork s (withdrawAcceptance x r u) := ((work.updTrain _ _).setStanding _ _).latch _ _
  unfold Machine.judgeAdoption
  dsimp only
  split
  · split
    · exact work
    · exact ((work.updTrain _ _).setStanding _ _).latch _ _
  · split
    · exact work.stepUp _ _
    · exact work
  · exact work.stepUp _ _
  · exact withdrawn _ (work.stepUp _ _)
  · exact work
  · exact work.stepUp _ _
  · exact withdrawn _ work
  · exact work

theorem adopt (x : Line) (new : Instrument) : LinesWork s (adopt x new t) := by
  have rejudged {u : State} (c : Prop) [Decidable c] (work : LinesWork s u) :
      LinesWork s (if c then Machine.rejudge x u else u) := by
    split
    · exact work.rejudge x
    · exact work
  have reacted {u : State} (work : LinesWork s u) : LinesWork s
      (if (u.blc.get x).suspended then u else Machine.judgeAdoption x new u) := by
    split
    · exact work
    · exact work.judgeAdoption x new
  exact (rejudged _ (reacted (rejudged _ work))).latch _ _

theorem settle (x : Line) (r : RawReading) : LinesWork s (settle x r t) := by
  have written := work.updLine_same x (f := fun b => { b with settled := r, candidate := none }) rfl
  unfold Machine.settle
  dsimp only
  split
  · have adopted : LinesWork s (if outStateOf r = (t.blc.get x).outState
        then t.updLine x fun b => { b with settled := r, candidate := none }
        else Machine.adopt x (outStateOf r)
          (t.updLine x fun b => { b with settled := r, candidate := none })) := by
      split
      · exact written
      · exact written.adopt x _
    split
    · exact (adopted.stepUp x 4).latch _ _
    · exact adopted
  · exact written

/-! ### Track events and arrivals -/

theorem entryOccupied (x : Line) (c : TrackId) : LinesWork s (entryOccupied x c t) := by
  have entered (r : TrainId) : LinesWork s (enterSection x r t) := by
    have standing := (work.updTrain r fun tr => { tr with
      outbound := .inSection
      stamps := { tr.stamps with enteredOut := some t.tb.clock } }).setStanding x .inSection
    unfold enterSection
    dsimp only
    split
    · exact (standing.autoEntering x).latch _ _
    · exact (standing.setOwed x _).latch _ _
  unfold Machine.entryOccupied
  (repeat' split)
  · exact entered _
  all_goals exact work.latch _ _

theorem berthOccupied (x : Line) (c : TrackId) : LinesWork s (berthOccupied x c t) := by
  unfold Machine.berthOccupied
  (repeat' split)
  · exact ((work.updTrain _ _).setInstrument x _).latch _ _
  · exact work
  · exact (work.updTrain _ _).latch _ _
  · exact work
  all_goals exact work.latch _ _

theorem trainOccupation (c : TrackId) : LinesWork s (trainOccupation c t) := by
  refine forEachLine_keeps (fun x u work => ?_) t work
  have entry : LinesWork s (if (u.cfg.lines.get x).entryCircuit = some c then
      Machine.entryOccupied x c u else u) := by
    split
    · exact work.entryOccupied x c
    · exact work
  have berth {w : State} (work : LinesWork s w) : LinesWork s
      (if (w.cfg.lines.get x).berth = some c then Machine.berthOccupied x c w else w) := by
    split
    · exact work.berthOccupied x c
    · exact work
  exact berth entry

/-- R32: the track part of an arrival reaches the lines by its occupation events only. -/
theorem deliverArrival (m : Continuity) : LinesWork s (deliverArrival m t) := by
  have moved : LinesWork s (writeLamps (neighbourChecks t (stepCircuits t))) :=
    work.of_eq (by simp) (by simp)
  have tracked : LinesWork s (takeTrackPart t) := by
    unfold takeTrackPart occupationEvents
    dsimp only
    split
    · refine forEach_keeps (fun c u work => ?_) _ moved
      split
      · exact (work.of_eq (u := routeOccupation c u) (by simp) (by simp)).trainOccupation c
      · exact work
    · exact moved
  exact tracked.of_eq (by simp [Machine.deliverArrival]) (by simp [Machine.deliverArrival])

/-- R9 to R14: the judgement of a frame. -/
theorem judgeFrame (f : Frame) (sdi : BitVec 192) : LinesWork s (judgeFrame f sdi t) := by
  unfold Machine.judgeFrame
  (repeat' split)
  · exact work.setSbc _
  · have taken := work.setSbc (t.sbc.takeGood (f.image sdi))
    unfold afterGood
    (repeat' split)
    · exact (taken.setSbc _).deliverArrival _
    · exact taken
    · exact (taken.setSbc _).deliverArrival _
    · exact taken
    · exact taken.deliverArrival _
    · exact taken
  · have taken := work.setSbc t.sbc.takeBad
    unfold afterBad
    split
    · exact taken.of_eq (by simp) (by simp)
    · exact taken

/-! ### Lapses -/

theorem dropOutbound (r : TrainId) (lapsed : Bool) : LinesWork s (dropOutbound r lapsed t) := by
  unfold Machine.dropOutbound
  dsimp only
  (repeat' split)
  · exact (work.updTrain _ _).setStanding _ _
  all_goals exact work.updTrain _ _

theorem lapseInbound (r : TrainId) : LinesWork s (lapseInbound r t) := by
  unfold Machine.lapseInbound
  refine (retirementCheck ?_ r).latchChange r
  (repeat' split)
  · exact (work.updTrain _ _).setInstrument _ _
  all_goals exact work.updTrain _ _

/-! ### The device states -/

/-- R112, R123, R140: lines whose buffers are kept or freed, and whose counts are kept or 0. -/
theorem of_maps {u : State} {f : BellUnit → BellUnit} {g : BlockLine → BlockLine}
    (bu : u.bu = t.bu.map f) (blc : u.blc = t.blc.map g)
    (ordered : ∀ b : BellUnit, b.Ordered → (f b).Ordered)
    (range : ∀ b : BlockLine, b.count ≤ 255 → (g b).count ≤ 255) : LinesWork s u where
  buffers x law := by
    rw [bu, PerLine.get_map]
    exact ordered _ (work.buffers x law)
  counts x law := by
    rw [blc, PerLine.get_map]
    exact range _ (work.counts x law)

theorem takeEnterService : LinesWork s (takeEnterService t).1 := by
  unfold Machine.takeEnterService
  (repeat' split)
  case h_2 =>
    refine work.of_maps (f := BellUnit.entersService) (g := BlockLine.starts) ?_ ?_
      (fun b => BellUnit.SameBuffers.ordered ⟨rfl, rfl, rfl⟩) (fun _ _ => Nat.zero_le _) <;>
    simp [enterService, createBlockHolds, forEachLine]
  all_goals exact work

theorem restartPart : LinesWork s (restartPart t) :=
  work.of_maps (f := fun b => b.restarts t.tb.tickCount) (g := BlockLine.starts) rfl rfl
    (fun _ _ => BellUnit.ordered_of_free rfl rfl) fun _ _ => Nat.zero_le _

/-! ### Requests -/

theorem inConfig {take : State → State × Reply} (owner : LinesWork s (take t).1) :
    LinesWork s (inConfig take t).1 := by
  unfold Machine.inConfig
  split
  · exact work
  · exact owner

theorem withRecord (train : Nat) {k : TrainId → Train → State → State × Reply}
    (owner : ∀ r tr, LinesWork s (k r tr t).1) : LinesWork s (withRecord train k t).1 := by
  unfold Machine.withRecord
  (repeat' split)
  · exact work
  · exact work
  · exact work
  · exact owner _ _

/-- R181: the timing set moves the end tick of a code in assembly. -/
theorem loadTimingSet (timing : Timing) : LinesWork s (loadTimingSet timing t) :=
  work.of_maps (g := id)
    (f := fun b => { b with code := b.code.map fun c => c.regap timing.endGap t.tb.tickCount })
    rfl rfl (fun _ => BellUnit.SameBuffers.ordered ⟨rfl, rfl, rfl⟩) fun _ law => law

theorem takeAccept (r : Nat) (d : Option Description) : LinesWork s (takeAccept r d t).1 := by
  have grouped (x : Line) (r : TrainId) (heard : List Nat) :
      LinesWork s (acceptGroup x r d heard t).1 := by
    have group : LinesWork s (createGroup (clearingGroup x t) (.line x) t).2 := by
      rcases createGroup_cases (clearingGroup x t) (.line x) t with ⟨-, e⟩ | ⟨-, -, e⟩ | ⟨-, -, e⟩ <;>
        rw [e]
      · exact work
      · exact work.of_eq rfl rfl
      · exact work.latch _ _
    unfold acceptGroup
    split <;> (rename_i e; rw [e] at group)
    · split
      · exact group.retireClearing x
      · exact ((group.takeSend x _ _ _).updTrain r _).setInstrument x _
    · exact group
    · exact group
  refine work.withRecord r fun r tr => ?_
  (repeat' split)
  case h_2 => exact grouped _ r _
  all_goals exact work

theorem takeOffer (r x : Nat) : LinesWork s (takeOffer r x t).1 := by
  unfold Machine.takeOffer
  (repeat' split)
  case isFalse => exact ((work.takeEntrySend _ _).updTrain _ _).setStanding _ _
  all_goals exact work

theorem takeOutOfSection (r : Nat) : LinesWork s (takeOutOfSection r t).1 := by
  refine work.withRecord r fun r tr => ?_
  (repeat' split)
  case isFalse => exact (((work.takeEntrySend _ _).updTrain _ _).setInstrument _ _).retirementCheck _
  all_goals exact work

theorem takeCancelOffer (r : Nat) : LinesWork s (takeCancelOffer r t).1 := by
  refine work.withRecord r fun r tr => ?_
  (repeat' split)
  case isFalse => exact ((work.takeEntrySend _ _).dropOutbound _ _).retirementCheck _
  all_goals exact work

theorem takeAcknowledge (x : Nat) : LinesWork s (takeAcknowledge x t).1 := by
  unfold Machine.takeAcknowledge
  (repeat' split)
  case isFalse => exact work.takeSend _ _ _ _
  all_goals exact work

theorem takeSendCode (x e : Nat) : LinesWork s (takeSendCode x e t).1 := by
  unfold Machine.takeSendCode
  (repeat' split)
  case isFalse => exact work.takeSend _ _ _ _
  all_goals exact work

theorem takeReleaseCode (x : Nat) : LinesWork s (takeReleaseCode x t).1 := by
  unfold Machine.takeReleaseCode
  dsimp only
  (repeat' split)
  · exact work
  · exact work
  · exact work.updBell BellUnit.releaseOlder_ordered

theorem takeRestoreLine (x : Nat) : LinesWork s (takeRestoreLine x t).1 := by
  unfold Machine.takeRestoreLine
  (repeat' split)
  · exact work
  · exact work
  · exact work.updLine_same _ (f := fun b => { b with quiet := some (t.tb.tickCount + 2000) }) rfl
  · exact work

/-- What the owner of a request does keeps the laws of the lines. -/
theorem handRequest (i : Instr) : LinesWork s (handRequest i t).1 := by
  cases i
  case loadTiming v => exact work.inConfig (work.loadTimingSet _)
  case loadSlots | loadLever | loadRoute | loadTrack | loadLine | loadCode =>
    refine work.inConfig ?_
    dsimp only
    (repeat' split) <;> exact work.of_eq (by simp) (by simp)
  case enterService => exact work.takeEnterService
  case restart => exact work.restartPart
  case accept => exact work.takeAccept _ _
  case offer => exact work.takeOffer _ _
  case outOfSection => exact work.takeOutOfSection _
  case cancelOffer => exact work.takeCancelOffer _
  case acknowledge => exact work.takeAcknowledge _
  case sendCode => exact work.takeSendCode _ _
  case releaseCode => exact work.takeReleaseCode _
  case restoreLine => exact work.takeRestoreLine _
  case retireTrain | tailSeen =>
    refine work.withRecord _ fun r tr => ?_
    (repeat' split) <;> exact work.of_eq (by simp) (by simp)
  case readLever | readTrack | readRoute | readHold | listHolds | readLine | readCode | readTrain =>
    simp only [Machine.handRequest, atOnce, takeReadLever, takeReadTrack, takeReadRoute, takeReadHold,
      takeListHolds, takeReadLine, takeReadCode, takeReadTrain]
    (repeat' split) <;> exact work
  case scanStop =>
    simp only [Machine.handRequest, takeScanStop, stopScan]
    (repeat' split) <;> exact work.of_eq (by simp) (by simp)
  case loadAttention | scanStart | clearMark | placeBar | removeBar | timedRelease | createTrain
      | setDestination | clearAttention | setClock =>
    simp only [Machine.handRequest, atOnce, takeLoadAttention, takeScanStart, takeClearMark,
      takePlaceBar, takeRemoveBar, takeTimedRelease, takeCreateTrain, takeSetDestination,
      takeClearAttention, takeSetClock]
    (repeat' split) <;> exact work.of_eq (by simp) (by simp)
  all_goals exact work

/-! ### Events -/

/-- What an event does keeps the laws of the lines. -/
theorem exec_event {i : Instr} {u : State} (event : isEvent i = true) (run : exec i t = .next u) :
    LinesWork s u := by
  cases i
  case fullReset =>
    cases run
    constructor <;> intro x _
    · change (State.reset.bu.get x).Ordered
      rw [reset_bell]
      exact BellUnit.ordered_of_free rfl rfl
    · change (State.reset.blc.get x).count ≤ 255
      rw [reset_line]
      exact Nat.zero_le _
  case tick a b c =>
    cases run
    exact (((work.of_eq (u := { t with tb := t.tb.tick }) rfl rfl).sampleLine .a a).sampleLine .b b).sampleLine .c c
  case tenthBoundary =>
    change execTenthBoundary t = _ at run
    unfold execTenthBoundary at run
    split at run <;> cases run
    · exact work.of_maps (f := BellUnit.boundary) (g := id) rfl rfl
        (fun _ => BellUnit.SameBuffers.ordered ⟨rfl, rfl, rfl⟩) fun _ law => law
    · exact work
  case pickupExpiry => cases run; exact work.of_eq (by simp) (by simp)
  case frameJudge sdi =>
    change execFrameJudge sdi t = _ at run
    unfold execFrameJudge at run
    split at run <;> cases run
    · exact work.judgeFrame _ _
    · exact work
  case codeEnd x =>
    change execCodeEnd x t = _ at run
    unfold execCodeEnd at run
    split at run <;> cases run
    · exact work.endCode _ _
    · exact work
  case sendCompletion x =>
    change execSendCompletion x t = _ at run
    unfold execSendCompletion at run
    split at run <;> cases run
    · exact work.completeSend _ _
    · exact work
  case instrumentSettling x =>
    change execInstrumentSettling x t = _ at run
    unfold execInstrumentSettling at run
    split at run <;> cases run
    · exact work.settle _ _
    · exact work
  case blankingEnd x level =>
    change execBlankingEnd x level t = _ at run
    unfold execBlankingEnd at run
    split at run <;> cases run
    · exact (work.updBell_same x ⟨rfl, rfl, rfl⟩).sampleBell x level
    · exact work
  case repetitionDeadlineExpiry x =>
    change execRepetitionDeadlineExpiry x t = _ at run
    unfold execRepetitionDeadlineExpiry at run
    split at run <;> cases run
    · exact (work.updBell_same x ⟨rfl, rfl, rfl⟩).latch _ _
    · exact work
  case quietWaitEnd x =>
    change execQuietWaitEnd x t = _ at run
    unfold execQuietWaitEnd at run
    split at run <;> cases run
    · exact ((work.updLine (f := fun b => { b with count := 0, quiet := none })
        fun _ => Nat.zero_le _).latch _ _).rejudge x
    · exact work
  case lapseExpiry r h =>
    change execLapseExpiry r h t = _ at run
    unfold execLapseExpiry at run
    (repeat' split at run) <;> cases run
    · exact work.lapseInbound r
    · exact ((work.dropOutbound r true).retirementCheck r).latchChange r
    · exact work
  case strokeTimeout | approachExpiry | emergencyExpiry =>
    simp only [exec, execStrokeTimeout, execApproachExpiry, execEmergencyExpiry] at run
    split at run <;> cases run
    · exact work.of_eq (by simp) (by simp)
    · exact work
  case frameOpen | closingFrame | closingSync =>
    simp only [exec, execFrameOpen, execClosingFrame, execClosingSync] at run
    split at run <;> cases run
    · exact work.of_eq rfl rfl
    · exact work
  all_goals cases event

end LinesWork

/-- Every step keeps the two laws of each line. -/
theorem step_linesWork {s t : State} (run : step s = .next t) : LinesWork s t :=
  step_keeps (P := LinesWork s) (fun _ _ _ _ work => work.of_eq rfl rfl)
    (fun i _ work => work.handRequest i) (fun _ _ _ event work run => work.exec_event event run)
    (.refl s) run

/-- Settles O59: every owner's rule and every event keep both laws, line by line. -/
theorem stepKeepsTheBuffersAndTheCount : Obligations.StepKeepsTheBuffersAndTheCount :=
  ⟨fun _ _ law run x => (step_linesWork run).buffers x (law x),
    fun _ _ law run x => (step_linesWork run).counts x (law x)⟩

end Sys2Proof.Machine

/-! The halves of the trains, read per record, and what a line's Block Line Controller shows of them: the
law that ties the two, and what keeps it. -/

namespace Sys2Proof.Machine

/-! ### One kind of half and what the lines show of it -/

/-- For each record the line and the state of its active half of one kind, and for each line what its
Block Line Controller shows of that kind. -/
structure HalfView (α β : Type) where
  half : TrainId → Option (Line × α)
  shown : Line → β

namespace HalfView

variable {α β : Type}

/-- R144: at most one half on a line. -/
def Alone (v : HalfView α β) : Prop :=
  ∀ x q r a b, v.half q = some (x, a) → v.half r = some (x, b) → q = r

/-- R126, R135: each line shows the value of the half on it, or the value of none. -/
structure Shows (f : Option α → β) (v : HalfView α β) : Prop where
  occupied : ∀ x r a, v.half r = some (x, a) → v.shown x = f (some a)
  empty : ∀ x, (∀ r a, v.half r ≠ some (x, a)) → v.shown x = f none

/-- What holds of a view by the two laws holds of the next one. -/
structure Kept (f : Option α → β) (v w : HalfView α β) : Prop where
  alone : v.Alone → w.Alone
  shows : v.Alone → v.Shows f → w.Shows f

theorem Kept.refl (f : Option α → β) (v : HalfView α β) : Kept f v v := ⟨id, fun _ => id⟩

theorem Kept.trans {f : Option α → β} {u v w : HalfView α β} (a : Kept f u v) (b : Kept f v w) :
    Kept f u w where
  alone one := b.alone (a.alone one)
  shows one shows := b.shows (a.alone one) (a.shows one shows)

/-- Record `r` may have the half on line `x`: it has it, or it has no half and neither has the line. -/
def Entitled (v : HalfView α β) (r : TrainId) (x : Line) : Prop :=
  (∃ a, v.half r = some (x, a)) ∨ (v.half r = none ∧ ∀ q a, v.half q ≠ some (x, a))

/-- The half of record `r` alone is written, on a line that it may have, and the line shows the half's new
value. -/
structure Moved (f : Option α → β) (r : TrainId) (x : Line) (v w : HalfView α β) : Prop where
  entitled : v.Entitled r x
  after : ∀ y a, w.half r = some (y, a) → y = x
  others : ∀ q, q ≠ r → w.half q = v.half q
  value : v.Shows f → w.shown x = f ((w.half r).map Prod.snd)
  lines : ∀ y, y ≠ x → w.shown y = v.shown y

section
variable {f : Option α → β} {r : TrainId} {x : Line} {v w : HalfView α β} (moved : Moved f r x v w)
include moved

/-- No other record has a half on the line. -/
theorem Moved.free (one : v.Alone) {q : TrainId} (ne : q ≠ r) (a : α) : v.half q ≠ some (x, a) := by
  rcases moved.entitled with ⟨b, own⟩ | ⟨-, none_⟩
  · exact fun other => ne (one x q r a b other own)
  · exact none_ q a

theorem Moved.before {y : Line} {a : α} (half : v.half r = some (y, a)) : y = x := by
  rcases moved.entitled with ⟨b, own⟩ | ⟨none_, -⟩
  · cases half.symm.trans own; rfl
  · rw [none_] at half; cases half

theorem Moved.kept : Kept f v w where
  alone one := by
    have only {q : TrainId} {y : Line} {a b : α} (ne : q ≠ r) (other : w.half q = some (y, a))
        (own : w.half r = some (y, b)) : False := by
      rw [moved.others q ne, moved.after y b own] at other
      exact moved.free one ne a other
    intro y p q a b hp hq
    by_cases ep : p = r <;> by_cases eq : q = r
    · rw [ep, eq]
    · subst ep; exact (only eq hq hp).elim
    · subst eq; exact (only ep hp hq).elim
    · rw [moved.others p ep] at hp
      rw [moved.others q eq] at hq
      exact one y p q a b hp hq
  shows one shows := by
    constructor
    · intro y q a half
      by_cases own : q = r
      · subst own
        rw [moved.after y a half, moved.value shows, half]
        rfl
      · rw [moved.others q own] at half
        have off : y ≠ x := fun e => moved.free one own a (e ▸ half)
        rw [moved.lines y off]
        exact shows.occupied y q a half
    · intro y none_
      by_cases own : y = x
      · subst own
        have gone : w.half r = none := by
          refine Option.eq_none_iff_forall_ne_some.mpr fun ⟨z, a⟩ half => ?_
          exact none_ r a (moved.after z a half ▸ half)
        rw [moved.value shows, gone]
        rfl
      · rw [moved.lines y own]
        refine shows.empty y fun q a half => ?_
        by_cases mine : q = r
        · exact own (moved.before (mine ▸ half))
        · exact none_ q a ((moved.others q mine).trans half)

end

end HalfView

/-! ### The two kinds of half of the device -/

theorem Inbound.active_iff {st : Inbound} : st.active = true ↔
    st = .offered ∨ st = .accepted ∨ st = .inSection ∨ st = .arrived := by
  cases st <;> simp [Inbound.active]

theorem Outbound.active_iff {st : Outbound} : st.active = true ↔
    st = .offered ∨ st = .accepted ∨ st = .inSection := by
  cases st <;> simp [Outbound.active]

/-- R142: the line and the state of a record's active inbound half. -/
def Train.inboundHalf (t : Train) : Option (Line × Inbound) :=
  if t.inbound.active then t.arrivalLine.map fun x => (x, t.inbound) else none

/-- R142: the line and the state of a record's active outbound half. -/
def Train.outboundHalf (t : Train) : Option (Line × Outbound) :=
  match t.destination with
  | .line x => if t.outbound.active then some (x, t.outbound) else none
  | .undecided => none
  | .localBox => none

/-- R126: the IN instrument that a line's inbound half asks for. -/
def instrumentFor : Option Inbound → Instrument
  | some .accepted => .clear
  | some .inSection => .onLine
  | some .arrived => .onLine
  | _ => .blocked

/-- R135: the standing that a line's outbound half asks for. -/
def standingFor (half : Option Outbound) : Standing := (half.map Outbound.standing).getD .none

/-- The inbound halves and the IN instruments. -/
def State.inboundView (s : State) : HalfView Inbound Instrument where
  half r := s.trt.records[r].bind Train.inboundHalf
  shown x := (s.blc.get x).inInstrument

/-- The outbound halves and the outbound standings. -/
def State.outboundView (s : State) : HalfView Outbound Standing where
  half r := s.trt.records[r].bind Train.outboundHalf
  shown x := (s.blc.get x).standing

section
variable {t : Train} {x : Line}

theorem Train.inboundHalf_eq_some {st : Inbound} : t.inboundHalf = some (x, st) ↔
    t.arrivalLine = some x ∧ t.inbound = st ∧ st.active = true := by
  unfold Train.inboundHalf
  split
  · next active =>
    simp only [Option.map_eq_some_iff, Prod.mk.injEq]
    constructor
    · rintro ⟨y, line, rfl, rfl⟩; exact ⟨line, rfl, active⟩
    · rintro ⟨line, rfl, -⟩; exact ⟨x, line, rfl, rfl⟩
  · next idle =>
    simp only [reduceCtorEq, false_iff]
    rintro ⟨-, rfl, active⟩
    exact idle active

theorem Train.outboundHalf_eq_some {st : Outbound} : t.outboundHalf = some (x, st) ↔
    t.destination = .line x ∧ t.outbound = st ∧ st.active = true := by
  unfold Train.outboundHalf
  cases t.destination with
  | line y =>
    dsimp only
    split
    · next active =>
      simp only [Option.some.injEq, Prod.mk.injEq, Destination.line.injEq]
      constructor
      · rintro ⟨rfl, rfl⟩; exact ⟨rfl, rfl, active⟩
      · rintro ⟨rfl, rfl, -⟩; exact ⟨rfl, rfl⟩
    · next idle =>
      simp only [reduceCtorEq, false_iff]
      rintro ⟨-, rfl, active⟩
      exact idle active
  | undecided => simp
  | localBox => simp

/-- R142: a half that is not active stands on no line. -/
theorem Train.inboundHalf_idle (idle : t.inbound.active = false) : t.inboundHalf = none :=
  if_neg (by simp [idle])

theorem Train.outboundHalf_idle (idle : t.outbound.active = false) : t.outboundHalf = none := by
  unfold Train.outboundHalf
  split <;> simp [idle]

end

section
variable {s : State} {x : Line} {r : TrainId}

theorem inboundView_half {st : Inbound} : s.inboundView.half r = some (x, st) ↔
    ∃ t, s.trt.records[r] = some t ∧ t.arrivalLine = some x ∧ t.inbound = st ∧ st.active = true := by
  simp only [State.inboundView, Option.bind_eq_some_iff, Train.inboundHalf_eq_some]

theorem outboundView_half {st : Outbound} : s.outboundView.half r = some (x, st) ↔
    ∃ t, s.trt.records[r] = some t ∧ t.destination = .line x ∧ t.outbound = st ∧
      st.active = true := by
  simp only [State.outboundView, Option.bind_eq_some_iff, Train.outboundHalf_eq_some]

theorem inboundView_record {v : Option Train} (record : s.trt.records[r] = v) :
    s.inboundView.half r = v.bind Train.inboundHalf := by rw [← record]; rfl

theorem outboundView_record {v : Option Train} (record : s.trt.records[r] = v) :
    s.outboundView.half r = v.bind Train.outboundHalf := by rw [← record]; rfl

theorem inboundOn_iff_view : inboundOn s r x ↔ ∃ st, s.inboundView.half r = some (x, st) := by
  simp only [inboundView_half, inboundOn, ← Inbound.active_iff]
  constructor
  · rintro ⟨t, live, on, active⟩; exact ⟨_, t, live, on, rfl, active⟩
  · rintro ⟨-, t, live, on, rfl, active⟩; exact ⟨t, live, on, active⟩

theorem outboundOn_iff_view : outboundOn s r x ↔ ∃ st, s.outboundView.half r = some (x, st) := by
  simp only [outboundView_half, outboundOn, ← Outbound.active_iff]
  constructor
  · rintro ⟨t, live, on, active⟩; exact ⟨_, t, live, on, rfl, active⟩
  · rintro ⟨-, t, live, on, rfl, active⟩; exact ⟨t, live, on, active⟩

theorem inboundIs_iff_view {st : Inbound} (active : st.active = true) :
    inboundIs s x st ↔ ∃ r, s.inboundView.half r = some (x, st) := by
  simp only [inboundView_half, inboundIs, active, and_true]

theorem outboundIs_iff_view {st : Outbound} (active : st.active = true) :
    outboundIs s x st ↔ ∃ r, s.outboundView.half r = some (x, st) := by
  simp only [outboundView_half, outboundIs, active, and_true]

/-- R144: the law for halves, of the two views. -/
theorem halvesLaw_iff : HalvesLaw s ↔ s.inboundView.Alone ∧ s.outboundView.Alone := by
  constructor
  · rintro ⟨inbound, outbound⟩
    exact ⟨fun x q r a b hq hr =>
        inbound x q r (inboundOn_iff_view.mpr ⟨a, hq⟩) (inboundOn_iff_view.mpr ⟨b, hr⟩),
      fun x q r a b hq hr =>
        outbound x q r (outboundOn_iff_view.mpr ⟨a, hq⟩) (outboundOn_iff_view.mpr ⟨b, hr⟩)⟩
  · rintro ⟨inbound, outbound⟩
    constructor
    · intro x q r hq hr
      obtain ⟨a, hq⟩ := inboundOn_iff_view.mp hq
      obtain ⟨b, hr⟩ := inboundOn_iff_view.mp hr
      exact inbound x q r a b hq hr
    · intro x q r hq hr
      obtain ⟨a, hq⟩ := outboundOn_iff_view.mp hq
      obtain ⟨b, hr⟩ := outboundOn_iff_view.mp hr
      exact outbound x q r a b hq hr

end

namespace HalfView

variable {α β : Type} {v : HalfView α β} {f : Option α → β}

/-- A value that no half and only some states of a half give is shown exactly when a half in one of those
states is there. -/
theorem Shows.iff (shows : v.Shows f) (x : Line) (value : β) (none_ : f none ≠ value) :
    v.shown x = value ↔ ∃ a, f (some a) = value ∧ ∃ r, v.half r = some (x, a) := by
  constructor
  · intro shown
    by_contra absent
    push Not at absent
    have off (r : TrainId) (a : α) : v.half r ≠ some (x, a) := fun half =>
      absent a ((shows.occupied x r a half).symm.trans shown) r half
    exact none_ ((shows.empty x off).symm.trans shown)
  · rintro ⟨a, rfl, r, half⟩
    exact shows.occupied x r a half

/-- The converse: what the lines show is fixed by the values other than that of no half. -/
theorem shows_of_iff (one : v.Alone) (iff : ∀ value, f none ≠ value → ∀ x,
    (v.shown x = value ↔ ∃ a, f (some a) = value ∧ ∃ r, v.half r = some (x, a))) : v.Shows f where
  occupied x r a half := by
    by_cases none_ : f none = f (some a)
    · by_contra other
      obtain ⟨b, value, q, half'⟩ := (iff _ (fun e => other (e.symm.trans none_)) x).mp rfl
      have same : q = r := one x q r b a half' half
      subst same
      cases half'.symm.trans half
      exact other value.symm
    · exact (iff _ none_ x).mpr ⟨a, rfl, r, half⟩
  empty x off := by
    by_contra other
    obtain ⟨b, -, q, half⟩ := (iff _ (Ne.symm other) x).mp rfl
    exact off q b half

end HalfView

section
variable {s : State} (x : Line)

theorem clearHalf_iff : (∃ st, instrumentFor (some st) = .clear ∧
    ∃ r, s.inboundView.half r = some (x, st)) ↔ inboundIs s x .accepted := by
  rw [inboundIs_iff_view rfl]
  refine ⟨fun ⟨st, value, half⟩ => ?_, fun half => ⟨.accepted, rfl, half⟩⟩
  cases st <;> cases value
  exact half

theorem onLineHalf_iff : (∃ st, instrumentFor (some st) = .onLine ∧
    ∃ r, s.inboundView.half r = some (x, st)) ↔
    inboundIs s x .inSection ∨ inboundIs s x .arrived := by
  rw [inboundIs_iff_view rfl, inboundIs_iff_view rfl]
  refine ⟨fun ⟨st, value, half⟩ => ?_, fun half => half.elim (fun half => ⟨.inSection, rfl, half⟩)
    fun half => ⟨.arrived, rfl, half⟩⟩
  cases st <;> cases value
  · exact .inl half
  · exact .inr half

/-- R135: a standing names the one state of an outbound half that it mirrors. -/
theorem standingHalf_iff {st : Outbound} (active : st.active = true) :
    (∃ a, standingFor (some a) = st.standing ∧ ∃ r, s.outboundView.half r = some (x, a)) ↔
    outboundIs s x st := by
  rw [outboundIs_iff_view active]
  refine ⟨fun ⟨a, value, half⟩ => ?_, fun half => ⟨st, rfl, half⟩⟩
  have same : a = st := by
    cases st <;> cases active <;> cases a <;> first | rfl | cases value
  exact same ▸ half

end

/-- R126: the law for the IN instrument, of the views. -/
theorem instrumentLaw_iff {s : State} : InstrumentLaw s ↔
    s.inboundView.Alone ∧ s.outboundView.Alone ∧ s.inboundView.Shows instrumentFor := by
  constructor
  · rintro ⟨halves, clear, onLine⟩
    obtain ⟨inbound, outbound⟩ := halvesLaw_iff.mp halves
    refine ⟨inbound, outbound, HalfView.shows_of_iff inbound fun value other x => ?_⟩
    cases value with
    | blocked => exact absurd rfl other
    | clear => exact (clear x).trans (clearHalf_iff x).symm
    | onLine => exact (onLine x).trans (onLineHalf_iff x).symm
  · rintro ⟨inbound, outbound, shows⟩
    exact ⟨halvesLaw_iff.mpr ⟨inbound, outbound⟩,
      fun x => (shows.iff x .clear nofun).trans (clearHalf_iff x),
      fun x => (shows.iff x .onLine nofun).trans (onLineHalf_iff x)⟩

/-- R135: the law for the outbound standing, of the views. -/
theorem standingLaw_iff {s : State} : StandingLaw s ↔
    s.inboundView.Alone ∧ s.outboundView.Alone ∧ s.outboundView.Shows standingFor := by
  constructor
  · rintro ⟨halves, offered, accepted, inSection⟩
    obtain ⟨inbound, outbound⟩ := halvesLaw_iff.mp halves
    refine ⟨inbound, outbound, HalfView.shows_of_iff outbound fun value other x => ?_⟩
    cases value with
    | none => exact absurd rfl other
    | offered => exact (offered x).trans (standingHalf_iff (st := .offered) x rfl).symm
    | accepted => exact (accepted x).trans (standingHalf_iff (st := .accepted) x rfl).symm
    | inSection => exact (inSection x).trans (standingHalf_iff (st := .inSection) x rfl).symm
  · rintro ⟨inbound, outbound, shows⟩
    exact ⟨halvesLaw_iff.mpr ⟨inbound, outbound⟩,
      fun x => (shows.iff x .offered nofun).trans (standingHalf_iff (st := .offered) x rfl),
      fun x => (shows.iff x .accepted nofun).trans (standingHalf_iff (st := .accepted) x rfl),
      fun x => (shows.iff x .inSection nofun).trans (standingHalf_iff (st := .inSection) x rfl)⟩

end Sys2Proof.Machine

/-! What keeps the laws of the halves: the writers of a record and of a line, and the moves of a half with
the instrument or the standing that follows it. -/

namespace Sys2Proof.Machine

/-! ### A record written -/

section
variable (s : State) (r : TrainId)

/-- A live record written by a function is replaced by that function's value. -/
theorem updTrain_eq_updRecord (f : Train → Train) :
    s.updTrain r f = s.updRecord r (s.trt.records[r].map f) := rfl

theorem updTrain_live {v : Train} (live : s.trt.records[r] = some v) (f : Train → Train) :
    s.updTrain r f = s.updRecord r (some (f v)) := by
  rw [updTrain_eq_updRecord, live]; rfl

theorem updRecord_own (v : Option Train) : (s.updRecord r v).trt.records[r] = v :=
  tableUpdate_get_self _ _ _

theorem updRecord_other {q : TrainId} (ne : q ≠ r) (v : Option Train) :
    (s.updRecord r v).trt.records[q] = s.trt.records[q] := tableUpdate_get_ne _ _ ne

end

/-- R126: what a record on a line asks of its IN instrument, by its inbound state. -/
theorem instrumentFor_half {w : Train} {x : Line} (line : w.arrivalLine = some x) :
    instrumentFor (w.inboundHalf.map Prod.snd) = instrumentFor (some w.inbound) := by
  unfold Train.inboundHalf
  rw [line]
  cases w.inbound <;> rfl

/-- R135: what a record on a line asks of its standing, by its outbound state. -/
theorem standingFor_half {w : Train} {x : Line}
    (line : w.destination = .line x ∨ w.outbound.active = false) :
    standingFor (w.outboundHalf.map Prod.snd) = standingFor (some w.outbound) := by
  rcases line with on | idle
  · unfold Train.outboundHalf
    rw [on]
    cases w.outbound <;> rfl
  · rw [Train.outboundHalf_idle idle]
    cases st : w.outbound <;> rw [st] at idle <;> first | rfl | cases idle

/-- A train that the lookup of a line's inbound train finds. -/
theorem inboundTrain_record {s : State} {x : Line} {r : TrainId}
    (found : s.trt.inboundTrain x = some r) :
    ∃ v, s.trt.records[r] = some v ∧ v.arrivalLine = some x ∧ v.inbound.active = true := by
  obtain ⟨v, live, on, active⟩ := inboundOn_iff.mpr (lowest_eq_some.mp found).1
  exact ⟨v, live, on, Inbound.active_iff.mpr active⟩

/-- A train that the lookup of a line's outbound train finds. -/
theorem outboundTrain_record {s : State} {x : Line} {r : TrainId}
    (found : s.trt.outboundTrain x = some r) :
    ∃ v, s.trt.records[r] = some v ∧ v.destination = .line x ∧ v.outbound.active = true := by
  obtain ⟨v, live, on, active⟩ := outboundOn_iff.mpr (lowest_eq_some.mp found).1
  exact ⟨v, live, on, Outbound.active_iff.mpr active⟩

/-! ### The views after a write -/

section
variable (s : State)

/-- What a write of a line leaves of it, it leaves of every line. -/
theorem updLine_field {β : Type} (g : BlockLine → β) {x : Line} {f : BlockLine → BlockLine}
    (same : g (f (s.blc.get x)) = g (s.blc.get x)) (y : Line) :
    g ((s.updLine x f).blc.get y) = g (s.blc.get y) := by
  rw [State.updLine_blc, PerLine.get_set]
  split
  · next e => subst e; exact same
  · rfl

theorem inboundView_updLine {x : Line} {f : BlockLine → BlockLine}
    (same : (f (s.blc.get x)).inInstrument = (s.blc.get x).inInstrument) :
    (s.updLine x f).inboundView = s.inboundView :=
  congrArg (HalfView.mk s.inboundView.half) (funext (updLine_field s BlockLine.inInstrument same))

theorem outboundView_updLine {x : Line} {f : BlockLine → BlockLine}
    (same : (f (s.blc.get x)).standing = (s.blc.get x).standing) :
    (s.updLine x f).outboundView = s.outboundView :=
  congrArg (HalfView.mk s.outboundView.half) (funext (updLine_field s BlockLine.standing same))

/-- What a write of a record leaves of it, it leaves of every record. -/
theorem updRecord_field {α : Type} (g : Train → Option α) {r : TrainId} {v : Option Train}
    (same : v.bind g = s.trt.records[r].bind g) (q : TrainId) :
    (s.updRecord r v).trt.records[q].bind g = s.trt.records[q].bind g := by
  by_cases own : q = r
  · subst own; rw [updRecord_own]; exact same
  · rw [updRecord_other _ _ own]

theorem inboundView_updRecord {r : TrainId} {v : Option Train}
    (same : v.bind Train.inboundHalf = s.inboundView.half r) :
    (s.updRecord r v).inboundView = s.inboundView :=
  congrArg (HalfView.mk · s.inboundView.shown) (funext (updRecord_field s Train.inboundHalf same))

theorem outboundView_updRecord {r : TrainId} {v : Option Train}
    (same : v.bind Train.outboundHalf = s.outboundView.half r) :
    (s.updRecord r v).outboundView = s.outboundView :=
  congrArg (HalfView.mk · s.outboundView.shown) (funext (updRecord_field s Train.outboundHalf same))

theorem inboundView_of_eq {u : State} (records : u.trt.records = s.trt.records)
    (blc : u.blc = s.blc) : u.inboundView = s.inboundView := by
  rw [State.inboundView, records, blc]; rfl

theorem outboundView_of_eq {u : State} (records : u.trt.records = s.trt.records)
    (blc : u.blc = s.blc) : u.outboundView = s.outboundView := by
  rw [State.outboundView, records, blc]; rfl

end

/-- An IN instrument instructed to stay changes nothing. -/
theorem setInstrument_same (x : Line) (s : State) :
    setInstrument x (s.blc.get x).inInstrument s = s :=
  congrArg (fun blc => { s with blc := blc }) (PerLine.set_get s.blc x)

/-! ### The laws kept between two states -/

/-- The laws for halves, of both kinds, and of what the lines show of them, hold after if they hold
before. -/
structure HalvesKept (s t : State) : Prop where
  inbound : HalfView.Kept instrumentFor s.inboundView t.inboundView
  outbound : HalfView.Kept standingFor s.outboundView t.outboundView

namespace HalvesKept

theorem refl (s : State) : HalvesKept s s := ⟨.refl _ _, .refl _ _⟩

theorem trans {s t u : State} (a : HalvesKept s t) (b : HalvesKept t u) : HalvesKept s u :=
  ⟨a.inbound.trans b.inbound, a.outbound.trans b.outbound⟩

theorem instrumentLaw {s t : State} (kept : HalvesKept s t) (law : InstrumentLaw s) :
    InstrumentLaw t := by
  obtain ⟨inbound, outbound, shows⟩ := instrumentLaw_iff.mp law
  exact instrumentLaw_iff.mpr ⟨kept.inbound.alone inbound, kept.outbound.alone outbound,
    kept.inbound.shows inbound shows⟩

theorem standingLaw {s t : State} (kept : HalvesKept s t) (law : StandingLaw s) :
    StandingLaw t := by
  obtain ⟨inbound, outbound, shows⟩ := standingLaw_iff.mp law
  exact standingLaw_iff.mpr ⟨kept.inbound.alone inbound, kept.outbound.alone outbound,
    kept.outbound.shows outbound shows⟩

/-- R144: with no live record, BLOCKED instruments and no standing, the laws hold whatever was before. -/
theorem of_empty {s t : State} (empty : ∀ r : TrainId, t.trt.records[r] = none)
    (blocked : ∀ x, (t.blc.get x).inInstrument = .blocked)
    (unset : ∀ x, (t.blc.get x).standing = .none) : HalvesKept s t := by
  obtain ⟨inbound, outbound, instruments⟩ :=
    instrumentLaw_iff.mp (instrumentLaw_of_empty empty blocked)
  obtain ⟨-, -, standings⟩ := standingLaw_iff.mp (standingLaw_of_empty empty unset)
  exact ⟨⟨fun _ => inbound, fun _ _ => instruments⟩, ⟨fun _ => outbound, fun _ _ => standings⟩⟩

variable {s t : State} (kept : HalvesKept s t)
include kept

/-! ### What moves no half -/

theorem of_views {u : State} (inbound : u.inboundView = t.inboundView)
    (outbound : u.outboundView = t.outboundView) : HalvesKept s u := by
  refine kept.trans ⟨?_, ?_⟩
  · rw [inbound]; exact .refl _ _
  · rw [outbound]; exact .refl _ _

theorem of_eq {u : State} (records : u.trt.records = t.trt.records) (blc : u.blc = t.blc) :
    HalvesKept s u :=
  kept.of_views (inboundView_of_eq t records blc) (outboundView_of_eq t records blc)

theorem latch (src : Source) (d : Detail) : HalvesKept s (latch src d t) :=
  kept.of_eq (by simp) (by simp)

theorem rejudge (x : Line) : HalvesKept s (rejudge x t) := kept.of_eq (by simp) (by simp)

theorem retireClearing (x : Line) : HalvesKept s (retireClearing x t) :=
  kept.of_eq (by simp [Machine.retireClearing]) (by simp [Machine.retireClearing])

theorem setOwed (x : Line) (owed : Bool) : HalvesKept s (t.setOwed x owed) := kept.of_eq rfl rfl

theorem latchChange (r : TrainId) : HalvesKept s (latchChange r t) :=
  kept.of_eq (by simp) (by simp)

theorem takeEntrySend (x : Line) (c : CodeId) : HalvesKept s (takeEntrySend x c t) :=
  kept.of_eq (by simp) (by simp)

/-- A line written elsewhere than in its IN instrument and its standing. -/
theorem updLine (x : Line) {f : BlockLine → BlockLine}
    (instrument : (f (t.blc.get x)).inInstrument = (t.blc.get x).inInstrument)
    (standing : (f (t.blc.get x)).standing = (t.blc.get x).standing) :
    HalvesKept s (t.updLine x f) :=
  kept.of_views (inboundView_updLine t instrument) (outboundView_updLine t standing)

/-- A record written elsewhere than in its active halves. -/
theorem updRecord (r : TrainId) {v : Option Train}
    (inbound : v.bind Train.inboundHalf = t.inboundView.half r)
    (outbound : v.bind Train.outboundHalf = t.outboundView.half r) :
    HalvesKept s (t.updRecord r v) :=
  kept.of_views (inboundView_updRecord t inbound) (outboundView_updRecord t outbound)

/-- A live record written elsewhere than in its active halves. -/
theorem updTrain (r : TrainId) {f : Train → Train}
    (inbound : ∀ v, t.trt.records[r] = some v → (f v).inboundHalf = v.inboundHalf)
    (outbound : ∀ v, t.trt.records[r] = some v → (f v).outboundHalf = v.outboundHalf) :
    HalvesKept s (t.updTrain r f) := by
  rw [updTrain_eq_updRecord]
  refine kept.updRecord r ?_ ?_ <;> cases live : t.trt.records[r]
  · exact (inboundView_record live).symm
  · exact (inbound _ live).trans (inboundView_record live).symm
  · exact (outboundView_record live).symm
  · exact (outbound _ live).trans (outboundView_record live).symm

/-- R161: a record is freed only with neither half active. -/
theorem retirementCheck (r : TrainId) : HalvesKept s (retirementCheck r t) := by
  unfold Machine.retirementCheck
  split
  · next v live =>
    split
    · next retires =>
      simp only [Train.retires, Bool.and_eq_true, Bool.not_eq_true'] at retires
      obtain ⟨⟨inbound, outbound⟩, -⟩ := retires
      exact kept.updRecord r
        ((inboundView_record live).trans (Train.inboundHalf_idle inbound)).symm
        ((outboundView_record live).trans (Train.outboundHalf_idle outbound)).symm
    · exact kept
  · exact kept

/-! ### A half moves -/

section
variable {r : TrainId} {x : Line} {w : Train}

/-- R126: an inbound half moves on its line, with the IN instrument that it then asks for. -/
theorem inboundMoves {i : Instrument} (entitled : t.inboundView.Entitled r x)
    (line : w.arrivalLine = some x) (outbound : w.outboundHalf = t.outboundView.half r)
    (value : t.inboundView.Shows instrumentFor → i = instrumentFor (some w.inbound)) :
    HalvesKept s (setInstrument x i (t.updRecord r (some w))) := by
  have moved : HalfView.Moved instrumentFor r x t.inboundView
      (setInstrument x i (t.updRecord r (some w))).inboundView := by
    have own : (setInstrument x i (t.updRecord r (some w))).inboundView.half r = w.inboundHalf :=
      inboundView_record (updRecord_own t r (some w))
    refine ⟨entitled, fun y a half => ?_, fun q ne => ?_, fun shows => ?_, fun y ne => ?_⟩
    · obtain ⟨on, -⟩ := Train.inboundHalf_eq_some.mp (own.symm.trans half)
      exact (Option.some.inj (line.symm.trans on)).symm
    · exact inboundView_record (updRecord_other t r ne (some w))
    · rw [own, instrumentFor_half line, ← value shows]
      exact congrArg BlockLine.inInstrument (PerLine.get_set_self _ _ _)
    · exact congrArg BlockLine.inInstrument (PerLine.get_set_ne _ _ ne)
  refine kept.trans ⟨moved.kept, ?_⟩
  have same : (setInstrument x i (t.updRecord r (some w))).outboundView = t.outboundView :=
    (outboundView_updLine _ rfl).trans (outboundView_updRecord t outbound)
  rw [same]
  exact .refl _ _

/-- R126: an inbound half moves on its line, whose IN instrument is already what it then asks for. -/
theorem inboundMoves_shown (entitled : t.inboundView.Entitled r x)
    (line : w.arrivalLine = some x) (outbound : w.outboundHalf = t.outboundView.half r)
    (value : t.inboundView.Shows instrumentFor →
      t.inboundView.shown x = instrumentFor (some w.inbound)) :
    HalvesKept s (t.updRecord r (some w)) := by
  have moved := kept.inboundMoves entitled line outbound value
  rwa [show setInstrument x (t.inboundView.shown x) (t.updRecord r (some w)) = t.updRecord r (some w)
    from setInstrument_same x _] at moved

/-- R135: an outbound half moves on its line, with the standing that mirrors it. -/
theorem outboundMoves {st : Standing} (entitled : t.outboundView.Entitled r x)
    (line : w.destination = .line x ∨ w.outbound.active = false)
    (inbound : w.inboundHalf = t.inboundView.half r) (value : st = w.outbound.standing) :
    HalvesKept s (setStanding x st (t.updRecord r (some w))) := by
  have own : ((t.updRecord r (some w)).updLine x fun b =>
      { b with standing := st }).outboundView.half r = w.outboundHalf :=
    outboundView_record (updRecord_own t r (some w))
  have same : ((t.updRecord r (some w)).updLine x fun b =>
      { b with standing := st }).inboundView = t.inboundView :=
    (inboundView_updLine _ rfl).trans (inboundView_updRecord t inbound)
  refine (kept.trans ⟨by rw [same]; exact .refl _ _,
    HalfView.Moved.kept (r := r) (x := x) ⟨entitled, fun y a half => ?after, fun q ne => ?others,
      fun _ => ?value, fun y ne => ?lines⟩⟩).rejudge x
  case after =>
    obtain ⟨on, rfl, active⟩ := Train.outboundHalf_eq_some.mp (own.symm.trans half)
    rcases line with line | idle
    · exact (Destination.line.inj (line.symm.trans on)).symm
    · cases idle.symm.trans active
  case others => exact outboundView_record (updRecord_other t r ne (some w))
  case value =>
    rw [own, standingFor_half line]
    exact (congrArg BlockLine.standing (PerLine.get_set_self _ _ _)).trans value
  case lines => exact congrArg BlockLine.standing (PerLine.get_set_ne _ _ ne)

end

section
variable {r : TrainId} {x : Line} {v : Train} {f : Train → Train}
  (live : t.trt.records[r] = some v)
include live

/-- An active inbound half on a line moves, and the IN instrument is instructed. -/
theorem trainInbound {i : Instrument} (on : v.arrivalLine = some x) (active : v.inbound.active = true)
    (line : (f v).arrivalLine = v.arrivalLine) (outbound : (f v).outboundHalf = v.outboundHalf)
    (value : i = instrumentFor (some (f v).inbound)) :
    HalvesKept s (setInstrument x i (t.updTrain r f)) := by
  rw [updTrain_live t r live]
  exact kept.inboundMoves (.inl ⟨_, inboundView_half.mpr ⟨v, live, on, rfl, active⟩⟩)
    (line.trans on) (outbound.trans (outboundView_record live).symm) fun _ => value

/-- An active inbound half on a line moves between states of the same IN instrument. -/
theorem trainInbound_same (on : v.arrivalLine = some x) (active : v.inbound.active = true)
    (line : (f v).arrivalLine = v.arrivalLine) (outbound : (f v).outboundHalf = v.outboundHalf)
    (value : instrumentFor (some v.inbound) = instrumentFor (some (f v).inbound)) :
    HalvesKept s (t.updTrain r f) := by
  have half := inboundView_half.mpr ⟨v, live, on, rfl, active⟩
  rw [updTrain_live t r live]
  exact kept.inboundMoves_shown (.inl ⟨_, half⟩) (line.trans on)
    (outbound.trans (outboundView_record live).symm)
    fun shows => (shows.occupied x r _ half).trans value

/-- An active outbound half on a line moves, and the standing follows it. -/
theorem trainOutbound {st : Standing} (on : v.destination = .line x) (active : v.outbound.active = true)
    (line : (f v).destination = .line x ∨ (f v).outbound.active = false)
    (inbound : (f v).inboundHalf = v.inboundHalf) (value : st = (f v).outbound.standing) :
    HalvesKept s (setStanding x st (t.updTrain r f)) := by
  rw [updTrain_live t r live]
  exact kept.outboundMoves (.inl ⟨_, outboundView_half.mpr ⟨v, live, on, rfl, active⟩⟩) line
    (inbound.trans (inboundView_record live).symm) value

end

end HalvesKept

end Sys2Proof.Machine

/-! The laws of the halves over the train records: received codes, adoptions, track events, lapses. -/

namespace Sys2Proof.Machine

namespace HalvesKept

variable {s t : State} (kept : HalvesKept s t)
include kept

/-! ### The lines -/

theorem changeCount (x : Line) (f : Nat → Nat) : HalvesKept s (changeCount x f t) := by
  have written := kept.updLine x (f := fun b => { b with count := f b.count }) rfl rfl
  rcases changeCount_cases x f t with ⟨-, e⟩ | ⟨-, -, e⟩ | ⟨-, -, -, e⟩ | ⟨-, -, -, e⟩ <;> rw [e]
  · exact kept
  · exact written
  · exact (written.latch _ _).rejudge x
  · exact written.latch _ _

theorem stepUp (x : Line) (n : Nat) : HalvesKept s (stepUp x n t) := kept.changeCount x _

theorem stepDown (x : Line) : HalvesKept s (stepDown x t) := kept.changeCount x _

theorem setObstruction (x : Line) (flag : Bool) : HalvesKept s (setObstruction x flag t) :=
  (kept.updLine x rfl rfl).rejudge x

/-- R102, R133: a bell sample moves at most the end of a quiet wait. -/
theorem sampleBell (x : Line) (level : Bool) : HalvesKept s (sampleBell x level t) := by
  have bell : HalvesKept s
      (t.updBell x fun b => b.sample t.cfg.timing t.tb.tickCount level) := kept.of_eq rfl rfl
  unfold Machine.sampleBell
  dsimp only
  split
  · exact bell.updLine x rfl rfl
  · exact bell

theorem sampleLine (x : Line) (inputs : LineInputs) : HalvesKept s (sampleLine x inputs t) := by
  have sampled {u : State} (kept : HalvesKept s u) (r : RawReading) :
      HalvesKept s (u.updLine x fun b => b.sample r) := by
    refine kept.updLine x ?_ ?_ <;> unfold BlockLine.sample <;> (repeat' split) <;> rfl
  unfold Machine.sampleLine
  dsimp only
  split
  · exact sampled kept _
  · exact sampled (kept.sampleBell x _) _

/-! ### Received codes -/

omit kept in
/-- R143: the record given to an offer is free. -/
theorem recordForOffer_free {x : Line} {r : TrainId} (given : t.trt.recordForOffer x = some r) :
    t.trt.records[r] = none := by
  unfold TrainTable.recordForOffer at given
  split at given
  · next q found =>
    cases given
    exact (freeShared_record.mp found).2.1
  · split at given
    · next free => cases given; simpa using free
    · cases given

/-- R146: an offer makes an inbound half on a line that has none, and shows BLOCKED as before. -/
theorem judgeOffer (c : ReceivedCode) : HalvesKept s (judgeOffer c t).state := by
  unfold Machine.judgeOffer
  split
  · exact kept
  · next empty =>
    split
    · next r found =>
      have halfless : t.inboundView.half r = none :=
        inboundView_record (recordForOffer_free found)
      have line (q : TrainId) (a : Inbound) : t.inboundView.half q ≠ some (c.line, a) := fun half =>
        inboundTrain_eq_none.mp empty q (inboundOn_iff_view.mpr ⟨a, half⟩)
      exact kept.inboundMoves_shown (.inr ⟨halfless, line⟩) rfl
        (outboundView_record (recordForOffer_free found)).symm fun shows => shows.empty _ line
    · exact kept.latch _ _

/-- R147: an ENTERING in turn. -/
theorem judgeEntering (c : ReceivedCode) : HalvesKept s (judgeEntering c t).state := by
  unfold Machine.judgeEntering
  split
  · next r found =>
    obtain ⟨v, live, on, active⟩ := inboundTrain_record found
    split
    · exact kept.trainInbound live on active rfl rfl rfl
    · exact kept
  · exact kept

/-- R147: an OUT_OF_SECTION in turn. -/
theorem judgeOutOfSection (c : ReceivedCode) : HalvesKept s (judgeOutOfSection c t).state := by
  unfold Machine.judgeOutOfSection
  split
  · next r found =>
    obtain ⟨v, live, on, active⟩ := outboundTrain_record found
    split
    · exact ((kept.trainOutbound live on active (.inl on) rfl rfl).setOwed _ _).retirementCheck _
    · exact kept
  · exact kept

/-- R148: a CANCEL in turn. -/
theorem judgeCancel (c : ReceivedCode) : HalvesKept s (judgeCancel c t).state := by
  unfold Machine.judgeCancel
  split
  · next r found =>
    obtain ⟨v, live, on, active⟩ := inboundTrain_record found
    split
    · refine retirementCheck ?_ r
      have moved : HalvesKept s
          (setInstrument c.line .blocked (t.updTrain r fun t => t.leavesInbound .none)) :=
        kept.trainInbound live on active rfl rfl rfl
      split
      · exact moved.of_eq (by simp [Machine.retireClearing])
          (by simp [Machine.retireClearing, setInstrument])
      · exact moved
    · exact kept
  · exact kept

theorem judgeMeaning (c : ReceivedCode) : HalvesKept s (judgeMeaning c t).state := by
  unfold Machine.judgeMeaning
  split
  · exact kept.judgeOffer c
  · exact kept.judgeEntering c
  · exact kept.judgeOutOfSection c
  · exact kept.judgeCancel c
  · exact kept
  · exact kept
  · exact kept
  · exact kept.setObstruction _ _
  · exact kept.setObstruction _ _

theorem takeReceivedCode (c : ReceivedCode) : HalvesKept s (takeReceivedCode c t).1 := by
  have judged : HalvesKept s (judgedCode c t).state := by
    unfold judgedCode
    split
    · exact kept
    · exact kept.judgeMeaning c
  have counted : HalvesKept s (countedCode c t) := by
    unfold countedCode
    split
    · exact judged.stepDown _
    · exact judged.stepUp _ _
  obtain ⟨-, trt, blc, -⟩ := takeReceivedCode_counted (c := c) (s := t)
  exact counted.of_eq (by rw [trt]) blc

theorem keepRecognised (x : Line) (groups : List Nat) (heard : Heard) :
    HalvesKept s (keepRecognised x groups heard t) := kept.of_eq (by simp) (by simp)

theorem storeCode (x : Line) (c : StoredCode) : HalvesKept s (storeCode x c t) :=
  kept.of_eq (by simp) (by simp)

/-- R106, R110: the end of a code. -/
theorem endCode (x : Line) (c : Assembly) : HalvesKept s (endCode x c t) := by
  have handed (heard : Heard) (again : Bool) :
      HalvesKept s (codeHanded x c heard again t).1 := by
    have stripped : HalvesKept s (codeStripped x again t) := kept.of_eq rfl rfl
    unfold codeHanded handOver
    split
    · split
      · exact stripped.takeReceivedCode _
      · exact stripped.stepUp _ _
      · exact stripped.stepUp _ _
    · exact stripped
  rw [endCode_eq rfl rfl]
  exact ((handed _ _).keepRecognised x c.groups _).storeCode x _

/-- R116: the completion of a send. -/
theorem completeSend (x : Line) (send : Send) : HalvesKept s (completeSend x send t) := by
  refine kept.of_eq ?_ (by simp)
  unfold Machine.completeSend takeSendCompleted
  dsimp only
  (repeat' split) <;> simp

/-! ### Adoptions of the OUT instrument -/

theorem judgeAdoption (x : Line) (new : Instrument) : HalvesKept s (judgeAdoption x new t) := by
  have withdrawn {u : State} {r : TrainId} (kept : HalvesKept s u)
      (found : u.trt.outboundTrain x = some r) : HalvesKept s (withdrawAcceptance x r u) := by
    obtain ⟨v, live, on, active⟩ := outboundTrain_record found
    exact (kept.trainOutbound live on active (.inl on) rfl rfl).latch _ _
  unfold Machine.judgeAdoption
  dsimp only
  split
  · next r _ found _ =>
    split
    · exact kept
    · obtain ⟨v, live, on, active⟩ := outboundTrain_record found
      exact (kept.trainOutbound live on active (.inl on) rfl rfl).latch _ _
  · split
    · exact kept.stepUp _ _
    · exact kept
  · exact kept.stepUp _ _
  · next found _ => exact withdrawn (kept.stepUp _ _) (by simpa using found)
  · exact kept
  · exact kept.stepUp _ _
  · next found _ => exact withdrawn kept found
  · exact kept

theorem adopt (x : Line) (new : Instrument) : HalvesKept s (adopt x new t) := by
  have rejudged {u : State} (c : Prop) [Decidable c] (kept : HalvesKept s u) :
      HalvesKept s (if c then Machine.rejudge x u else u) := by
    split
    · exact kept.rejudge x
    · exact kept
  have reacted {u : State} (kept : HalvesKept s u) : HalvesKept s
      (if (u.blc.get x).suspended then u else Machine.judgeAdoption x new u) := by
    split
    · exact kept
    · exact kept.judgeAdoption x new
  exact (rejudged _ (reacted (rejudged _ kept))).latch _ _

theorem settle (x : Line) (r : RawReading) : HalvesKept s (settle x r t) := by
  have written := kept.updLine x (f := fun b => { b with settled := r, candidate := none }) rfl rfl
  unfold Machine.settle
  dsimp only
  split
  · have adopted : HalvesKept s (if outStateOf r = (t.blc.get x).outState
        then t.updLine x fun b => { b with settled := r, candidate := none }
        else Machine.adopt x (outStateOf r)
          (t.updLine x fun b => { b with settled := r, candidate := none })) := by
      split
      · exact written
      · exact written.adopt x _
    split
    · exact (adopted.stepUp x 4).latch _ _
    · exact adopted
  · exact written

/-! ### Track events -/

/-- R152: the section entry of the line's outbound train. -/
theorem entryOccupied (x : Line) (c : TrackId) : HalvesKept s (entryOccupied x c t) := by
  unfold Machine.entryOccupied
  split
  · next r found =>
    obtain ⟨v, live, on, active⟩ := outboundTrain_record found
    split
    · have entered := kept.trainOutbound (st := .inSection) (f := fun tr => { tr with
        outbound := .inSection
        stamps := { tr.stamps with enteredOut := some t.tb.clock } }) live on active (.inl on) rfl rfl
      unfold enterSection
      dsimp only
      split
      · exact (entered.of_eq (by simp) (by simp)).latch _ _
      · exact (entered.setOwed _ _).latch _ _
    · exact kept.latch _ _
  · exact kept.latch _ _

/-- R154: what an occupation of the berth does to the inbound half. -/
theorem berthOccupied (x : Line) (c : TrackId) : HalvesKept s (berthOccupied x c t) := by
  unfold Machine.berthOccupied
  split
  · next r found =>
    obtain ⟨v, live, on, active⟩ := inboundTrain_record found
    split
    · exact (kept.trainInbound live on active rfl rfl rfl).latch _ _
    · split
      · exact kept
      · exact (kept.updTrain r (f := fun tr => { tr with berthSeen := true }) (fun _ _ => rfl)
          fun _ _ => rfl).latch _ _
    · exact kept
    all_goals exact kept.latch _ _
  · exact kept.latch _ _

theorem trainOccupation (c : TrackId) : HalvesKept s (trainOccupation c t) := by
  refine forEachLine_keeps (fun x u kept => ?_) t kept
  have entry : HalvesKept s (if (u.cfg.lines.get x).entryCircuit = some c then
      Machine.entryOccupied x c u else u) := by
    split
    · exact kept.entryOccupied x c
    · exact kept
  have berth {w : State} (kept : HalvesKept s w) : HalvesKept s
      (if (w.cfg.lines.get x).berth = some c then Machine.berthOccupied x c w else w) := by
    split
    · exact kept.berthOccupied x c
    · exact kept
  exact berth entry

/-- R155: an arrival leaves the IN instrument at ON_LINE. -/
theorem arriveInbound {x : Line} {r : TrainId} {v : Train} (live : t.trt.records[r] = some v)
    (on : v.arrivalLine = some x) (inSection : v.inbound = .inSection) :
    HalvesKept s (arriveInbound x r t) :=
  (kept.trainInbound_same live on (by rw [inSection]; rfl) rfl rfl
    (by rw [inSection]; rfl)).retireClearing x

theorem trainClearance (c : TrackId) : HalvesKept s (trainClearance c t) := by
  refine forEachLine_keeps (fun x u kept => ?_) t kept
  split
  · unfold berthCleared
    split
    · next r found =>
      obtain ⟨v, live, on, -⟩ := inboundTrain_record found
      split
      · next due => exact (kept.arriveInbound live on
          ((inboundOf_live live).symm.trans due.1)).latch _ _
      · exact kept
    · exact kept
  · exact kept

/-! ### Lapses and cancellations -/

/-- R159: an inbound lapse takes an OFFERED half away. -/
theorem lapseInbound {r : TrainId} {v : Train} (live : t.trt.records[r] = some v)
    (offered : v.inbound = .offered) : HalvesKept s (lapseInbound r t) := by
  unfold Machine.lapseInbound
  rw [live]
  refine (retirementCheck ?_ r).latchChange r
  dsimp only
  split
  · next x on => exact kept.trainInbound live on (by rw [offered]; rfl) rfl rfl rfl
  · next off =>
    refine kept.updTrain r (fun w live' => ?_) fun _ _ => rfl
    cases live.symm.trans live'
    rw [Train.inboundHalf_idle rfl, Train.inboundHalf, off]
    simp

/-- R158, R159: an outbound half dropped. -/
theorem dropOutbound {r : TrainId} {v : Train} (live : t.trt.records[r] = some v)
    (active : v.outbound.active = true) (lapsed : Bool) : HalvesKept s (dropOutbound r lapsed t) := by
  unfold Machine.dropOutbound
  rw [live]
  dsimp only
  have off (none_ : v.outboundHalf = none) : HalvesKept s (t.updTrain r fun t => { t with
      outbound := .none, outLapse := none, destination := .undecided
      lapsed := t.lapsed || lapsed }) := by
    refine kept.updTrain r (fun _ _ => rfl) fun w live' => ?_
    cases live.symm.trans live'
    rw [none_]
    rfl
  split
  · next x on => exact kept.trainOutbound live on active (.inr rfl) rfl rfl
  · next on => exact off (by rw [Train.outboundHalf, on])
  · next on => exact off (by rw [Train.outboundHalf, on])

/-! ### Arrivals -/

/-- R32: the track part of an arrival reaches the halves by its occupation events only. -/
theorem deliverArrival (m : Continuity) : HalvesKept s (deliverArrival m t) := by
  have moved : HalvesKept s (writeLamps (neighbourChecks t (stepCircuits t))) :=
    kept.of_eq (by simp) (by simp)
  have tracked : HalvesKept s (takeTrackPart t) := by
    unfold takeTrackPart occupationEvents
    dsimp only
    split
    · refine forEach_keeps (fun c u kept => ?_) _ moved
      split
      · exact (kept.of_eq (u := routeOccupation c u) (by simp) (by simp)).trainOccupation c
      · exact kept
    · exact moved
  exact tracked.of_eq (by simp [Machine.deliverArrival]) (by simp [Machine.deliverArrival])

/-- R9 to R14: the judgement of a frame. -/
theorem judgeFrame (f : Frame) (sdi : BitVec 192) : HalvesKept s (judgeFrame f sdi t) := by
  have bus {u : State} (kept : HalvesKept s u) (b : ScanBus) : HalvesKept s (u.setSbc b) :=
    kept.of_eq rfl rfl
  unfold Machine.judgeFrame
  split
  · exact bus kept _
  · split
    · have taken := bus kept (t.sbc.takeGood (f.image sdi))
      unfold afterGood
      (repeat' split)
      · exact (bus taken _).deliverArrival _
      · exact taken
      · exact (bus taken _).deliverArrival _
      · exact taken
      · exact taken.deliverArrival _
      · exact taken
    · have taken := bus kept t.sbc.takeBad
      unfold afterBad
      split
      · exact taken.of_eq (by simp) (by simp)
      · exact taken

/-- R32, R155: the pickup expiry reaches the halves by its clearance events only. -/
theorem pickupExpired : HalvesKept s (clearanceEvents t (clearDue t)) := by
  have cleared : HalvesKept s (clearDue t) := kept.of_eq (by simp) (by simp)
  unfold clearanceEvents
  split
  · refine forEach_keeps (fun c u kept => ?_) _ cleared
    split
    · exact (kept.of_eq (u := releasePasses u) (by simp) (by simp)).trainClearance c
    · exact kept
  · exact cleared

end HalvesKept

end Sys2Proof.Machine

/-! The laws of the halves over the owners of the requests and over the events, and with them O54 and
O55. -/

namespace Sys2Proof.Machine

namespace HalvesKept

variable {s t : State} (kept : HalvesKept s t)
include kept

/-! ### The device states -/

/-- R183: ENTER_SERVICE starts the lines with no train. -/
theorem takeEnterService : HalvesKept s (takeEnterService t).1 := by
  unfold Machine.takeEnterService
  (repeat' split)
  case h_2 =>
    refine of_empty (fun r => ?_) (fun x => ?_) fun x => ?_
    · simp [enterService, createBlockHolds, forEachLine, TrainTable.reset]
    · simp [enterService, createBlockHolds, forEachLine, BlockLine.starts]
    · simp [enterService, createBlockHolds, forEachLine, BlockLine.starts]
  all_goals exact kept

omit kept in
/-- R184: RESTART leaves no train, and the lines as at their start. -/
theorem restartPart : HalvesKept s (restartPart t) :=
  of_empty (fun r => by simp [Machine.restartPart, TrainTable.reset])
    (fun x => by simp [Machine.restartPart, BlockLine.starts])
    fun x => by simp [Machine.restartPart, BlockLine.starts]

/-! ### Requests -/

theorem inConfig {take : State → State × Reply} (owner : HalvesKept s (take t).1) :
    HalvesKept s (inConfig take t).1 := by
  unfold Machine.inConfig
  split
  · exact kept
  · exact owner

/-- A request about a record is taken with the record live. -/
theorem withRecord (train : Nat) {k : TrainId → Train → State → State × Reply}
    (owner : ∀ r v, t.trt.records[r] = some v → HalvesKept s (k r v t).1) :
    HalvesKept s (withRecord train k t).1 := by
  unfold Machine.withRecord
  (repeat' split)
  · exact kept
  · exact kept
  · exact kept
  · next live => exact owner _ _ live

/-- R153: an acceptance. -/
theorem takeAccept (n : Nat) (d : Option Description) : HalvesKept s (takeAccept n d t).1 := by
  refine kept.withRecord n fun r v live => ?_
  have grouped {x : Line} (on : v.arrivalLine = some x) (offered : v.inbound = .offered)
      (heard : List Nat) : HalvesKept s (acceptGroup x r d heard t).1 := by
    have group : HalvesKept s (createGroup (clearingGroup x t) (.line x) t).2 :=
      kept.of_eq (by simp) (by simp)
    have records : (createGroup (clearingGroup x t) (.line x) t).2.trt = t.trt := by simp
    unfold acceptGroup
    split <;> rename_i s1 created <;> rw [created] at group records
    · split
      · exact group.retireClearing x
      · have sent : HalvesKept s (takeSend x heard none none s1) := group.of_eq (by simp) (by simp)
        have live' : (takeSend x heard none none s1).trt.records[r] = some v := by
          simpa [show s1.trt = t.trt from records] using live
        exact sent.trainInbound live' on (by rw [offered]; rfl) rfl rfl rfl
    · exact group
    · exact group
  (repeat' split)
  case h_2 => exact grouped ‹_› ‹_› _
  all_goals exact kept

/-- R150: an offer makes an outbound half on a line that has none. -/
theorem offerOn {x : Line} {r : TrainId} {v : Train} (live : t.trt.records[r] = some v)
    (idle : v.outbound = .none) (empty : t.trt.outboundTrain x = none) (c : CodeId) :
    HalvesKept s (offerOn x r c t) := by
  have sent := kept.takeEntrySend x c
  have views : (Machine.takeEntrySend x c t).outboundView = t.outboundView :=
    outboundView_of_eq t (by simp) (by simp)
  have live' : (Machine.takeEntrySend x c t).trt.records[r] = some v := by simpa using live
  have halfless : t.outboundView.half r = none :=
    (outboundView_record live).trans (Train.outboundHalf_idle (by rw [idle]; rfl))
  unfold Machine.offerOn
  dsimp only
  rw [updTrain_live _ r live']
  refine sent.outboundMoves ?_ (.inl rfl) (inboundView_record live').symm rfl
  rw [views]
  exact .inr ⟨halfless, fun q a half =>
    outboundTrain_eq_none.mp empty q (outboundOn_iff_view.mpr ⟨a, half⟩)⟩

theorem takeOffer (n m : Nat) : HalvesKept s (takeOffer n m t).1 := by
  unfold Machine.takeOffer
  split
  · exact kept
  · split
    · exact kept
    · exact kept
    · next r x _ _ =>
      split
      · exact kept
      · next v live =>
        split
        · exact kept
        · split
          · exact kept
          · next open_ =>
            have free : t.trt.outboundTrain x = none ∧ v.outbound = .none := by simpa using open_
            (repeat' split)
            case isFalse => exact kept.offerOn live free.2 free.1 _
            all_goals exact kept

/-- R156: a tail seen from IN_SECTION is an arrival too. -/
theorem takeTailSeen (n : Nat) : HalvesKept s (takeTailSeen n t).1 := by
  refine kept.withRecord n fun r v live => ?_
  split
  · exact kept.updTrain r (f := fun t => { t with tailSeen := true }) (fun _ _ => rfl) fun _ _ => rfl
  · next x inSection on =>
    split
    · exact (kept.arriveInbound live on inSection).updTrain r
        (f := fun t => { t with tailSeen := true, berthSeen := true }) (fun _ _ => rfl) fun _ _ => rfl
    · exact kept
  · exact kept

/-- R157: the section given back. -/
theorem takeOutOfSection (n : Nat) : HalvesKept s (takeOutOfSection n t).1 := by
  refine kept.withRecord n fun r v live => ?_
  split
  · next x arrived _ on =>
    (repeat' split)
    case isFalse =>
      exact ((kept.takeEntrySend x _).trainInbound (v := v) (by simpa using live) on
        (by rw [arrived]; rfl) rfl rfl rfl).retirementCheck r
    all_goals exact kept
  · exact kept

/-- R158: a cancellation. -/
theorem takeCancelOffer (n : Nat) : HalvesKept s (takeCancelOffer n t).1 := by
  refine kept.withRecord n fun r v live => ?_
  split
  · split
    · exact kept
    · next open_ =>
      have active : v.outbound.active = true := by
        rw [Outbound.active_iff]
        tauto
      (repeat' split)
      case isFalse =>
        exact ((kept.takeEntrySend _ _).dropOutbound (v := v) (by simpa using live)
          active false).retirementCheck r
      all_goals exact kept
  · exact kept
  · exact kept

/-- R160: a destination is set with the outbound half NONE. -/
theorem takeSetDestination (n d : Nat) : HalvesKept s (takeSetDestination n d t).1 := by
  unfold Machine.takeSetDestination
  split
  · exact kept
  · split
    · exact kept
    · exact kept
    · next r d _ _ =>
      split
      · exact kept
      · next v live =>
        split
        · exact kept
        · next idle =>
          have halfless : v.outbound.active = false := by simp only [not_not.mp idle, Outbound.active]
          refine (kept.updTrain r (f := fun t => { t with destination := d }) (fun _ _ => rfl)
            fun w live' => ?_).retirementCheck r
          cases live.symm.trans live'
          exact (Train.outboundHalf_idle (t := { v with destination := d }) halfless).trans
            (Train.outboundHalf_idle halfless).symm

/-- R160: a train created by the host has no half. -/
theorem takeCreateTrain (cls : Nat) (d : Option Description) :
    HalvesKept s (takeCreateTrain cls d t).1 := by
  unfold Machine.takeCreateTrain
  (repeat' split)
  · exact kept
  · exact kept
  · exact kept.latch _ _
  · next r found =>
    have free := (freeShared_record.mp found).2.1
    exact kept.updRecord r (inboundView_record free).symm (outboundView_record free).symm

/-- R161: a train is retired with neither half active. -/
theorem takeRetireTrain (n : Nat) : HalvesKept s (takeRetireTrain n t).1 := by
  refine kept.withRecord n fun r v live => ?_
  split
  · exact kept
  · next idle =>
    obtain ⟨inbound, outbound⟩ : v.inbound.active = false ∧ v.outbound.active = false := by
      simpa using idle
    exact kept.updRecord r
      ((inboundView_record live).trans (Train.inboundHalf_idle inbound)).symm
      ((outboundView_record live).trans (Train.outboundHalf_idle outbound)).symm

/-- What the owner of a request does keeps the laws of the halves. -/
theorem handRequest (i : Instr) : HalvesKept s (handRequest i t).1 := by
  cases i
  case enterService => exact kept.takeEnterService
  case restart => exact restartPart
  case accept => exact kept.takeAccept _ _
  case offer => exact kept.takeOffer _ _
  case tailSeen => exact kept.takeTailSeen _
  case outOfSection => exact kept.takeOutOfSection _
  case cancelOffer => exact kept.takeCancelOffer _
  case setDestination => exact kept.takeSetDestination _ _
  case createTrain => exact kept.takeCreateTrain _ _
  case retireTrain => exact kept.takeRetireTrain _
  case loadTiming v => exact kept.inConfig (kept.of_eq rfl rfl)
  case loadSlots | loadLever | loadRoute | loadTrack | loadLine | loadCode =>
    refine kept.inConfig ?_
    dsimp only
    (repeat' split) <;> exact kept.of_eq (by simp) (by simp)
  case restoreLine n =>
    simp only [Machine.handRequest, atOnce, takeRestoreLine]
    (repeat' split)
    case h_2.isTrue =>
      exact kept.updLine _ (f := fun b => { b with quiet := some (t.tb.tickCount + 2000) }) rfl rfl
    all_goals exact kept
  case acknowledge | sendCode | releaseCode =>
    simp only [Machine.handRequest, atOnce, takeAcknowledge, takeSendCode, takeReleaseCode]
    (repeat' split) <;> exact kept.of_eq (by simp) (by simp)
  case readLever | readTrack | readRoute | readHold | listHolds | readLine | readCode | readTrain =>
    simp only [Machine.handRequest, atOnce, takeReadLever, takeReadTrack, takeReadRoute, takeReadHold,
      takeListHolds, takeReadLine, takeReadCode, takeReadTrain]
    (repeat' split) <;> exact kept
  case scanStop =>
    simp only [Machine.handRequest, takeScanStop, stopScan]
    (repeat' split) <;> exact kept.of_eq (by simp) (by simp)
  case loadAttention | scanStart | clearMark | placeBar | removeBar | timedRelease | clearAttention
      | setClock =>
    simp only [Machine.handRequest, atOnce, takeLoadAttention, takeScanStart, takeClearMark,
      takePlaceBar, takeRemoveBar, takeTimedRelease, takeClearAttention, takeSetClock]
    (repeat' split) <;> exact kept.of_eq (by simp) (by simp)
  all_goals exact kept

/-! ### Events -/

/-- R165: a boundary counts the lapse deadlines down, and moves no half. -/
theorem takeBoundary : HalvesKept s (takeBoundary t) := by
  have half {α : Type} (g : Train → Option α) (same : ∀ v : Train, g v.boundary = g v) :
      (fun r : TrainId => (Machine.takeBoundary t).trt.records[r].bind g) =
        fun r : TrainId => t.trt.records[r].bind g := by
    funext r
    simp only [Machine.takeBoundary, Fin.getElem_fin, Vector.getElem_map]
    cases t.trt.records[r.val] with
    | none => rfl
    | some v => exact same v
  refine kept.of_views ?_ ?_
  · exact congrArg (HalfView.mk · t.inboundView.shown) (half Train.inboundHalf fun _ => rfl)
  · exact congrArg (HalfView.mk · t.outboundView.shown) (half Train.outboundHalf fun _ => rfl)

/-- R159: the lapse of a half that is due to lapse. -/
theorem lapseExpiry {r : TrainId} {h : Half} {u : State} (run : execLapseExpiry r h t = .next u) :
    HalvesKept s u := by
  unfold execLapseExpiry at run
  split at run
  · next due =>
    unfold lapseDue at due
    split at due
    · next v live =>
      cases h <;> cases run <;> simp only [Bool.and_eq_true, decide_eq_true_eq] at due
      · exact kept.lapseInbound live due.2
      · exact ((kept.dropOutbound live (by rw [due.2]; rfl) true).retirementCheck r).latchChange r
    · cases due
  · cases run; exact kept

/-- What an event does keeps the laws of the halves. -/
theorem exec_event {i : Instr} {u : State} (event : isEvent i = true) (run : exec i t = .next u) :
    HalvesKept s u := by
  cases i
  case fullReset =>
    cases run
    exact of_empty reset_record (fun x => congrArg BlockLine.inInstrument (reset_line x))
      fun x => congrArg BlockLine.standing (reset_line x)
  case tick a b c =>
    cases run
    exact (((kept.of_eq (u := { t with tb := t.tb.tick }) rfl rfl).sampleLine .a a).sampleLine
      .b b).sampleLine .c c
  case tenthBoundary =>
    change execTenthBoundary t = _ at run
    unfold execTenthBoundary at run
    split at run <;> cases run
    · exact kept.takeBoundary
    · exact kept
  case pickupExpiry => cases run; exact kept.pickupExpired
  case frameJudge sdi =>
    change execFrameJudge sdi t = _ at run
    unfold execFrameJudge at run
    split at run <;> cases run
    · exact kept.judgeFrame _ _
    · exact kept
  case codeEnd x =>
    change execCodeEnd x t = _ at run
    unfold execCodeEnd at run
    split at run <;> cases run
    · exact kept.endCode _ _
    · exact kept
  case sendCompletion x =>
    change execSendCompletion x t = _ at run
    unfold execSendCompletion at run
    split at run <;> cases run
    · exact kept.completeSend _ _
    · exact kept
  case instrumentSettling x =>
    change execInstrumentSettling x t = _ at run
    unfold execInstrumentSettling at run
    split at run <;> cases run
    · exact kept.settle _ _
    · exact kept
  case blankingEnd x level =>
    change execBlankingEnd x level t = _ at run
    unfold execBlankingEnd at run
    split at run <;> cases run
    · exact (kept.of_eq (u := t.updBell x fun b => { b with blankUntil := none }) rfl
        rfl).sampleBell x level
    · exact kept
  case repetitionDeadlineExpiry x =>
    change execRepetitionDeadlineExpiry x t = _ at run
    unfold execRepetitionDeadlineExpiry at run
    split at run <;> cases run
    · exact kept.of_eq (by simp) (by simp)
    · exact kept
  case quietWaitEnd x =>
    change execQuietWaitEnd x t = _ at run
    unfold execQuietWaitEnd at run
    split at run <;> cases run
    · exact ((kept.updLine x (f := fun b => { b with count := 0, quiet := none }) rfl
        rfl).latch _ _).rejudge x
    · exact kept
  case lapseExpiry r h => exact kept.lapseExpiry run
  case strokeTimeout | approachExpiry | emergencyExpiry =>
    simp only [exec, execStrokeTimeout, execApproachExpiry, execEmergencyExpiry] at run
    split at run <;> cases run
    · exact kept.of_eq (by simp) (by simp)
    · exact kept
  case frameOpen | closingFrame | closingSync =>
    simp only [exec, execFrameOpen, execClosingFrame, execClosingSync] at run
    split at run <;> cases run
    · exact kept.of_eq rfl rfl
    · exact kept
  all_goals cases event

end HalvesKept

/-- Every step keeps the laws of the halves. -/
theorem step_halvesKept {s t : State} (run : step s = .next t) : HalvesKept s t :=
  step_keeps (P := HalvesKept s) (fun _ _ _ _ kept => kept.of_eq rfl rfl)
    (fun i _ kept => kept.handRequest i) (fun _ _ _ event kept run => kept.exec_event event run)
    (.refl s) run

/-- Settles O54: every owner's rule and every event moves an inbound half with its IN instrument. -/
theorem stepKeepsTheInstrumentLaw : Obligations.StepKeepsTheInstrumentLaw :=
  fun _ _ law run => (step_halvesKept run).instrumentLaw law

/-- Settles O55: every owner's rule and every event moves an outbound half with its standing. -/
theorem stepKeepsTheStandingLaw : Obligations.StepKeepsTheStandingLaw :=
  fun _ _ law run => (step_halvesKept run).standingLaw law

end Sys2Proof.Machine

/-! The instrument wire: what a tick's sample of INSTR_IN does to the settled reading and the candidate. -/

namespace Sys2Proof.Machine

/-! ### A sample of INSTR_IN -/

/-- R127: the raw reading of the two detector bits, bit by bit. -/
theorem rawReadingOf_eq (p n : Bool) : rawReadingOf p n =
    if p then (if n then .both else .positive) else (if n then .negative else .none) := by
  cases p <;> cases n <;> rfl

section
variable {b : BlockLine} {r : RawReading}

/-- R127: a sample equal to the settled reading ends the candidate. -/
theorem BlockLine.sample_steady (same : r = b.settled) :
    b.sample r = { b with candidate := none } := if_pos same

/-- R127: a sample equal to the candidate makes its run longer, up to 40. -/
theorem BlockLine.sample_again {n : Nat} (other : r ≠ b.settled)
    (candidate : b.candidate = some (r, n)) :
    b.sample r = { b with candidate := some (r, min 40 (n + 1)) } := by
  rw [BlockLine.sample, if_neg other, candidate]
  exact if_pos rfl

/-- R127: any other sample is a new candidate with a run of 1. -/
theorem BlockLine.sample_fresh (other : r ≠ b.settled) (fresh : ∀ n, b.candidate ≠ some (r, n)) :
    b.sample r = { b with candidate := some (r, 1) } := by
  rw [BlockLine.sample, if_neg other]
  split
  · next c n candidate => exact if_neg fun e => fresh n (by rw [candidate, e])
  · rfl

theorem BlockLine.sample_settled (b : BlockLine) (r : RawReading) : (b.sample r).settled = b.settled := by
  unfold BlockLine.sample
  (repeat' split) <;> rfl

end

/-! ### The tick -/

/-- R127, R133: the inputs of a line sampled: INSTR_IN is read after a rising edge may have moved the end
of the quiet wait, which the reading does not look at. -/
theorem sampleLine_instrument (x : Line) (inputs : LineInputs) (s : State) :
    ∃ b : BlockLine, b.settled = (s.blc.get x).settled ∧ b.candidate = (s.blc.get x).candidate ∧
      (sampleLine x inputs s).blc.get x = b.sample (rawReadingOf inputs.instrP inputs.instrN) := by
  unfold sampleLine
  dsimp only
  rw [State.updLine_blc, PerLine.get_set_self]
  split
  · exact ⟨_, rfl, rfl, rfl⟩
  · rw [sampleBell_blc]
    split
    · next edge _ =>
      rw [PerLine.get_set_self]
      exact ⟨(s.blc.get x).risingEdge edge, rfl, rfl, rfl⟩
    · exact ⟨_, rfl, rfl, rfl⟩

/-- R127: each line takes one sample of its INSTR_IN at a tick. -/
theorem takeTick_instrument (a b c : LineInputs) (s : State) (x : Line) :
    ∃ old : BlockLine, old.settled = (s.blc.get x).settled ∧
      old.candidate = (s.blc.get x).candidate ∧ (takeTick a b c s).blc.get x = old.sample
        (rawReadingOf ((PerLine.mk a b c).get x).instrP ((PerLine.mk a b c).get x).instrN) := by
  have first := sampleLine_instrument .a a { s with tb := s.tb.tick }
  have second := sampleLine_instrument .b b (sampleLine .a a { s with tb := s.tb.tick })
  have third := sampleLine_instrument .c c
    (sampleLine .b b (sampleLine .a a { s with tb := s.tb.tick }))
  simp only [ne_eq, reduceCtorEq, not_false_eq_true, sampleLine_other] at second third
  cases x <;> simp only [takeTick, ne_eq, reduceCtorEq, not_false_eq_true, sampleLine_other]
  · exact first
  · exact second
  · exact third

/-- Settles O7: the three things a sample of INSTR_IN can be to the settled reading and the candidate. -/
theorem tickSamplesTheInstrumentWire : Obligations.TickSamplesTheInstrumentWire := by
  intro s a b c x
  refine ⟨_, rfl, ?_⟩
  dsimp only
  obtain ⟨old, settled, run, line⟩ := takeTick_instrument a b c s x
  rw [line, ← rawReadingOf_eq, ← settled, ← run]
  refine ⟨BlockLine.sample_settled _ _, fun same => ?_, fun n other candidate below => ?_,
    fun other fresh => ?_⟩
  · rw [BlockLine.sample_steady same]
  · rw [BlockLine.sample_again other candidate, Nat.min_eq_right below]
  · rw [BlockLine.sample_fresh other fresh]

end Sys2Proof.Machine

/-! READ_LINE: the line record byte by byte. -/

namespace Sys2Proof.Machine

/-! ### The fields of a line record -/

theorem instrumentNo_byte (i : Instrument) : bytesOne (instrumentNo i) =
    [match i with | .blocked => 0 | .clear => 1 | .onLine => 2] := by
  cases i <;> rfl

theorem rawReadingNo_byte (r : RawReading) : bytesOne (rawReadingNo r) =
    [match r with | .none => 0 | .positive => 1 | .negative => 2 | .both => 3] := by
  cases r <;> rfl

/-- R127: the OUT instrument state, from the settled reading. -/
theorem outState_byte (b : BlockLine) : bytesOne (instrumentNo b.outState) =
    [match b.settled with | .none => 0 | .positive => 1 | .negative => 2 | .both => 0] := by
  unfold BlockLine.outState
  cases b.settled <;> rfl

/-- R193: the candidate and its run, 255 and 0 where there is none. -/
theorem candidateData_bytes (candidate : Option (RawReading × Nat)) : candidateData candidate =
    [match candidate with
      | none => 255
      | some (r, _) =>
        (match r with | .none => 0 | .positive => 1 | .negative => 2 | .both => 3),
    match candidate with
      | none => 0
      | some (_, n) => BitVec.ofNat 8 (min 39 n)] := by
  cases candidate with
  | none => rfl
  | some run =>
    obtain ⟨r, n⟩ := run
    cases r <;> rfl

/-- R131: the health, from the count. -/
theorem health_byte (b : BlockLine) : bytesOne (healthNo b.health) =
    [if b.count < 96 then 0 else if b.count < 255 then 1 else 2] := by
  unfold BlockLine.health healthOf
  (repeat' split) <;> rfl

theorem standingNo_byte (st : Standing) : bytesOne (standingNo st) =
    [match st with | .none => 0 | .offered => 1 | .accepted => 2 | .inSection => 3] := by
  cases st <;> rfl

/-- R187: a one-byte number whose range starts at 1, 0 where it is absent. -/
theorem leverOrZero_byte (v : Option LeverId) : orZero (v.map levNo) =
    [match v with | some l => BitVec.ofNat 8 (l.val + 1) | none => 0] := by
  cases v <;> rfl

theorem trackOrZero_byte (v : Option TrackId) : orZero (v.map trkNo) =
    [match v with | some c => BitVec.ofNat 8 (c.val + 1) | none => 0] := by
  cases v <;> rfl

section
variable (s : State) (x : Line)

/-- R138: the ticks of a quiet wait still to run, 0 once it has come to its end. -/
theorem quietRemaining_eq : s.quietRemaining x = match (s.blc.get x).quiet with
    | none => 0
    | some t => if (s.tb.tickCount - t).toNat < 2 ^ 31 then 0 else (t - s.tb.tickCount).toNat := by
  unfold State.quietRemaining ticksTo reached
  cases (s.blc.get x).quiet with
  | none => rfl
  | some t => simp

/-- R193: the block hold: its number and, where there is one, its stamp. -/
theorem blockHoldData_bytes : ∃ heldAt : List Byte, heldAt.length = 3 ∧
    (∀ hold, s.ht[blockEntry x] = some hold → heldAt = bytesThree hold.created.toNat) ∧
    s.blockHoldData x = (if s.ht[blockEntry x] = none then 255
      else match x with | .a => 64 | .b => 65 | .c => 66) :: heldAt := by
  unfold State.blockHoldData
  cases s.ht[blockEntry x] with
  | none => exact ⟨_, fill_length s 13 3, nofun, rfl⟩
  | some hold =>
    refine ⟨bytesThree hold.created.toNat, rfl, fun _ e => by cases e; rfl, ?_⟩
    cases x <;> rfl

/-- R193: the expected repetition: its deadline and its pattern in a field of six groups. -/
theorem repetitionData_bytes : ∃ rest : List Byte,
    rest.length = 6 - (((s.bu.get x).expected.map fun e => e.groups).getD []).length ∧
    s.repetitionData x = bytesTwo (((s.bu.get x).expected.map fun e => e.deadline).getD 0) ++
      (BitVec.ofNat 8 (((s.bu.get x).expected.map fun e => e.groups).getD []).length ::
        ((((s.bu.get x).expected.map fun e => e.groups).getD []).map (BitVec.ofNat 8) ++ rest)) := by
  have pattern (groups : List Nat) : s.patternBytes 21 groups =
      BitVec.ofNat 8 groups.length :: (groups.map (BitVec.ofNat 8) ++
        s.fill (21 + 1 + groups.length) (6 - groups.length)) := by
    rw [State.patternBytes, ← patternList, patternList_bytes, List.cons_append]
  unfold State.repetitionData
  cases (s.bu.get x).expected with
  | none => exact ⟨_, fill_length s _ _, by rw [pattern]; rfl⟩
  | some e =>
    refine ⟨s.fill (21 + 1 + e.groups.length) (6 - e.groups.length), fill_length s _ _, ?_⟩
    dsimp only
    rw [pattern e.groups]
    rfl

end

/-- R187: the conditions of a line as a list. -/
theorem conditions_bytes (cs : List Condition) : listBytes conditionBytes cs =
    BitVec.ofNat 8 cs.length :: cs.flatMap fun c => match c with
      | .leverAt l .normal => ([0, BitVec.ofNat 8 (l.val + 1)] : List Byte)
      | .leverAt l .reverse => [1, BitVec.ofNat 8 (l.val + 1)]
      | .trackClear t => [2, BitVec.ofNat 8 (t.val + 1)] := by
  have each : conditionBytes = fun c => match c with
      | .leverAt l .normal => ([0, BitVec.ofNat 8 (l.val + 1)] : List Byte)
      | .leverAt l .reverse => [1, BitVec.ofNat 8 (l.val + 1)]
      | .trackClear t => [2, BitVec.ofNat 8 (t.val + 1)] := by
    funext c
    cases c with
    | leverAt l p => cases p <;> rfl
    | trackClear t => rfl
  rw [listBytes, each]
  rfl

/-- R187: the clearing holds of a line as a list. -/
theorem clearing_bytes (es : List (LeverId × EndPos)) :
    listBytes (fun e : LeverId × EndPos => bytesOne (levNo e.1) ++ bytesOne (endPosNo e.2)) es =
      BitVec.ofNat 8 es.length :: es.flatMap fun e =>
        ([BitVec.ofNat 8 (e.1.val + 1),
          match e.2 with | .normal => 0 | .reverse => 1] : List Byte) := by
  have each : (fun e : LeverId × EndPos => bytesOne (levNo e.1) ++ bytesOne (endPosNo e.2)) =
      fun e => ([BitVec.ofNat 8 (e.1.val + 1),
        match e.2 with | .normal => 0 | .reverse => 1] : List Byte) := by
    funext ⟨l, p⟩
    cases p <;> rfl
  rw [listBytes, each]
  rfl

section
variable {s : State} {x : Line} (law : HalvesLaw s)
include law

/-- R144: the byte of a line's inbound train, 0 where there is none. -/
theorem inboundTrain_byte {inbound : Byte}
    (named : (∃ r, inboundOn s r x ∧ inbound = BitVec.ofNat 8 (r.val + 1)) ∨
      ((∀ r, ¬inboundOn s r x) ∧ inbound = 0)) :
    orZero ((s.trt.inboundTrain x).map trainNo) = [inbound] := by
  rcases named with ⟨r, on, rfl⟩ | ⟨none_, rfl⟩
  · rw [(inboundTrain_eq_some law).mpr on]; rfl
  · rw [inboundTrain_eq_none.mpr none_]; rfl

/-- R144: the byte of a line's outbound train, 0 where there is none. -/
theorem outboundTrain_byte {outbound : Byte}
    (named : (∃ r, outboundOn s r x ∧ outbound = BitVec.ofNat 8 (r.val + 1)) ∨
      ((∀ r, ¬outboundOn s r x) ∧ outbound = 0)) :
    orZero ((s.trt.outboundTrain x).map trainNo) = [outbound] := by
  rcases named with ⟨r, on, rfl⟩ | ⟨none_, rfl⟩
  · rw [(outboundTrain_eq_some law).mpr on]; rfl
  · rw [outboundTrain_eq_none.mpr none_]; rfl

end

/-! ### READ_LINE -/

/-- R138: READ_LINE answers the line record of a line. -/
theorem takeReadLine_line (s : State) (x : Line) :
    takeReadLine (lineNo x) s = (s, .done (s.lineData x)) := by
  rw [takeReadLine, lineOf_inverse.eq x]

/-- Settles O29: the line record field by field. -/
theorem readLineFollowsItsLayout : Obligations.ReadLineFollowsItsLayout := by
  intro s x inbound outbound free law inboundNamed outboundNamed
  obtain ⟨heldAt, heldLength, heldStamp, held⟩ := blockHoldData_bytes s x
  obtain ⟨rest, restLength, repetition⟩ := repetitionData_bytes s x
  refine ⟨heldAt, _, heldLength, heldStamp, ⟨rest, rfl, restLength⟩, ?_⟩
  have data := serve_eq (n := 38) free (takeReadLine_line s x)
  rw [State.lineData, LineConfig.data, State.lineFlags, held, repetition,
    inboundTrain_byte law inboundNamed, outboundTrain_byte law outboundNamed, bitsByte_eight,
    quietRemaining_eq, conditions_bytes, clearing_bytes, outState_byte, candidateData_bytes] at data
  simp only [instrumentNo_byte, rawReadingNo_byte, health_byte, standingNo_byte, leverOrZero_byte,
    trackOrZero_byte] at data
  simp only [List.append_assoc, List.cons_append, List.nil_append] at data ⊢
  exact data

end Sys2Proof.Machine

/-! RESTORE_LINE and the quiet wait: a SUSPENDED line brought back. -/

namespace Sys2Proof.Machine

/-! ### The block hold after a re-judgement -/

section
variable {s : State} {x : Line}

/-- R136: outside SERVICE nothing is re-judged. -/
theorem rejudge_config (config : s.device = .config) : rejudge x s = s :=
  if_neg (by simp [config])

/-- R136: the block condition met retires the block hold. -/
theorem rejudge_retires (service : s.device = .service)
    (free : (s.blc.get x).blockCondition = true) : (rejudge x s).ht[blockEntry x] = none := by
  rw [rejudge_entry, if_pos service, if_pos free]

/-- R136: the block condition failed ensures the block hold. -/
theorem rejudge_ensures (service : s.device = .service)
    (blocked : ¬(s.blc.get x).blockCondition = true) {l : LeverId}
    (starter : (s.cfg.lines.get x).starter = some l) :
    (rejudge x s).ht[blockEntry x] = match s.ht[blockEntry x] with
      | none => some ⟨.block x, l, .normal, s.tb.clock⟩
      | some hold => some hold := by
  rw [rejudge_entry, if_pos service, if_neg blocked]
  exact ensureBlock_of_starter starter

end

/-- A latch seen in the attention records is seen in every state with the same records. -/
theorem Latched.of_au {src : Source} {d : Detail} {s t u : State} (latched : Latched src d s t)
    (same : u.au = t.au) : Latched src d s u := by
  obtain ⟨pending, detail, multiple, settings, others⟩ := latched
  rw [← same] at pending detail multiple settings others
  exact ⟨pending, detail, multiple, settings, others⟩

/-! ### RESTORE_LINE -/

section
variable {s : State} {x : Line}

theorem takeRestoreLine_config (config : s.device = .config) (n : Nat) :
    takeRestoreLine n s = (s, .state) := if_pos config

variable (service : s.device = .service)
include service

theorem takeRestoreLine_noLine {n : Nat} (above : 3 ≤ n) :
    takeRestoreLine n s = (s, .badArgument 1) := by
  rw [takeRestoreLine, if_neg (by simp [service]), lineOf_eq_none (by omega)]

/-- R132: RESTORE_LINE of a line that is not SUSPENDED. -/
theorem takeRestoreLine_open (below : (s.blc.get x).count < 255) :
    takeRestoreLine (lineNo x) s = (s, .state) := by
  rw [takeRestoreLine, if_neg (by simp [service]), lineOf_inverse.eq x]
  exact if_neg (not_suspended below)

/-- R132: RESTORE_LINE of a SUSPENDED line starts its quiet wait. -/
theorem takeRestoreLine_suspended (shut : 255 ≤ (s.blc.get x).count) :
    takeRestoreLine (lineNo x) s =
      (s.updLine x fun b => { b with quiet := some (s.tb.tickCount + 2000) },
        .done (bytesTwo 2000)) := by
  rw [takeRestoreLine, if_neg (by simp [service]), lineOf_inverse.eq x]
  exact if_pos (suspended_iff.mpr shut)

end

/-! ### The end of the quiet wait -/

/-- R133: the line restored and its health latched, its block hold not yet re-judged. -/
def restored (x : Line) (s : State) : State :=
  latch (.line x) (.lineCause .health) (s.updLine x fun b => { b with count := 0, quiet := none })

section
variable {s : State} {x : Line}

theorem execQuietWaitEnd_due {due : BitVec 32} (waits : (s.blc.get x).quiet = some due)
    (reached_ : reached s.tb.tickCount due = true) :
    execQuietWaitEnd x s = .next (rejudge x (restored x s)) := by
  refine if_pos ?_
  rw [quietWaitDue, waits]
  exact reached_

@[simp] theorem restored_frame (x : Line) (s : State) :
    (restored x s).pending = s.pending ∧ (restored x s).draws = s.draws ∧
    (restored x s).cp = s.cp ∧ (restored x s).device = s.device ∧
    (restored x s).cfg = s.cfg ∧ (restored x s).sbc = s.sbc ∧
    (restored x s).boards = s.boards ∧ (restored x s).tcm = s.tcm ∧
    (restored x s).llu = s.llu ∧ (restored x s).ht = s.ht ∧ (restored x s).ru = s.ru ∧
    (restored x s).bu = s.bu ∧ (restored x s).trt = s.trt ∧ (restored x s).tb = s.tb ∧
    (restored x s).blc = s.blc.set x { s.blc.get x with count := 0, quiet := none } := by
  simp [restored]

/-- R136: the block condition of the restored line, whose count is 0. -/
theorem restored_blockCondition : ((restored x s).blc.get x).blockCondition = true ↔
    outStateOf (s.blc.get x).settled = .clear ∧ (s.blc.get x).obstruction = false ∧
      (s.blc.get x).standing = .accepted := by
  simp [blockCondition_iff, BlockLine.outState]

end

/-- Settles O38: RESTORE_LINE by device state, line and count, then the end of the wait. -/
theorem quietWaitRestoresASuspendedLine : Obligations.QuietWaitRestoresASuspendedLine := by
  refine fun s => ⟨fun free => ⟨fun n config => serve_eq free (takeRestoreLine_config config n),
    fun n service above => serve_eq free (takeRestoreLine_noLine service above),
    fun x service below => serve_eq free (takeRestoreLine_open service below),
    fun x service shut => serve_eq free (takeRestoreLine_suspended service shut)⟩, ?_⟩
  intro x due waits reached_
  have device : (restored x s).device = s.device := by simp
  refine ⟨_, execQuietWaitEnd_due waits reached_, ?_, ?_, ⟨?_, ?_, ?_, ?_⟩, ?_⟩
  · simp
  · exact (latch_latched_of rfl).of_au (by simp only [rejudge_frame]; rfl)
  · exact fun service free => rejudge_retires (device.trans service) (restored_blockCondition.mpr free)
  · intro blocked l service starter
    have ensured := rejudge_ensures (device.trans service) (mt restored_blockCondition.mp blocked)
      (l := l) (by simpa using starter)
    simp only [restored_frame] at ensured
    exact ensured
  · intro config
    rw [rejudge_config (device.trans config)]
    simp
  · intro h ne
    rw [rejudge_other ne]
    simp
  · simp

end Sys2Proof.Machine

/-! CANCEL_OFFER: the cancellation sent and the outbound half withdrawn. -/

namespace Sys2Proof.Machine

/-- R158: a record with its outbound half withdrawn. -/
def Train.withdrawnOut (t : Train) : Train :=
  { t with outbound := .none, outLapse := none, destination := .undecided }

/-- R161: a record with its outbound half withdrawn retires if it came from a line and its inbound half
is NONE. -/
theorem retires_withdrawnOut {v : Train} :
    v.withdrawnOut.retires = true ↔ v.inbound = .none ∧ v.arrivalLine ≠ none := by
  cases inbound : v.inbound <;>
    simp [Train.retires, Train.withdrawnOut, inbound, Inbound.active, Outbound.active,
      Option.isSome_iff_ne_none]

section
variable {s : State} {x : Line} {r : TrainId} {v : Train}

/-- R158: the cancellation taken: the send, the half withdrawn and the retirement check. -/
def cancelOn (r : TrainId) (c : CodeId) (x : Line) (s : State) : State :=
  retirementCheck r (dropOutbound r false (takeEntrySend x c s))

/-- R158: a half withdrawn from a line gives its standing back. -/
theorem dropOutbound_line (live : s.trt.records[r] = some v) (on : v.destination = .line x) :
    dropOutbound r false s = setStanding x .none (s.updTrain r Train.withdrawnOut) := by
  have noLapse : Train.withdrawnOut = fun t : Train => { t with
      outbound := .none, outLapse := none, destination := .undecided, lapsed := t.lapsed || false } := by
    funext t
    simp only [Train.withdrawnOut, Bool.or_false]
  rw [dropOutbound, live, noLapse]
  dsimp only
  rw [on]

/-- R158, R161: what the cancellation taken does to the sender, the records, the line and its block
hold. -/
theorem cancelOn_whole {c : CodeId} {e : CodeEntry} (service : s.device = .service)
    (live : s.trt.records[r] = some v) (on : v.destination = .line x)
    (loaded : s.cfg.codes[c] = some e) :
    SendTaken x e.counts (some c) (some e.meaning) s (cancelOn r c x s) ∧
    (v.withdrawnOut.retires = true → (cancelOn r c x s).trt.records[r] = none) ∧
    (¬v.withdrawnOut.retires = true → (cancelOn r c x s).trt.records[r] = some v.withdrawnOut) ∧
    (∀ q : TrainId, q ≠ r → (cancelOn r c x s).trt.records[q] = s.trt.records[q]) ∧
    (cancelOn r c x s).trt.owed = s.trt.owed ∧
    (cancelOn r c x s).blc = s.blc.set x { s.blc.get x with standing := .none } ∧
    (∀ l, (s.cfg.lines.get x).starter = some l → (cancelOn r c x s).ht[blockEntry x] =
      match s.ht[blockEntry x] with
        | none => some ⟨.block x, l, .normal, s.tb.clock⟩
        | some hold => some hold) ∧
    (∀ h : HoldId, h ≠ blockEntry x → (cancelOn r c x s).ht[h] = s.ht[h]) := by
  have whole : cancelOn r c x s = retirementCheck r
      (setStanding x .none ((takeEntrySend x c s).updTrain r Train.withdrawnOut)) := by
    rw [cancelOn, dropOutbound_line (v := v) (by simpa only [takeEntrySend_frame] using live) on]
  have trt : (setStanding x .none ((takeEntrySend x c s).updTrain r Train.withdrawnOut)).trt =
      (s.updTrain r Train.withdrawnOut).trt := by
    simp only [setStanding_frame, State.updTrain_trt, takeEntrySend_frame]
  obtain ⟨gone, stays⟩ := retirementCheck_record (w := v.withdrawnOut)
    (by rw [trt]; exact updTrain_record live _)
  have holds := setStanding_ensures (x := x) (st := .none) nofun
    (s := (takeEntrySend x c s).updTrain r Train.withdrawnOut)
    (by simp only [State.updTrain_device, takeEntrySend_frame, service])
  simp only [State.updTrain_cfg, State.updTrain_ht, State.updTrain_tb, takeEntrySend_frame] at holds
  rw [whole]
  refine ⟨?_, gone, stays, fun q other => ?_, ?_, ?_, ?_⟩
  · refine (takeSend_taken x e.counts (some c) (some e.meaning) s).of_eq rfl rfl rfl rfl ?_ ?_ <;>
      simp only [retirementCheck_frame, setStanding_frame, State.updTrain_bu, State.updTrain_au,
        takeEntrySend_loaded loaded]
  · rw [retirementCheck_other other, trt]
    exact updTrain_other other _
  · simp only [retirementCheck_frame, trt]
    rfl
  · simp only [retirementCheck_frame, setStanding, rejudge_frame, State.updLine_blc,
      State.updTrain_blc, takeEntrySend_frame]
  · simp only [retirementCheck_frame]
    exact holds

/-- R158: the cancellation leaves everything else as it was. -/
theorem cancelOn_rest {c : CodeId} : { cancelOn r c x s with
    bu := s.bu, au := s.au, trt := s.trt, blc := s.blc, ht := s.ht } = s := by
  simp only [cancelOn, retirementCheck_frame, dropOutbound_frame, takeEntrySend_frame]

/-! ### The tests of CANCEL_OFFER -/

variable (service : s.device = .service) (live : s.trt.records[r] = some v)
include service live

/-- R158: CANCEL_OFFER of a record whose outbound half is neither OFFERED nor ACCEPTED. -/
theorem takeCancelOffer_idle (notOffered : v.outbound ≠ .offered)
    (notAccepted : v.outbound ≠ .accepted) : takeCancelOffer (r.val + 1) s = (s, .state) := by
  rw [takeCancelOffer, withRecord_live service live]
  split
  · exact if_pos ⟨notOffered, notAccepted⟩
  · rfl
  · rfl

/-- R158 orders 4 and 5: CANCEL_OFFER of an OFFERED or ACCEPTED half, by the entry found to send. -/
theorem takeCancelOffer_offered (on : v.destination = .line x)
    (offered : v.outbound = .offered ∨ v.outbound = .accepted) : takeCancelOffer (r.val + 1) s =
      if (s.blc.get x).suspended then (s, .state)
      else match entryToSend s.cfg.codes .cancel none with
        | none => (s, .badArgument 1)
        | some c =>
          if (s.bu.get x).sender.isSome then (s, .busy) else (cancelOn r c x s, .ok) := by
  rw [takeCancelOffer, withRecord_live service live]
  rw [on]
  exact if_neg fun idle => offered.elim idle.1 idle.2

end

/-- Settles O42: the refusals of CANCEL_OFFER in their order, then the cancellation taken. -/
theorem cancelOfferWithdrawsTheOutboundHalf : Obligations.CancelOfferWithdrawsTheOutboundHalf := by
  intro s free
  refine ⟨fun n config => serve_eq free (withRecord_config config n), fun service =>
    ⟨fun n out => serve_eq free (withRecord_range service out),
      fun r empty => serve_eq free (withRecord_free service empty),
      fun r v live notOffered notAccepted =>
        serve_eq free (takeCancelOffer_idle service live notOffered notAccepted), ?_⟩⟩
  intro r v x live on offered answer
  have taken := takeCancelOffer_offered service live on offered
  refine ⟨fun shut => serve_eq free (taken.trans (if_pos (suspended_iff.mpr shut))),
    fun c e below entry => ?_⟩
  rw [if_neg (not_suspended below), entryToSend_eq_some.mpr ⟨e, entry⟩] at taken
  refine ⟨fun sending => serve_eq free (taken.trans (if_pos (sending_isSome sending))), fun idle => ?_⟩
  obtain ⟨loaded, -, meaning, -⟩ := entry
  obtain ⟨sent, gone, stays, others, owed, blc, block, holds⟩ := cancelOn_whole service live on loaded
  rw [meaning] at sent
  rw [retires_withdrawnOut] at gone stays
  exact ⟨_, serve_eq free (taken.trans (if_neg (by simp [idle]))), sent.of_eq rfl rfl rfl rfl rfl rfl,
    gone, stays, others, owed, blc, block, holds,
    congrArg (fun u : State => u.holding (replyBytes 0 61 [])) cancelOn_rest⟩

end Sys2Proof.Machine

/-! OUT_OF_SECTION: its tests in order, its code sent and the section given back. -/

namespace Sys2Proof.Machine

/-- R157: a record whose train has given its section back. -/
def Train.sectionGiven (t : Train) : Train := { t with inbound := .cleared }

/-- R161: a record whose inbound half is CLEARED retires if its outbound half is CLEARED, or NONE and bound
for the local box. -/
theorem retires_sectionGiven {v : Train} : v.sectionGiven.retires = true ↔
    v.outbound = .cleared ∨ (v.outbound = .none ∧ v.destination = .localBox) := by
  cases outbound : v.outbound <;>
    simp [Train.retires, Train.sectionGiven, outbound, Inbound.active, Outbound.active]

section
variable {s : State} {x : Line} {r : TrainId} {v : Train}

/-- R157, R161: what the section given back does to the sender, the records and the line. -/
theorem giveBackSection_whole {c : CodeId} {e : CodeEntry} (live : s.trt.records[r] = some v)
    (loaded : s.cfg.codes[c] = some e) :
    SendTaken x e.counts (some c) (some e.meaning) s (giveBackSection x r c s) ∧
    (v.sectionGiven.retires = true → (giveBackSection x r c s).trt.records[r] = none) ∧
    (¬v.sectionGiven.retires = true →
      (giveBackSection x r c s).trt.records[r] = some v.sectionGiven) ∧
    (∀ q : TrainId, q ≠ r → (giveBackSection x r c s).trt.records[q] = s.trt.records[q]) ∧
    (giveBackSection x r c s).trt.owed = s.trt.owed ∧
    (giveBackSection x r c s).blc = s.blc.set x { s.blc.get x with inInstrument := .blocked } := by
  have whole : giveBackSection x r c s = retirementCheck r
      (setInstrument x .blocked ((takeEntrySend x c s).updTrain r Train.sectionGiven)) := rfl
  have trt : (setInstrument x .blocked
      ((takeEntrySend x c s).updTrain r Train.sectionGiven)).trt =
      (s.updTrain r Train.sectionGiven).trt := by
    simp only [setInstrument_frame, State.updTrain_trt, takeEntrySend_frame]
  obtain ⟨gone, stays⟩ := retirementCheck_record (w := v.sectionGiven)
    (by rw [trt]; exact updTrain_record live _)
  rw [whole]
  refine ⟨?_, gone, stays, fun q other => ?_, ?_, ?_⟩
  · refine (takeSend_taken x e.counts (some c) (some e.meaning) s).of_eq rfl rfl rfl rfl ?_ ?_ <;>
      simp only [retirementCheck_frame, setInstrument_frame, State.updTrain_bu, State.updTrain_au,
        takeEntrySend_loaded loaded]
  · rw [retirementCheck_other other, trt]
    exact updTrain_other other _
  · simp only [retirementCheck_frame, trt]
    rfl
  · simp only [retirementCheck_frame, setInstrument, State.updLine_blc, State.updTrain_blc,
      takeEntrySend_frame]

/-- R157: the section given back leaves everything else as it was. -/
theorem giveBackSection_rest {c : CodeId} : { giveBackSection x r c s with
    bu := s.bu, au := s.au, trt := s.trt, blc := s.blc } = s := by
  simp only [giveBackSection_frame]

/-- R161: the byte that tells whether a record is free. -/
theorem recordFree_byte (t : State) (r : TrainId) :
    bytesOne (flagNo (t.recordFree r)) = [if t.trt.records[r] = none then 1 else 0] := by
  unfold State.recordFree
  cases t.trt.records[r] <;> rfl

/-! ### The tests of OUT_OF_SECTION -/

/-- R157 orders 6 and 7: the home lever stands NORMAL and the berth is CLEAR. -/
def SectionClear (s : State) (l : LeverId) (b : TrackId) : Prop :=
  s.cfg.levers[l].configured = true ∧ s.llu[l].unseen = false ∧
    s.llu[l].position = .normal ∧ s.tcm[b].state = .clear

theorem sectionClear_iff {l : LeverId} {b : TrackId} : SectionClear s l b ↔
    s.standsNormal (some l) = true ∧ s.circuitClear (some b) = true := by
  simp only [SectionClear, State.standsNormal, State.stands, State.circuitClear,
    Track.isClear, Bool.and_eq_true, Bool.not_eq_true', decide_eq_true_eq, and_assoc]
  rfl

variable (service : s.device = .service) (live : s.trt.records[r] = some v)
include service live

/-- R157: OUT_OF_SECTION of a train that has not arrived, or whose tail is not seen. -/
theorem takeOutOfSection_early (early : v.inbound ≠ .arrived ∨ v.tailSeen = false) :
    takeOutOfSection (r.val + 1) s = (s, .state) := by
  rw [takeOutOfSection, withRecord_live service live]
  split
  · next arrived tail _ =>
    rcases early with away | unseen
    · exact absurd arrived away
    · exact absurd (tail.symm.trans unseen) nofun
  · rfl

variable (arrived : v.inbound = .arrived) (tail : v.tailSeen = true) (on : v.arrivalLine = some x)
include arrived tail on

/-- R157: OUT_OF_SECTION of a line that is SUSPENDED. -/
theorem takeOutOfSection_suspended (shut : 255 ≤ (s.blc.get x).count) :
    takeOutOfSection (r.val + 1) s = (s, .state) := by
  rw [takeOutOfSection, withRecord_live service live, arrived, tail, on]
  exact if_pos (suspended_iff.mpr shut)

variable {l : LeverId} {b : TrackId} (below : (s.blc.get x).count < 255)
  (home : (s.cfg.lines.get x).home = some l) (berth : (s.cfg.lines.get x).berth = some b)
include below home berth

/-- R157 orders 6 and 7: a section not clear, at a place no rule gives (log 12). -/
theorem takeOutOfSection_notClear (shut : ¬SectionClear s l b) :
    ∃ order, takeOutOfSection (r.val + 1) s = (s, s.outOfSectionCondition order) := by
  rw [takeOutOfSection, withRecord_live service live, arrived, tail, on]
  dsimp only
  rw [if_neg (not_suspended below), home, berth]
  cases stands : s.standsNormal (some l) with
  | false => exact ⟨6, rfl⟩
  | true =>
    have occupied : s.circuitClear (some b) = false := by
      rw [sectionClear_iff, stands] at shut
      simpa using shut
    rw [occupied]
    exact ⟨7, rfl⟩

/-- R157 order 8 on: a clear section, by the entry found to send. -/
theorem takeOutOfSection_clear {c : CodeId} (clear : SectionClear s l b)
    (entry : entryToSend s.cfg.codes .outOfSection none = some c) :
    takeOutOfSection (r.val + 1) s = if (s.bu.get x).sender.isSome then (s, .busy)
      else (giveBackSection x r c s, .done (bytesTwo (s.entryLength c) ++
        bytesOne (flagNo ((giveBackSection x r c s).recordFree r)))) := by
  obtain ⟨stands, berthClear⟩ := sectionClear_iff.mp clear
  rw [takeOutOfSection, withRecord_live service live, arrived, tail, on]
  dsimp only
  rw [if_neg (not_suspended below), home, berth, stands, berthClear, entry]
  rfl

end

/-- Settles O45: the refusals of OUT_OF_SECTION in their order, then the section given back. -/
theorem outOfSectionGivesTheSectionBack : Obligations.OutOfSectionGivesTheSectionBack := by
  intro s free
  refine ⟨fun n config => serve_eq free (withRecord_config config n), fun service =>
    ⟨fun n out => serve_eq free (withRecord_range service out),
      fun r empty => serve_eq free (withRecord_free service empty),
      fun r v live early => serve_eq free (takeOutOfSection_early service live early), ?_⟩⟩
  intro r v x l b live arrived tail on home berth answer clear
  refine ⟨fun shut => serve_eq free (takeOutOfSection_suspended service live arrived tail on shut),
    fun below notClear => ?_, fun c e below isClear entry => ?_⟩
  · obtain ⟨order, refused⟩ :=
      takeOutOfSection_notClear service live arrived tail on below home berth notClear
    exact ⟨Config.outOfSectionPlace s.draws order, serve_eq free refused⟩
  · have taken := takeOutOfSection_clear service live arrived tail on below home berth isClear
      (entryToSend_eq_some.mpr ⟨e, entry⟩)
    refine ⟨fun sending => serve_eq free (taken.trans (if_pos (sending_isSome sending))),
      fun idle => ?_⟩
    obtain ⟨loaded, -, meaning, -⟩ := entry
    obtain ⟨sent, gone, stays, others, owed, blc⟩ := giveBackSection_whole (x := x) live loaded
    rw [meaning] at sent
    rw [retires_sectionGiven] at gone stays
    refine ⟨_, serve_eq free (taken.trans (if_neg (by simp [idle]))),
      sent.of_eq rfl rfl rfl rfl rfl rfl, ⟨gone, stays⟩, others, owed, blc, ?_⟩
    rw [recordFree_byte, State.entryLength, loaded]
    exact congrArg (fun u : State => u.holding (replyBytes 0 60 _)) giveBackSection_rest

end Sys2Proof.Machine

/-! INSTRUMENT_SETTLING: a settled reading adopted, judged by the outbound half and, where it is not a valid
one, counted as irregular. -/

namespace Sys2Proof.Machine

/-! ### What a step of a line's count leaves -/

section
variable {s t u : State} {x : Line}

/-- R130: between two states line `x` has taken rising steps of `n` in all, the trains as they were. -/
structure Stepped (x : Line) (n : Nat) (s t : State) : Prop where
  trt : t.trt = s.trt
  blc : t.blc = s.blc.set x { s.blc.get x with count := min 255 ((s.blc.get x).count + n) }

/-- R130, R135: between two states line `x` has changed in its count and its standing only, and no line's
automatic ENTERING is newly owed. -/
structure LineMoved (x : Line) (s t : State) : Prop where
  blc : ∃ count standing, t.blc = s.blc.set x { s.blc.get x with count := count, standing := standing }
  owed : t.trt.owed = s.trt.owed

theorem LineMoved.of_eq (blc : t.blc = s.blc) (owed : t.trt.owed = s.trt.owed) : LineMoved x s t :=
  ⟨⟨(s.blc.get x).count, (s.blc.get x).standing, blc.trans (s.blc.set_get x).symm⟩, owed⟩

theorem LineMoved.trans (first : LineMoved x s t) (second : LineMoved x t u) : LineMoved x s u := by
  obtain ⟨⟨count, standing, blc⟩, owed⟩ := first
  obtain ⟨⟨count', standing', blc'⟩, owed'⟩ := second
  refine ⟨⟨count', standing', ?_⟩, owed'.trans owed⟩
  rw [blc', blc, PerLine.set_set, PerLine.get_set_self]

theorem LineMoved.stepUp (moved : LineMoved x s t) (n : Nat) : LineMoved x s (stepUp x n t) := by
  refine moved.trans ?_
  by_cases shut : (t.blc.get x).suspended = true
  · exact .of_eq (by rw [Machine.stepUp, changeCount_line, if_pos shut]) (by simp)
  · exact ⟨⟨min 255 ((t.blc.get x).count + n), (t.blc.get x).standing,
      by rw [Machine.stepUp, changeCount_line, if_neg shut]⟩, by simp⟩

theorem LineMoved.setStanding (moved : LineMoved x s t) (st : Standing) (r : TrainId)
    (f : Train → Train) : LineMoved x s (latchTrain r (setStanding x st (t.updTrain r f))) :=
  moved.trans ⟨⟨(t.blc.get x).count, st, by simp [latchTrain, Machine.setStanding]⟩,
    by simp [latchTrain]⟩

theorem LineMoved.rejudge (moved : LineMoved x s t) : LineMoved x s (rejudge x t) :=
  moved.trans (.of_eq (by simp) (by simp))

theorem LineMoved.latch (moved : LineMoved x s t) (src : Source) (d : Detail) :
    LineMoved x s (latch src d t) :=
  moved.trans (.of_eq (by simp) (by simp))

/-- R130: no step at all. -/
theorem Stepped.none (within : (s.blc.get x).count ≤ 255) (trt : t.trt = s.trt) (blc : t.blc = s.blc) :
    Stepped x 0 s t := by
  refine ⟨trt, ?_⟩
  rw [blc, Nat.add_zero, min_eq_right within]
  exact (s.blc.set_get x).symm

theorem Stepped.trans {m n : Nat} (first : Stepped x m s t) (second : Stepped x n t u) :
    Stepped x (m + n) s u := by
  refine ⟨second.trt.trans first.trt, ?_⟩
  have sum : min 255 (min 255 ((s.blc.get x).count + m) + n) =
      min 255 ((s.blc.get x).count + (m + n)) := by omega
  rw [second.blc, first.blc, PerLine.set_set, PerLine.get_set_self]
  dsimp only
  rw [sum]

/-- R130: a rising step, which a SUSPENDED line at 255 does not notice. -/
theorem stepUp_stepped (within : (s.blc.get x).count ≤ 255) (n : Nat) :
    Stepped x n s (stepUp x n s) := by
  refine ⟨by simp, ?_⟩
  rw [stepUp, changeCount_line]
  split
  · next shut =>
    have full : min 255 ((s.blc.get x).count + n) = (s.blc.get x).count := by
      have := suspended_iff.mp shut
      omega
    rw [full]
    exact (s.blc.set_get x).symm
  · rfl

theorem Stepped.count_le {n : Nat} (stepped : Stepped x n s t) : (t.blc.get x).count ≤ 255 := by
  rw [stepped.blc, PerLine.get_set_self]
  exact min_le_left _ _

/-- R131, R136: a step of the count takes no block hold from a line that is not ACCEPTED. -/
theorem stepUp_blockHold (n : Nat) (other : (s.blc.get x).standing ≠ .accepted)
    (held : s.ht[blockEntry x] ≠ none) : (stepUp x n s).ht[blockEntry x] ≠ none := by
  have kept {u : State} (ht : u.ht = s.ht) (standing : (u.blc.get x).standing = (s.blc.get x).standing) :
      (rejudge x u).ht[blockEntry x] ≠ none := by
    have blocked : ¬(u.blc.get x).blockCondition = true := by
      rw [blockCondition_iff, standing]
      exact fun ⟨_, _, _, accepted⟩ => other accepted
    rw [rejudge_entry, if_neg blocked, ensureBlock_entry, ht]
    cases hold : s.ht[blockEntry x] with
    | none => exact absurd hold held
    | some _ => simp
  rw [stepUp]
  rcases changeCount_cases x (fun c => min 255 (c + n)) s with
    ⟨-, e⟩ | ⟨-, -, e⟩ | ⟨-, -, -, e⟩ | ⟨-, -, -, e⟩ <;> rw [e]
  · exact held
  · exact held
  · exact kept (by simp) (by simp)
  · simpa using held

end

/-! ### The adoption judged (R151) -/

section
variable {u : State} {x : Line} {q : TrainId} {new : Instrument}

/-- R151: a train accepted or its acceptance withdrawn: its record written with the standing given. -/
theorem moveOutbound_whole {v : Train} (live : u.trt.records[q] = some v) (f : Train → Train)
    (st : Standing) :
    (latchTrain q (setStanding x st (u.updTrain q f))).trt.records[q] = some (f v) ∧
    (∀ p : TrainId, p ≠ q →
      (latchTrain q (setStanding x st (u.updTrain q f))).trt.records[p] = u.trt.records[p]) ∧
    (latchTrain q (setStanding x st (u.updTrain q f))).blc =
      u.blc.set x { u.blc.get x with standing := st } ∧
    (latchTrain q (setStanding x st (u.updTrain q f))).au[Source.id .train].detail =
      some (.record q) := by
  have trt : (latchTrain q (setStanding x st (u.updTrain q f))).trt = (u.updTrain q f).trt := by
    simp only [latchTrain, latch_frame, setStanding_frame]
  refine ⟨?_, fun p other => ?_, ?_, (latch_latched .train (.record q) _).detail⟩
  · rw [trt, updTrain_record live]
  · rw [trt, updTrain_other other]
  · simp only [latchTrain, latch_frame, setStanding, rejudge_frame, State.updLine_blc, State.updTrain_blc]

theorem acceptOutbound_whole {v : Train} (live : u.trt.records[q] = some v) :
    (acceptOutbound x q u).trt.records[q] = some { v with outbound := .accepted, outLapse := none } ∧
    (∀ p : TrainId, p ≠ q → (acceptOutbound x q u).trt.records[p] = u.trt.records[p]) ∧
    (acceptOutbound x q u).blc = u.blc.set x { u.blc.get x with standing := .accepted } ∧
    (acceptOutbound x q u).au[Source.id .train].detail = some (.record q) :=
  moveOutbound_whole live _ .accepted

theorem withdrawAcceptance_whole {v : Train} (live : u.trt.records[q] = some v) :
    (withdrawAcceptance x q u).trt.records[q] = some { v with
      outbound := .offered, withdrawn := true, outLapse := some (u.cfg.lines.get x).lapse } ∧
    (∀ p : TrainId, p ≠ q → (withdrawAcceptance x q u).trt.records[p] = u.trt.records[p]) ∧
    (withdrawAcceptance x q u).blc = u.blc.set x { u.blc.get x with standing := .offered } ∧
    (withdrawAcceptance x q u).au[Source.id .train].detail = some (.record q) :=
  moveOutbound_whole live _ .offered

/-- R136: an acceptance withdrawn holds the line's starter. -/
theorem withdrawAcceptance_holds (service : u.device = .service)
    (starter : (u.cfg.lines.get x).starter ≠ none) :
    (withdrawAcceptance x q u).ht[blockEntry x] ≠ none := by
  obtain ⟨l, starter⟩ := Option.ne_none_iff_exists'.mp starter
  have held := (setStanding_ensures (x := x) (st := .offered) nofun
    (s := u.updTrain q fun t => { t with
      outbound := .offered, withdrawn := true
      outLapse := some (u.cfg.lines.get x).lapse }) service).1 l starter
  simp only [withdrawAcceptance, latchTrain, latch_frame]
  rw [held]
  split <;> nofun

/-- R151: with no outbound half on the line BLOCKED is regular and any other state irregular. -/
theorem judgeAdoption_noTrain (none_ : u.trt.outboundTrain x = none) :
    judgeAdoption x new u = if new = .blocked then u else stepUp x 4 u := by
  unfold judgeAdoption
  rw [none_]
  cases new <;> rfl

section
variable (train : u.trt.outboundTrain x = some q)
include train

/-- R151: CLEAR, by the line's outbound half. -/
theorem judgeAdoption_clear : judgeAdoption x .clear u = match u.outboundOf q with
    | .offered => if (u.blc.get x).obstruction then u else acceptOutbound x q u
    | .accepted => if Config.clearWhileAcceptedIrregular then stepUp x 4 u else u
    | .none | .inSection | .cleared => stepUp x 4 u := by
  unfold judgeAdoption
  rw [train]
  dsimp only [Option.map_some, Option.getD_some]
  cases u.outboundOf q <;> rfl

/-- R151: ON_LINE, by the line's outbound half. -/
theorem judgeAdoption_onLine : judgeAdoption x .onLine u = match u.outboundOf q with
    | .accepted => withdrawAcceptance x q (stepUp x 4 u)
    | .inSection => u
    | .none | .offered | .cleared => stepUp x 4 u := by
  unfold judgeAdoption
  rw [train]
  dsimp only [Option.map_some, Option.getD_some]
  cases u.outboundOf q <;> rfl

/-- R151: BLOCKED, by the line's outbound half. -/
theorem judgeAdoption_blocked : judgeAdoption x .blocked u = match u.outboundOf q with
    | .accepted => withdrawAcceptance x q u
    | .none | .offered | .inSection | .cleared => u := by
  unfold judgeAdoption
  rw [train]
  dsimp only [Option.map_some, Option.getD_some]
  cases u.outboundOf q <;> rfl

end

/-- R151: a state other than CLEAR withdraws the acceptance of a half; ON_LINE is irregular besides. -/
theorem judgeAdoption_accepted (train : u.trt.outboundTrain x = some q)
    (accepted : u.outboundOf q = .accepted) (other : new ≠ .clear) : judgeAdoption x new u =
      withdrawAcceptance x q (if new = .onLine then stepUp x 4 u else u) := by
  cases new with
  | clear => exact absurd rfl other
  | onLine => rw [judgeAdoption_onLine train, accepted]; rfl
  | blocked => rw [judgeAdoption_blocked train, accepted]; rfl

theorem judgeAdoption_moved (x : Line) (new : Instrument) (u : State) :
    LineMoved x u (judgeAdoption x new u) := by
  have still : LineMoved x u u := .of_eq rfl rfl
  unfold judgeAdoption
  dsimp only
  split
  · split
    · exact still
    · exact still.setStanding _ _ _
  · split
    · exact still.stepUp 4
    · exact still
  · exact still.stepUp 4
  · exact (still.stepUp 4).setStanding _ _ _
  · exact still
  · exact still.stepUp 4
  · exact still.setStanding _ _ _
  · exact still

end

/-! ### The adoption and the settling (R127 to R129) -/

/-- R127: the line with its new settled reading. -/
def readingSettled (x : Line) (r : RawReading) (s : State) : State :=
  s.updLine x fun b => { b with settled := r, candidate := none }

/-- R129: what an invalid reading does on top, where the settled reading is one. -/
def invalidityCounted (x : Line) (r : RawReading) (s : State) : State :=
  if r = .both then invalidReading x s else s

/-- R129: the rising steps of a settled reading of itself. -/
def invaliditySteps (r : RawReading) : Nat := if r = .both then 4 else 0

section
variable {s : State} {x : Line} {r : RawReading} {new : Instrument}

theorem invaliditySteps_valid (valid : outStateOf r ≠ .blocked) : invaliditySteps r = 0 :=
  if_neg fun both => valid (by rw [both]; rfl)

theorem invalidityCounted_valid (valid : outStateOf r ≠ .blocked) : invalidityCounted x r s = s :=
  if_neg fun both => valid (by rw [both]; rfl)

theorem invalidityCounted_stepped (within : (s.blc.get x).count ≤ 255) :
    Stepped x (invaliditySteps r) s (invalidityCounted x r s) := by
  unfold invalidityCounted invaliditySteps
  split
  · obtain ⟨trt, blc⟩ := stepUp_stepped within 4
    exact ⟨by simp, by simpa [invalidReading] using blc⟩
  · exact .none within rfl rfl

/-- R129: an invalid reading latches no source but the line's. -/
theorem invalidityCounted_otherSource {i : SourceId} (other : i ≠ Source.id (.line x)) :
    (invalidityCounted x r s).au[i] = s.au[i] := by
  unfold invalidityCounted
  split
  · exact ((latch_latched (.line x) (.lineCause .invalid) _).others i other).trans
      (changeCount_otherSource _ other)
  · rfl

theorem invalidityCounted_blockHold (other : (s.blc.get x).standing ≠ .accepted)
    (held : s.ht[blockEntry x] ≠ none) : (invalidityCounted x r s).ht[blockEntry x] ≠ none := by
  unfold invalidityCounted
  split
  · simpa [invalidReading] using stepUp_blockHold 4 other held
  · exact held

/-- R128, R151: an adoption on a line that is not SUSPENDED: re-judged first where the state adopted is not
CLEAR, and afterwards where it is. -/
theorem adopt_open (below : (s.blc.get x).count < 255) : adopt x new s =
    latch (.line x) (.lineCause .instrument)
      (if new = .clear then rejudge x (judgeAdoption x .clear s)
        else judgeAdoption x new (rejudge x s)) := by
  unfold adopt
  cases new <;> simp [not_suspended below]

/-- R128: on a SUSPENDED line an adoption changes neither the trains nor the line. -/
theorem adopt_suspended (shut : 255 ≤ (s.blc.get x).count) :
    (adopt x new s).trt = s.trt ∧ (adopt x new s).blc = s.blc := by
  have suspended := suspended_iff.mpr shut
  unfold adopt
  cases new <;> simp [suspended]

theorem adopt_moved (x : Line) (new : Instrument) (s : State) : LineMoved x s (adopt x new s) := by
  have still : LineMoved x s s := .of_eq rfl rfl
  have judged {u : State} (moved : LineMoved x s u) :
      LineMoved x s (if (u.blc.get x).suspended then u else judgeAdoption x new u) := by
    split
    · exact moved
    · exact moved.trans (judgeAdoption_moved x new u)
  have rejudged {u : State} (c : Prop) [Decidable c] (moved : LineMoved x s u) :
      LineMoved x s (if c then rejudge x u else u) := by
    split
    · exact moved.rejudge
    · exact moved
  exact (rejudged _ (judged (rejudged _ still))).latch _ _

/-- R128, R151: an adoption whose judgement is a step of the count is that step. -/
theorem adopt_stepped {n : Nat} (below : (s.blc.get x).count < 255)
    (judged : ∀ u : State, u.trt = s.trt → u.blc = s.blc → Stepped x n u (judgeAdoption x new u)) :
    Stepped x n s (adopt x new s) := by
  rw [adopt_open below]
  split
  · next clear =>
    obtain ⟨trt, blc⟩ := judged s rfl rfl
    rw [clear] at trt blc
    exact ⟨by simpa using trt, by simpa using blc⟩
  · obtain ⟨trt, blc⟩ := judged (rejudge x s) (by simp) (by simp)
    exact ⟨by simpa using trt, by simpa using blc⟩

theorem execInstrumentSettling_due {n : Nat} (run : (s.blc.get x).candidate = some (r, n))
    (full : 40 ≤ n) : execInstrumentSettling x s = .next (settle x r s) := by
  have reading : settlingReading x s = some r := by
    rw [settlingReading, run]
    exact if_pos full
  rw [execInstrumentSettling, reading]

/-- R127: in CONFIG a settled reading is that and no more. -/
theorem settle_config (config : s.device = .config) : settle x r s = readingSettled x r s :=
  if_neg (by simp [config])

theorem settle_service (service : s.device = .service) : settle x r s = invalidityCounted x r
    (if outStateOf r = outStateOf (s.blc.get x).settled then readingSettled x r s
      else adopt x (outStateOf r) (readingSettled x r s)) := if_pos service

/-- R129: in SERVICE a settled reading that changes no OUT instrument state counts where it is invalid. -/
theorem settle_steady (service : s.device = .service)
    (same : outStateOf (s.blc.get x).settled = outStateOf r) :
    settle x r s = invalidityCounted x r (readingSettled x r s) := by
  rw [settle_service service, if_pos same.symm]

/-- R128, R129: in SERVICE a change of the OUT instrument state is adopted. -/
theorem settle_change (service : s.device = .service)
    (change : outStateOf (s.blc.get x).settled ≠ outStateOf r) :
    settle x r s = invalidityCounted x r (adopt x (outStateOf r) (readingSettled x r s)) := by
  rw [settle_service service, if_neg change.symm]

/-- R127 to R129: beside its settled reading a settling moves the line's count and standing only. -/
theorem settle_moved (x : Line) (r : RawReading) (s : State) :
    LineMoved x (readingSettled x r s) (settle x r s) := by
  have still : LineMoved x (readingSettled x r s) (readingSettled x r s) := .of_eq rfl rfl
  have counted {u : State} (moved : LineMoved x (readingSettled x r s) u) :
      LineMoved x (readingSettled x r s) (invalidityCounted x r u) := by
    unfold invalidityCounted
    split
    · exact (moved.stepUp 4).latch _ _
    · exact moved
  cases device : s.device with
  | config => rw [settle_config device]; exact still
  | service =>
    by_cases same : outStateOf (s.blc.get x).settled = outStateOf r
    · rw [settle_steady device same]; exact counted still
    · rw [settle_change device same]; exact counted (still.trans (adopt_moved _ _ _))

end

/-- R128, R151: the line re-judged and, for ON_LINE, counted, before an acceptance is withdrawn. -/
def adoptionCounted (x : Line) (r : RawReading) (s : State) : State :=
  if outStateOf r = .onLine then stepUp x 4 (rejudge x (readingSettled x r s))
  else rejudge x (readingSettled x r s)

theorem adoptionCounted_whole {s : State} {x : Line} {r : RawReading}
    (below : (s.blc.get x).count < 255) :
    (adoptionCounted x r s).trt = s.trt ∧ (adoptionCounted x r s).cfg = s.cfg ∧
    (adoptionCounted x r s).device = s.device ∧ ((adoptionCounted x r s).blc.get x).count =
      min 255 ((s.blc.get x).count + if outStateOf r = .onLine then 4 else 0) := by
  have within : ((rejudge x (readingSettled x r s)).blc.get x).count = (s.blc.get x).count := by
    simp [readingSettled]
  unfold adoptionCounted
  split
  · refine ⟨by simp [readingSettled], by simp [readingSettled], by simp [readingSettled], ?_⟩
    rw [(stepUp_stepped (by omega) 4).blc, PerLine.get_set_self, within]
  · refine ⟨by simp [readingSettled], by simp [readingSettled], by simp [readingSettled], ?_⟩
    rw [within]
    omega

/-! ### What a settling in SERVICE comes to -/

section
variable {s t : State} {x : Line} {r : RawReading}

/-- R127: rising steps counted from the state with the reading settled, told of the state before. -/
theorem Stepped.from_settled {n : Nat} (stepped : Stepped x n (readingSettled x r s) t) {m : Nat}
    (total : min 255 ((s.blc.get x).count + n) = m) :
    (t.trt = s.trt ∧ (t.blc.get x).standing = (s.blc.get x).standing) ∧ (t.blc.get x).count = m := by
  obtain ⟨trt, blc⟩ := stepped
  refine ⟨⟨trt, ?_⟩, ?_⟩ <;> rw [blc, PerLine.get_set_self]
  · simp [readingSettled]
  · simpa [readingSettled] using total

variable (service : s.device = .service)
include service

theorem settle_instrument_latched (change : outStateOf (s.blc.get x).settled ≠ outStateOf r) :
    (settle x r s).au[Source.id (.line x)].pending = true ∧
    (settle x r s).au[Source.id (.line x)].detail =
      some (.lineCause (if r = .both then .invalid else .instrument)) := by
  rw [settle_change service change, invalidityCounted]
  split
  · have latched := latch_latched (.line x) (.lineCause .invalid)
      (stepUp x 4 (adopt x (outStateOf r) (readingSettled x r s)))
    exact ⟨latched.pending, latched.detail⟩
  · exact ⟨(latch_latched (.line x) (.lineCause .instrument) _).pending,
      (latch_latched (.line x) (.lineCause .instrument) _).detail⟩

theorem settle_invalid_latched : (settle x .both s).au[Source.id (.line x)].pending = true ∧
    (settle x .both s).au[Source.id (.line x)].detail = some (.lineCause .invalid) := by
  rw [settle_service service]
  exact ⟨(latch_latched (.line x) (.lineCause .invalid) _).pending,
    (latch_latched (.line x) (.lineCause .invalid) _).detail⟩

/-- R129, R131: on a SUSPENDED line a settling judges and counts nothing. -/
theorem settle_suspended (shut : 255 ≤ (s.blc.get x).count) :
    ((settle x r s).trt = s.trt ∧
      ((settle x r s).blc.get x).standing = (s.blc.get x).standing) ∧
    ((settle x r s).blc.get x).count = (s.blc.get x).count := by
  have counted {u : State} (trt : u.trt = s.trt) (blc : u.blc = (readingSettled x r s).blc) :
      (invalidityCounted x r u).trt = s.trt ∧
      (invalidityCounted x r u).blc = (readingSettled x r s).blc := by
    have suspended : (u.blc.get x).suspended = true := by
      rw [suspended_iff, blc]
      simpa [readingSettled] using shut
    unfold invalidityCounted
    split
    · refine ⟨by simp [invalidReading, trt], ?_⟩
      rw [← blc]
      simp [invalidReading, stepUp, changeCount_line, suspended]
    · exact ⟨trt, blc⟩
  have whole : (settle x r s).trt = s.trt ∧ (settle x r s).blc = (readingSettled x r s).blc := by
    rw [settle_service service]
    split
    · exact counted rfl rfl
    · obtain ⟨trt, blc⟩ := adopt_suspended (s := readingSettled x r s) (x := x) (new := outStateOf r)
        (by simpa [readingSettled] using shut)
      exact counted trt blc
  obtain ⟨trt, blc⟩ := whole
  rw [blc]
  simp [trt, readingSettled]

variable (below : (s.blc.get x).count < 255)
include below

/-- R129: with the OUT instrument state as it was, only an invalid reading counts. -/
theorem settle_steady_stepped (same : outStateOf (s.blc.get x).settled = outStateOf r) :
    Stepped x (invaliditySteps r) (readingSettled x r s) (settle x r s) := by
  rw [settle_steady service same]
  exact invalidityCounted_stepped (by simpa [readingSettled] using below.le)

variable (change : outStateOf (s.blc.get x).settled ≠ outStateOf r)
include change

/-- R128, R129: an adoption judged by a step of the count, and the count of an invalid reading. -/
theorem settle_stepped {k : Nat} (judged : ∀ u : State, u.trt = s.trt →
      u.blc = (readingSettled x r s).blc → Stepped x k u (judgeAdoption x (outStateOf r) u)) :
    Stepped x (k + invaliditySteps r) (readingSettled x r s) (settle x r s) := by
  have adopted := adopt_stepped (s := readingSettled x r s) (by simpa [readingSettled] using below) judged
  rw [settle_change service change]
  exact adopted.trans (invalidityCounted_stepped adopted.count_le)

/-- R129, R151: a regular adoption counts nothing but an invalid reading. -/
theorem settle_regular (regular : ∀ u : State, u.trt = s.trt →
      u.blc = (readingSettled x r s).blc → judgeAdoption x (outStateOf r) u = u) :
    Stepped x (invaliditySteps r) (readingSettled x r s) (settle x r s) := by
  have stepped := settle_stepped service below change (k := 0) fun u trt blc => by
    rw [regular u trt blc]
    exact .none (by simpa [blc, readingSettled] using below.le) rfl rfl
  rwa [Nat.zero_add] at stepped

/-- R130, R151: an irregular adoption is a rising step of 4. -/
theorem settle_irregular (valid : outStateOf r ≠ .blocked)
    (irregular : ∀ u : State, u.trt = s.trt → judgeAdoption x (outStateOf r) u = stepUp x 4 u) :
    Stepped x 4 (readingSettled x r s) (settle x r s) := by
  have stepped := settle_stepped service below change (k := 4) fun u trt blc => by
    rw [irregular u trt]
    exact stepUp_stepped (by simpa [blc, readingSettled] using below.le) 4
  rwa [invaliditySteps_valid valid] at stepped

/-- R151: an adoption on a line without an outbound half. -/
theorem settle_noTrain (none_ : s.trt.outboundTrain x = none) :
    Stepped x (if outStateOf r = .blocked then invaliditySteps r else 4) (readingSettled x r s)
      (settle x r s) := by
  split
  · next blocked =>
    refine settle_regular service below change fun u trt _ => ?_
    rw [judgeAdoption_noTrain (by rw [trt]; exact none_), if_pos blocked]
  · next valid =>
    refine settle_irregular service below change valid fun u trt => ?_
    rw [judgeAdoption_noTrain (by rw [trt]; exact none_), if_neg valid]

variable {q : TrainId} {v : Train} (live : s.trt.records[q] = some v)
  (train : s.trt.outboundTrain x = some q)
include live train

/-- R151: CLEAR to an OFFERED half is regular on an obstructed line. -/
theorem settle_clear_obstructed (clear : outStateOf r = .clear) (offered : v.outbound = .offered)
    (obstructed : (s.blc.get x).obstruction = true) :
    Stepped x 0 (readingSettled x r s) (settle x r s) := by
  rw [← invaliditySteps_valid (r := r) (by rw [clear]; nofun)]
  refine settle_regular service below change fun u trt blc => ?_
  rw [clear, judgeAdoption_clear (by rw [trt]; exact train), outboundOf_live (by rw [trt]; exact live),
    offered]
  exact if_pos (by simp [blc, readingSettled, obstructed])

/-- R151: CLEAR to a half IN_SECTION is irregular. -/
theorem settle_clear_inSection (clear : outStateOf r = .clear) (inSection : v.outbound = .inSection) :
    Stepped x 4 (readingSettled x r s) (settle x r s) := by
  refine settle_irregular service below change (by rw [clear]; nofun) fun u trt => ?_
  rw [clear, judgeAdoption_clear (by rw [trt]; exact train), outboundOf_live (by rw [trt]; exact live),
    inSection]

/-- R151: ON_LINE to an OFFERED half is irregular. -/
theorem settle_onLine_offered (onLine : outStateOf r = .onLine) (offered : v.outbound = .offered) :
    Stepped x 4 (readingSettled x r s) (settle x r s) := by
  refine settle_irregular service below change (by rw [onLine]; nofun) fun u trt => ?_
  rw [onLine, judgeAdoption_onLine (by rw [trt]; exact train),
    outboundOf_live (by rw [trt]; exact live), offered]

/-- R151: ON_LINE to a half IN_SECTION is regular. -/
theorem settle_onLine_inSection (onLine : outStateOf r = .onLine) (inSection : v.outbound = .inSection) :
    Stepped x 0 (readingSettled x r s) (settle x r s) := by
  rw [← invaliditySteps_valid (r := r) (by rw [onLine]; nofun)]
  refine settle_regular service below change fun u trt _ => ?_
  rw [onLine, judgeAdoption_onLine (by rw [trt]; exact train),
    outboundOf_live (by rw [trt]; exact live), inSection]

/-- R151: BLOCKED to a half OFFERED or IN_SECTION is regular. -/
theorem settle_blocked (blocked : outStateOf r = .blocked)
    (active : v.outbound = .offered ∨ v.outbound = .inSection) :
    Stepped x (invaliditySteps r) (readingSettled x r s) (settle x r s) := by
  refine settle_regular service below change fun u trt _ => ?_
  rw [blocked, judgeAdoption_blocked (by rw [trt]; exact train),
    outboundOf_live (by rw [trt]; exact live)]
  rcases active with offered | inSection
  · rw [offered]
  · rw [inSection]

/-- R151: CLEAR accepts the OFFERED half of a line that is not obstructed. -/
theorem settle_accepts (clear : outStateOf r = .clear) (offered : v.outbound = .offered)
    (free : (s.blc.get x).obstruction = false) :
    (settle x r s).trt.records[q] = some { v with outbound := .accepted, outLapse := none } ∧
    (∀ p : TrainId, p ≠ q → (settle x r s).trt.records[p] = s.trt.records[p]) ∧
    ((settle x r s).blc.get x).standing = .accepted ∧
    ((settle x r s).blc.get x).count = (s.blc.get x).count ∧
    (settle x r s).ht[blockEntry x] = none ∧
    (settle x r s).au[Source.id .train].detail = some (.record q) := by
  have judged : judgeAdoption x .clear (readingSettled x r s) =
      acceptOutbound x q (readingSettled x r s) := by
    rw [judgeAdoption_clear (u := readingSettled x r s) train,
      outboundOf_live (s := readingSettled x r s) live, offered]
    exact if_neg (by simp [readingSettled, free])
  have whole : settle x r s = latch (.line x) (.lineCause .instrument)
      (rejudge x (acceptOutbound x q (readingSettled x r s))) := by
    rw [settle_change service change, invalidityCounted_valid (by rw [clear]; nofun),
      adopt_open (by simpa [readingSettled] using below), if_pos clear, judged]
  obtain ⟨record, records, blc, detail⟩ :=
    acceptOutbound_whole (u := readingSettled x r s) (x := x) live
  have line : (acceptOutbound x q (readingSettled x r s)).blc.get x = { s.blc.get x with
      settled := r, candidate := none, standing := .accepted } := by
    rw [blc]
    simp [readingSettled]
  have condition : ((acceptOutbound x q (readingSettled x r s)).blc.get x).blockCondition = true := by
    rw [line, blockCondition_iff]
    exact ⟨clear, below, free, rfl⟩
  rw [whole]
  simp only [latch_frame, rejudge_frame, line]
  refine ⟨record, records, trivial, trivial,
    rejudge_retires (by simp [readingSettled, service]) condition, ?_⟩
  have source := (latch_latched (.line x) (.lineCause .instrument)
    (rejudge x (acceptOutbound x q (readingSettled x r s)))).others (Source.id .train)
      (by cases x <;> decide)
  rw [source]
  simp only [rejudge_frame]
  exact detail

/-- R151: a state other than CLEAR withdraws the acceptance of the half: its record, the standing, the
count, the block hold and TRAIN. -/
theorem settle_withdraws (other : outStateOf r ≠ .clear) (accepted : v.outbound = .accepted) :
    (settle x r s).trt.records[q] = some { v with
      outbound := .offered, withdrawn := true, outLapse := some (s.cfg.lines.get x).lapse } ∧
    (∀ p : TrainId, p ≠ q → (settle x r s).trt.records[p] = s.trt.records[p]) ∧
    ((settle x r s).blc.get x).standing = .offered ∧
    ((settle x r s).blc.get x).count =
      min 255 ((s.blc.get x).count + if outStateOf r = .onLine then 4 else invaliditySteps r) ∧
    ((s.cfg.lines.get x).starter ≠ none → (settle x r s).ht[blockEntry x] ≠ none) ∧
    (settle x r s).au[Source.id .train].detail = some (.record q) := by
  obtain ⟨trt, cfg, device, count⟩ := adoptionCounted_whole below (r := r)
  have whole : settle x r s = invalidityCounted x r (latch (.line x) (.lineCause .instrument)
      (withdrawAcceptance x q (adoptionCounted x r s))) := by
    rw [settle_change service change, adopt_open (by simpa [readingSettled] using below), if_neg other,
      judgeAdoption_accepted (q := q) (by simpa [readingSettled] using train)
        ((outboundOf_live (by simpa [readingSettled] using live)).trans accepted) other]
    rfl
  obtain ⟨record, records, blc, detail⟩ := withdrawAcceptance_whole (u := adoptionCounted x r s) (x := x)
    (by rw [trt]; exact live)
  rw [cfg] at record
  have line : (withdrawAcceptance x q (adoptionCounted x r s)).blc.get x =
      { (adoptionCounted x r s).blc.get x with standing := .offered } := by
    rw [blc, PerLine.get_set_self]
  obtain ⟨trt', blc'⟩ := invalidityCounted_stepped (x := x) (r := r)
    (s := latch (.line x) (.lineCause .instrument) (withdrawAcceptance x q (adoptionCounted x r s)))
    (by simp only [latch_frame, line, count]; omega)
  simp only [latch_frame, line, count] at trt' blc'
  rw [whole, trt', blc', PerLine.get_set_self]
  refine ⟨record, fun p ne => (records p ne).trans (by rw [trt]), rfl, ?_, fun starter => ?_, ?_⟩
  · dsimp only
    split
    · next onLine =>
      rw [invaliditySteps_valid (by rw [onLine]; nofun)]
      omega
    · omega
  · refine invalidityCounted_blockHold (by simp only [latch_frame, line]; nofun) ?_
    simp only [latch_frame]
    exact withdrawAcceptance_holds (device.trans service) (by rwa [cfg])
  · rw [invalidityCounted_otherSource (by cases x <;> decide)]
    have source := (latch_latched (.line x) (.lineCause .instrument)
      (withdrawAcceptance x q (adoptionCounted x r s))).others (Source.id .train)
        (by cases x <;> decide)
    rw [source]
    exact detail

end

/-- Settles O37: what any settling leaves alone, then CONFIG, then SERVICE by the state adopted and the
line's outbound half. -/
theorem settlingIsAdoptedInService : Obligations.SettlingIsAdoptedInService := by
  intro s x r n law run full
  obtain ⟨⟨count', standing', blc⟩, owed⟩ := settle_moved x r s
  have own : (settle x r s).blc.get x = { s.blc.get x with
      settled := r, candidate := none, count := count', standing := standing' } := by
    rw [blc]
    simp [readingSettled]
  refine ⟨_, execInstrumentSettling_due run full, by rw [own], by rw [own], by rw [own], by rw [own],
    fun y ne => ?_, by simp, by simp, by simp, by simp, by simp, by simp, by simp, by simp, by simp,
    owed, fun config => ?_, ?_⟩
  · rw [blc, PerLine.get_set_ne _ _ ne, readingSettled, State.updLine_blc, PerLine.get_set_ne _ _ ne]
  · rw [settle_config config]
    exact ⟨rfl, PerLine.get_set_self _ _ _⟩
  intro service old new count invalid kept
  refine ⟨fun same valid => ?_, settle_instrument_latched service, fun both => ?_,
    settle_suspended service, fun same below => ?_, fun q v change below live on => ?_,
    fun change below none_ => ?_⟩
  · have steady : settle x r s = readingSettled x r s := by
      rw [settle_steady service same, invalidityCounted, if_neg valid]
    dsimp only [kept, count]
    rw [steady]
    simp [readingSettled]
  · subst both
    exact settle_invalid_latched service
  · exact (settle_steady_stepped service below same).from_settled rfl
  · have train (active) : s.trt.outboundTrain x = some q :=
      (outboundTrain_eq_some law).mpr ⟨v, live, on, active⟩
    have unstepped : min 255 ((s.blc.get x).count + 0) = (s.blc.get x).count := by omega
    exact ⟨fun clear offered => settle_accepts service below change live
        (train (.inl offered)) clear offered,
      fun clear offered obstructed => (settle_clear_obstructed service below change live
        (train (.inl offered)) clear offered obstructed).from_settled unstepped,
      fun clear inSection => (settle_clear_inSection service below change live
        (train (.inr (.inr inSection))) clear inSection).from_settled rfl,
      fun onLine offered => (settle_onLine_offered service below change live
        (train (.inl offered)) onLine offered).from_settled rfl,
      fun onLine inSection => (settle_onLine_inSection service below change live
        (train (.inr (.inr inSection))) onLine inSection).from_settled unstepped,
      fun blocked active => (settle_blocked service below change live
        (train (active.imp_right .inr)) blocked active).from_settled rfl,
      fun notClear accepted => settle_withdraws service below change live
        (train (.inr (.inl accepted))) notClear accepted⟩
  · exact (settle_noTrain service below change (outboundTrain_eq_none.mpr none_)).from_settled rfl

end Sys2Proof.Machine

/-! The law for the line reserves: what each writer of the train records keeps of it. -/

namespace Sys2Proof.Machine

namespace ReserveLaw

variable {s : State} (law : ReserveLaw s)
include law

/-! ### The writers of the records -/

theorem of_eq {t : State} (records : t.trt.records = s.trt.records) : ReserveLaw t := by
  intro x v live
  rw [records] at live
  exact law x v live

omit law in
theorem of_empty {t : State} (empty : ∀ r : TrainId, t.trt.records[r] = none) : ReserveLaw t :=
  fun _ _ live => absurd (live.symm.trans (empty _)) nofun

/-- A record is given a train that a reserve record may hold, or none. -/
theorem updRecord (r : TrainId) {v : Option Train}
    (reserved : ∀ x w, r = reserveRecord x → v = some w → w.arrivalLine = some x) :
    ReserveLaw (s.updRecord r v) := by
  intro x w live
  by_cases own : reserveRecord x = r
  · subst own
    exact reserved x w rfl ((updRecord_own s _ v).symm.trans live)
  · rw [updRecord_other _ _ own] at live
    exact law x w live

theorem free (r : TrainId) : ReserveLaw (s.updRecord r none) :=
  law.updRecord r fun _ _ _ gone => by cases gone

/-- A record is written elsewhere than in its arrival line. -/
theorem updTrain (r : TrainId) {f : Train → Train}
    (line : ∀ v, (f v).arrivalLine = v.arrivalLine := by intro _; rfl) :
    ReserveLaw (s.updTrain r f) := by
  rw [updTrain_eq_updRecord]
  refine law.updRecord r fun x w own given => ?_
  obtain ⟨v, live, rfl⟩ := Option.map_eq_some_iff.mp given
  subst own
  exact (line v).trans (law x v live)

theorem retirementCheck (r : TrainId) : ReserveLaw (retirementCheck r s) := by
  unfold Machine.retirementCheck
  (repeat' split)
  · exact law.free r
  all_goals exact law

/-! ### What leaves the records -/

theorem latch (src : Source) (d : Detail) : ReserveLaw (latch src d s) := law.of_eq (by simp)

theorem latchChange (r : TrainId) : ReserveLaw (latchChange r s) := law.of_eq (by simp)

theorem rejudge (x : Line) : ReserveLaw (rejudge x s) := law.of_eq (by simp)

theorem setStanding (x : Line) (st : Standing) : ReserveLaw (setStanding x st s) := law.of_eq (by simp)

theorem setInstrument (x : Line) (i : Instrument) : ReserveLaw (setInstrument x i s) :=
  law.of_eq (by simp)

theorem setOwed (x : Line) (owed : Bool) : ReserveLaw (s.setOwed x owed) := law.of_eq rfl

theorem retireClearing (x : Line) : ReserveLaw (retireClearing x s) :=
  law.of_eq (by simp [Machine.retireClearing])

theorem stepUp (x : Line) (n : Nat) : ReserveLaw (stepUp x n s) := law.of_eq (by simp)

theorem stepDown (x : Line) : ReserveLaw (stepDown x s) := law.of_eq (by simp)

theorem takeEntrySend (x : Line) (c : CodeId) : ReserveLaw (takeEntrySend x c s) :=
  law.of_eq (by simp)

theorem autoEntering (x : Line) : ReserveLaw (autoEntering x s) := law.of_eq (by simp)

/-! ### Received codes -/

omit law in
/-- R143: a shared record is no line's reserve. -/
theorem shared_ne_reserve {r : TrainId} (shared : r.val < 9) (x : Line) : r ≠ reserveRecord x := by
  rintro rfl
  cases x <;> exact absurd shared (by decide)

/-- R143, R146: an offer is given a shared record or the reserve of the line it is received on. -/
theorem judgeOffer (c : ReceivedCode) : ReserveLaw (judgeOffer c s).state := by
  unfold Machine.judgeOffer
  split
  · exact law
  · split
    · next r given =>
      refine law.updRecord r fun x w own offered => ?_
      cases offered
      unfold TrainTable.recordForOffer at given
      split at given
      · next found =>
        cases given
        exact absurd own (shared_ne_reserve (freeShared_record.mp found).1 x)
      · split at given <;> cases given
        have same : c.line = x := by
          cases line : c.line <;> cases x <;> rw [line] at own <;> first | rfl | cases own
        exact congrArg some same
    · exact law.latch _ _

theorem judgeMeaning (c : ReceivedCode) : ReserveLaw (judgeMeaning c s).state := by
  unfold Machine.judgeMeaning
  split
  · exact law.judgeOffer c
  · unfold judgeEntering
    (repeat' split)
    · exact (law.updTrain _).setInstrument _ _
    all_goals exact law
  · unfold judgeOutOfSection
    (repeat' split)
    · exact (((law.updTrain _).setStanding _ _).setOwed _ _).retirementCheck _
    all_goals exact law
  · unfold judgeCancel
    split
    · split
      · refine (setInstrument ?_ _ _).retirementCheck _
        split
        · exact (law.updTrain _).retireClearing _
        · exact law.updTrain _
      · exact law
    · exact law
  · exact law
  · exact law
  · exact law
  · exact law.of_eq (by simp [Judgement.noEffect])
  · exact law.of_eq (by simp [Judgement.noEffect])

theorem takeReceivedCode (c : ReceivedCode) : ReserveLaw (takeReceivedCode c s).1 := by
  have judged : ReserveLaw (judgedCode c s).state := by
    unfold judgedCode
    split
    · exact law
    · exact law.judgeMeaning c
  have counted : ReserveLaw (countedCode c s) := by
    unfold countedCode
    split
    · exact judged.stepDown _
    · exact judged.stepUp _ _
  obtain ⟨-, trt, -, -⟩ := takeReceivedCode_counted (c := c) (s := s)
  exact counted.of_eq (by rw [trt])

/-- R106, R110: the end of a code. -/
theorem endCode (x : Line) (c : Assembly) : ReserveLaw (endCode x c s) := by
  have handed (heard : Heard) (again : Bool) : ReserveLaw (codeHanded x c heard again s).1 := by
    have stripped : ReserveLaw (codeStripped x again s) := law.of_eq rfl
    unfold codeHanded handOver
    (repeat' split)
    · exact stripped.takeReceivedCode _
    · exact stripped.stepUp _ _
    · exact stripped.stepUp _ _
    · exact stripped
  rw [endCode_eq rfl rfl]
  exact of_eq (handed (identify s.cfg.codes c)
    ((s.bu.get x).isRepetition (identify s.cfg.codes c) c.groups)) (by simp)

/-! ### Adoptions of the OUT instrument -/

theorem judgeAdoption (x : Line) (new : Instrument) : ReserveLaw (judgeAdoption x new s) := by
  have moved {u : State} (law : ReserveLaw u) (r : TrainId) {f : Train → Train} {st : Standing}
      (line : ∀ v, (f v).arrivalLine = v.arrivalLine) :
      ReserveLaw (latchTrain r (Machine.setStanding x st (u.updTrain r f))) :=
    ((law.updTrain r line).setStanding x st).latch _ _
  unfold Machine.judgeAdoption
  dsimp only
  split
  · split
    · exact law
    · exact moved law _ fun _ => rfl
  · split
    · exact law.stepUp _ _
    · exact law
  · exact law.stepUp _ _
  · exact moved (law.stepUp _ _) _ fun _ => rfl
  · exact law
  · exact law.stepUp _ _
  · exact moved law _ fun _ => rfl
  · exact law

theorem adopt (x : Line) (new : Instrument) : ReserveLaw (adopt x new s) := by
  have rejudged {u : State} (c : Prop) [Decidable c] (law : ReserveLaw u) :
      ReserveLaw (if c then Machine.rejudge x u else u) := by
    split
    · exact law.rejudge x
    · exact law
  have reacted {u : State} (law : ReserveLaw u) : ReserveLaw
      (if (u.blc.get x).suspended then u else Machine.judgeAdoption x new u) := by
    split
    · exact law
    · exact law.judgeAdoption x new
  exact (rejudged _ (reacted (rejudged _ law))).latch _ _

/-- R127 to R129: a settling reaches the records by its adoption only. -/
theorem settle (x : Line) (r : RawReading) : ReserveLaw (settle x r s) := by
  have read : ReserveLaw (readingSettled x r s) := law.of_eq rfl
  cases device : s.device with
  | config => rw [settle_config device]; exact read
  | service =>
    rw [settle_service device]
    have adopted : ReserveLaw (if outStateOf r = outStateOf (s.blc.get x).settled
        then readingSettled x r s else Machine.adopt x (outStateOf r) (readingSettled x r s)) := by
      split
      · exact read
      · exact read.adopt x _
    unfold invalidityCounted
    split
    · exact (adopted.stepUp x 4).latch _ _
    · exact adopted

/-! ### Track events -/

theorem trainOccupation (c : TrackId) : ReserveLaw (trainOccupation c s) := by
  have entry {u : State} (law : ReserveLaw u) (x : Line) : ReserveLaw (entryOccupied x c u) := by
    unfold entryOccupied enterSection
    dsimp only
    (repeat' split)
    · exact (((law.updTrain _).setStanding x _).autoEntering x).latch _ _
    · exact (((law.updTrain _).setStanding x _).setOwed x _).latch _ _
    all_goals exact law.latch _ _
  have berth {u : State} (law : ReserveLaw u) (x : Line) : ReserveLaw (berthOccupied x c u) := by
    unfold berthOccupied
    (repeat' split)
    · exact ((law.updTrain _).setInstrument x _).latch _ _
    · exact law
    · exact (law.updTrain _).latch _ _
    · exact law
    all_goals exact law.latch _ _
  refine forEachLine_keeps (fun x u law => ?_) s law
  dsimp only
  (repeat' split)
  · exact berth (entry law x) x
  · exact entry law x
  · exact berth law x
  · exact law

/-- R155: an arrival and its clearance write no arrival line. -/
theorem trainClearance (c : TrackId) : ReserveLaw (trainClearance c s) := by
  refine forEachLine_keeps (fun x u law => ?_) s law
  unfold berthCleared
  (repeat' split)
  · exact ((law.updTrain _).retireClearing x).latch _ _
  all_goals exact law

/-! ### Arrivals and expiries -/

/-- R32: the track part of an arrival reaches the records by its occupation events only. -/
theorem deliverArrival (m : Continuity) : ReserveLaw (deliverArrival m s) := by
  have moved : ReserveLaw (tracked s) := law.of_eq (by simp [tracked])
  have events : ReserveLaw (takeTrackPart s) := by
    rw [takeTrackPart_eq]
    unfold occupationEvents
    split
    · refine forEach_keeps (fun c u law => ?_) _ moved
      split
      · exact trainOccupation (law.of_eq (by simp)) c
      · exact law
    · exact moved
  exact events.of_eq (by simp [Machine.deliverArrival])

/-- R9 to R14: the judgement of a frame reaches the records by the arrival it delivers. -/
theorem judgeFrame (f : Frame) (sdi : BitVec 192) : ReserveLaw (judgeFrame f sdi s) := by
  have bus {u : State} (law : ReserveLaw u) (b : ScanBus) : ReserveLaw (u.setSbc b) := law.of_eq rfl
  unfold Machine.judgeFrame
  split
  · exact bus law _
  · split
    · have taken := bus law (s.sbc.takeGood (f.image sdi))
      unfold afterGood
      (repeat' split)
      · exact (bus taken _).deliverArrival _
      · exact taken
      · exact (bus taken _).deliverArrival _
      · exact taken
      · exact taken.deliverArrival _
      · exact taken
    · have taken := bus law s.sbc.takeBad
      unfold afterBad
      split
      · exact taken.of_eq (by simp)
      · exact taken

/-- R33: the pickup expiry reaches the records by its clearance events only. -/
theorem expired : ReserveLaw (expired s) := by
  have cleared : ReserveLaw (clearDue s) := law.of_eq (by simp)
  unfold Machine.expired clearanceEvents
  split
  · refine forEach_keeps (fun c u law => ?_) _ cleared
    split
    · exact trainClearance (law.of_eq (by simp)) c
    · exact law
  · exact cleared

/-! ### Lapses and cancellations -/

theorem lapseInbound (r : TrainId) : ReserveLaw (lapseInbound r s) := by
  have lapsed := law.updTrain r (f := fun t => { t.leavesInbound .none with lapsed := true })
  unfold Machine.lapseInbound
  refine (retirementCheck ?_ r).latchChange r
  (repeat' split)
  · exact lapsed.setInstrument _ _
  all_goals exact lapsed

theorem dropOutbound (r : TrainId) (lapsed : Bool) : ReserveLaw (dropOutbound r lapsed s) := by
  have dropped := law.updTrain r (f := fun t => { t with
    outbound := .none, outLapse := none, destination := .undecided, lapsed := t.lapsed || lapsed })
  unfold Machine.dropOutbound
  dsimp only
  (repeat' split)
  · exact dropped.setStanding _ _
  all_goals exact dropped

/-! ### Requests -/

theorem inConfig {take : State → State × Reply} (owner : ReserveLaw (take s).1) :
    ReserveLaw (inConfig take s).1 := by
  unfold Machine.inConfig
  split
  · exact law
  · exact owner

theorem withRecord (train : Nat) {k : TrainId → Train → State → State × Reply}
    (owner : ∀ r v, ReserveLaw (k r v s).1) : ReserveLaw (withRecord train k s).1 := by
  unfold Machine.withRecord
  (repeat' split)
  case h_2 => exact owner _ _
  all_goals exact law

theorem takeEnterService : ReserveLaw (takeEnterService s).1 := by
  unfold Machine.takeEnterService
  (repeat' split)
  case h_2 =>
    exact of_empty fun r => by simp [enterService, createBlockHolds, forEachLine, TrainTable.reset]
  all_goals exact law

omit law in
theorem restartPart : ReserveLaw (restartPart s) :=
  of_empty fun r => by simp [Machine.restartPart, TrainTable.reset]

theorem takeAccept (n : Nat) (d : Option Description) : ReserveLaw (takeAccept n d s).1 := by
  have grouped (x : Line) (r : TrainId) (heard : List Nat) :
      ReserveLaw (acceptGroup x r d heard s).1 := by
    have group : ReserveLaw (createGroup (clearingGroup x s) (.line x) s).2 := law.of_eq (by simp)
    unfold acceptGroup
    split <;> (rename_i e; rw [e] at group)
    · split
      · exact group.retireClearing x
      · exact ((group.of_eq (t := takeSend x heard none none _) (by simp)).updTrain r).setInstrument x _
    · exact group
    · exact group
  refine law.withRecord n fun r v => ?_
  (repeat' split)
  case h_2 => exact grouped _ r _
  all_goals exact law

theorem takeOffer (n m : Nat) : ReserveLaw (takeOffer n m s).1 := by
  unfold Machine.takeOffer
  (repeat' split)
  case isFalse => exact ((law.takeEntrySend _ _).updTrain _).setStanding _ _
  all_goals exact law

theorem takeTailSeen (n : Nat) : ReserveLaw (takeTailSeen n s).1 := by
  refine law.withRecord n fun r v => ?_
  (repeat' split)
  · exact law.updTrain r
  · exact ((law.updTrain r).retireClearing _).updTrain r
  all_goals exact law

theorem takeOutOfSection (n : Nat) : ReserveLaw (takeOutOfSection n s).1 := by
  refine law.withRecord n fun r v => ?_
  (repeat' split)
  case isFalse =>
    exact (((law.takeEntrySend _ _).updTrain _).setInstrument _ _).retirementCheck _
  all_goals exact law

theorem takeCancelOffer (n : Nat) : ReserveLaw (takeCancelOffer n s).1 := by
  refine law.withRecord n fun r v => ?_
  (repeat' split)
  case isFalse => exact ((law.takeEntrySend _ _).dropOutbound _ _).retirementCheck _
  all_goals exact law

theorem takeSetDestination (n d : Nat) : ReserveLaw (takeSetDestination n d s).1 := by
  unfold Machine.takeSetDestination
  (repeat' split)
  case isFalse => exact (law.updTrain _).retirementCheck _
  all_goals exact law

/-- R143, R160: a train that the host creates is given a shared record. -/
theorem takeCreateTrain (cls : Nat) (d : Option Description) : ReserveLaw (takeCreateTrain cls d s).1 := by
  unfold Machine.takeCreateTrain
  (repeat' split)
  · exact law
  · exact law
  · exact law.latch _ _
  · next r found =>
    exact law.updRecord r fun x _ own _ =>
      absurd own (shared_ne_reserve (freeShared_record.mp found).1 x)

theorem takeRetireTrain (n : Nat) : ReserveLaw (takeRetireTrain n s).1 := by
  refine law.withRecord n fun r v => ?_
  split
  · exact law
  · exact law.free r

/-- R143: what the owner of a request does keeps the line reserves. -/
theorem handRequest (i : Instr) : ReserveLaw (handRequest i s).1 := by
  cases i
  case enterService => exact law.takeEnterService
  case restart => exact restartPart
  case accept => exact law.takeAccept _ _
  case offer => exact law.takeOffer _ _
  case tailSeen => exact law.takeTailSeen _
  case outOfSection => exact law.takeOutOfSection _
  case cancelOffer => exact law.takeCancelOffer _
  case setDestination => exact law.takeSetDestination _ _
  case createTrain => exact law.takeCreateTrain _ _
  case retireTrain => exact law.takeRetireTrain _
  case loadTiming v => exact law.inConfig (law.of_eq rfl)
  case loadSlots | loadLever | loadRoute | loadTrack | loadLine | loadCode =>
    refine law.inConfig ?_
    dsimp only
    (repeat' split) <;> exact law.of_eq (by simp)
  case scanStop =>
    simp only [Machine.handRequest, takeScanStop, stopScan]
    (repeat' split) <;> exact law.of_eq (by simp)
  case readLever | readTrack | readRoute | readHold | listHolds | readLine | readCode | readTrain =>
    simp only [Machine.handRequest, atOnce, takeReadLever, takeReadTrack, takeReadRoute, takeReadHold,
      takeListHolds, takeReadLine, takeReadCode, takeReadTrain]
    (repeat' split) <;> exact law
  case loadAttention | scanStart | clearMark | placeBar | removeBar | timedRelease | clearAttention
      | setClock | acknowledge | sendCode | releaseCode | restoreLine =>
    simp only [Machine.handRequest, atOnce, takeLoadAttention, takeScanStart, takeClearMark,
      takePlaceBar, takeRemoveBar, takeTimedRelease, takeClearAttention, takeSetClock,
      takeAcknowledge, takeSendCode, takeReleaseCode, takeRestoreLine]
    (repeat' split) <;> exact law.of_eq (by simp)
  all_goals exact law

/-! ### Events -/

/-- R165: a boundary counts the lapse deadlines down and writes no arrival line. -/
theorem takeBoundary : ReserveLaw (takeBoundary s) := by
  intro x v live
  simp only [Machine.takeBoundary, Fin.getElem_fin, Vector.getElem_map, Option.map_eq_some_iff] at live
  obtain ⟨w, live, rfl⟩ := live
  exact law x w live

/-- R143: what an event does keeps the line reserves. -/
theorem exec_event {i : Instr} {t : State} (event : isEvent i = true) (run : exec i s = .next t) :
    ReserveLaw t := by
  cases i
  case fullReset => cases run; exact of_empty reset_record
  case tick => cases run; exact law.of_eq (by simp [takeTick])
  case tenthBoundary =>
    change execTenthBoundary s = _ at run
    unfold execTenthBoundary at run
    split at run <;> cases run
    · exact law.takeBoundary
    · exact law
  case pickupExpiry => cases run; exact law.expired
  case frameJudge sdi =>
    change execFrameJudge sdi s = _ at run
    unfold execFrameJudge at run
    split at run <;> cases run
    · exact law.judgeFrame _ _
    · exact law
  case codeEnd x =>
    change execCodeEnd x s = _ at run
    unfold execCodeEnd at run
    split at run <;> cases run
    · exact law.endCode _ _
    · exact law
  case instrumentSettling x =>
    change execInstrumentSettling x s = _ at run
    unfold execInstrumentSettling at run
    split at run <;> cases run
    · exact law.settle _ _
    · exact law
  case lapseExpiry r h =>
    change execLapseExpiry r h s = _ at run
    unfold execLapseExpiry at run
    (repeat' split at run) <;> cases run
    · exact law.lapseInbound r
    · exact ((law.dropOutbound r true).retirementCheck r).latchChange r
    · exact law
  case sendCompletion x =>
    change execSendCompletion x s = _ at run
    unfold execSendCompletion at run
    split at run <;> cases run
    · refine law.of_eq ?_
      unfold completeSend takeSendCompleted
      dsimp only
      (repeat' split) <;> simp
    · exact law
  case blankingEnd | repetitionDeadlineExpiry | quietWaitEnd | strokeTimeout | approachExpiry
      | emergencyExpiry =>
    simp only [exec, execBlankingEnd, execRepetitionDeadlineExpiry, execQuietWaitEnd, execStrokeTimeout,
      execApproachExpiry, execEmergencyExpiry] at run
    split at run <;> cases run
    · exact law.of_eq (by simp)
    · exact law
  case frameOpen | closingFrame | closingSync =>
    simp only [exec, execFrameOpen, execClosingFrame, execClosingSync] at run
    split at run <;> cases run
    · exact law.of_eq rfl
    · exact law
  all_goals cases event

end ReserveLaw

/-- Settles O60: every owner's rule and every event gives a line reserve to a train offered on its line
only, and leaves a record its arrival line. -/
theorem stepKeepsTheReserveRecords : Obligations.StepKeepsTheReserveRecords :=
  fun _ _ law run => step_keeps (P := ReserveLaw) (fun _ _ _ _ law => law.of_eq rfl)
    (fun i _ law => law.handRequest i) (fun _ _ _ event law run => law.exec_event event run) law run

end Sys2Proof.Machine

/-! LAPSE_EXPIRY: the half still OFFERED ended, and the retirement check of its record. -/

namespace Sys2Proof.Machine

/-! ### A record written and checked -/

section
variable {s u : State} {r : TrainId} {v : Train} {f : Train → Train}

/-- R161: a record written and then checked: freed if its new value retires, and no other touched. -/
theorem retirementCheck_written (live : s.trt.records[r] = some v) (trt : u.trt = (s.updTrain r f).trt) :
    ((f v).retires = true → (retirementCheck r u).trt.records[r] = none) ∧
    (¬(f v).retires = true → (retirementCheck r u).trt.records[r] = some (f v)) ∧
    (∀ q : TrainId, q ≠ r → (retirementCheck r u).trt.records[q] = s.trt.records[q]) ∧
    (retirementCheck r u).trt.owed = s.trt.owed := by
  obtain ⟨gone, stays⟩ := retirementCheck_record (w := f v) (by rw [trt]; exact updTrain_record live f)
  refine ⟨gone, stays, fun q other => ?_, ?_⟩
  · rw [retirementCheck_other other, trt]
    exact updTrain_other other f
  · simp only [retirementCheck_frame, trt]
    rfl

/-- R145, R168: a change latches TRAIN with its record, and no other source. -/
theorem latchChange_sources (r : TrainId) (s : State) :
    (latchChange r s).au[Source.id .train].pending = true ∧
    (latchChange r s).au[Source.id .train].detail = some (.record r) ∧
    ∀ i : SourceId, i ≠ Source.id .train → (latchChange r s).au[i] = s.au[i] := by
  have latched (u : State) := latch_latched .train (.record r) u
  unfold latchChange
  split
  · exact ⟨(latched _).pending, (latched _).detail,
      fun i ne => ((latched _).others i ne).trans ((latched s).others i ne)⟩
  · exact ⟨(latched s).pending, (latched s).detail, (latched s).others⟩

end

/-! ### The two lapses -/

/-- R159: a record whose inbound half has lapsed. -/
def Train.lapsedIn (t : Train) : Train := { t with inbound := .none, inLapse := none, lapsed := true }

/-- R159: a record whose outbound half has lapsed. -/
def Train.lapsedOut (t : Train) : Train :=
  { t with outbound := .none, outLapse := none, destination := .undecided, lapsed := true }

/-- R161: with its inbound half NONE a record retires by its outbound half. -/
theorem retires_lapsedIn {v : Train} : v.lapsedIn.retires = true ↔
    v.outbound = .cleared ∨ (v.outbound = .none ∧ v.arrivalLine ≠ none) := by
  cases outbound : v.outbound <;>
    simp [Train.retires, Train.lapsedIn, outbound, Inbound.active, Outbound.active,
      Option.isSome_iff_ne_none]

/-- R161: with its outbound half NONE and no destination a record retires if it came from a line and its
inbound half is NONE. -/
theorem retires_lapsedOut {v : Train} :
    v.lapsedOut.retires = true ↔ v.inbound = .none ∧ v.arrivalLine ≠ none := by
  cases inbound : v.inbound <;>
    simp [Train.retires, Train.lapsedOut, inbound, Inbound.active, Outbound.active,
      Option.isSome_iff_ne_none]

section
variable {s : State} {r : TrainId} {v : Train}

/-- R159: the inbound half lapsed and its IN instrument BLOCKED, before the retirement check. -/
def inboundLapsed (r : TrainId) (v : Train) (s : State) : State :=
  match v.arrivalLine with
  | some x => setInstrument x .blocked (s.updTrain r Train.lapsedIn)
  | none => s.updTrain r Train.lapsedIn

theorem inboundLapsed_trt : (inboundLapsed r v s).trt = (s.updTrain r Train.lapsedIn).trt := by
  unfold inboundLapsed
  split
  · simp only [setInstrument_frame]
  · rfl

theorem inboundLapsed_frame : (inboundLapsed r v s).au = s.au ∧
    ∀ x, v.arrivalLine = some x →
      (inboundLapsed r v s).blc = s.blc.set x { s.blc.get x with inInstrument := .blocked } := by
  unfold inboundLapsed
  split
  · next y on =>
    refine ⟨rfl, fun x own => ?_⟩
    cases on.symm.trans own
    rfl
  · next off => exact ⟨rfl, fun x own => absurd (off.symm.trans own) nofun⟩

theorem lapseInbound_live (live : s.trt.records[r] = some v) :
    lapseInbound r s = latchChange r (retirementCheck r (inboundLapsed r v s)) := by
  rw [lapseInbound, live]
  rfl

/-- R159: the outbound half lapsed and the standing of its line given back. -/
def outboundLapsed (r : TrainId) (v : Train) (s : State) : State :=
  match v.destination with
  | .line x => setStanding x .none (s.updTrain r Train.lapsedOut)
  | .undecided => s.updTrain r Train.lapsedOut
  | .localBox => s.updTrain r Train.lapsedOut

theorem dropOutbound_live (live : s.trt.records[r] = some v) :
    dropOutbound r true s = outboundLapsed r v s := by
  have lapses : Train.lapsedOut = fun t : Train => { t with
      outbound := .none, outLapse := none, destination := .undecided, lapsed := t.lapsed || true } := by
    funext t
    simp only [Train.lapsedOut, Bool.or_true]
  rw [dropOutbound, live, ← lapses]
  rfl

theorem dropOutbound_trt (live : s.trt.records[r] = some v) :
    (dropOutbound r true s).trt = (s.updTrain r Train.lapsedOut).trt := by
  rw [dropOutbound_live live, outboundLapsed]
  split
  · simp only [setStanding_frame]
  · rfl
  · rfl

/-- R136: with the block hold live and the block condition not met, a re-judgement changes nothing. -/
theorem rejudge_held {x : Line} (fails : ¬(s.blc.get x).blockCondition = true)
    (held : s.ht[blockEntry x] ≠ none) : rejudge x s = s := by
  obtain ⟨hold, live⟩ := Option.ne_none_iff_exists'.mp held
  rcases rejudge_cases x s with ⟨-, same⟩ | ⟨-, met, -⟩ | ⟨-, -, ensured⟩
  · exact same
  · exact absurd met fails
  · rw [ensured, ensureBlock, live]

/-- R135, R136: an outbound lapse gives the standing of its line back, under which the block hold
stands. -/
theorem dropOutbound_standing {x : Line} (live : s.trt.records[r] = some v)
    (on : v.destination = .line x) :
    (dropOutbound r true s).blc = s.blc.set x { s.blc.get x with standing := .none } ∧
    (s.ht[blockEntry x] ≠ none → (dropOutbound r true s).ht = s.ht) := by
  rw [dropOutbound_live live, outboundLapsed, on]
  dsimp only
  refine ⟨by simp only [setStanding, rejudge_frame, State.updLine_blc, State.updTrain_blc], fun held => ?_⟩
  have fails : ¬({ s.blc.get x with standing := .none } : BlockLine).blockCondition = true := by
    rw [blockCondition_iff]
    rintro ⟨-, -, -, accepted⟩
    cases accepted
  have same := rejudge_held (s := (s.updTrain r Train.lapsedOut).updLine x fun b =>
    { b with standing := .none }) (by rwa [State.updLine_blc, PerLine.get_set_self]) held
  exact (congrArg State.ht same :)

end

/-- Settles O39: the inbound lapse, then the outbound lapse. -/
theorem lapseEndsTheOfferedHalf : Obligations.LapseEndsTheOfferedHalf := by
  refine fun s r v live => ⟨fun due offered => ?inbound, fun due offered => ?outbound⟩
  case inbound =>
    have lapses : exec (.lapseExpiry r .inbound) s = .next (lapseInbound r s) :=
      if_pos (by simp [lapseDue, live, due, offered])
    have written := retirementCheck_written live (inboundLapsed_trt (r := r) (v := v) (s := s))
    obtain ⟨pending, detail, sources⟩ :=
      latchChange_sources r (retirementCheck r (inboundLapsed r v s))
    obtain ⟨au, blc⟩ := inboundLapsed_frame (r := r) (v := v) (s := s)
    have whole := lapseInbound_live live
    rw [retires_lapsedIn] at written
    obtain ⟨gone, stays, others, owed⟩ := written
    refine ⟨_, lapses, ?_, ?_, ?_, ?_, ?_, ?_, ?_, ?_, by simp only [lapseInbound_frame]⟩ <;>
      rw [whole]
    · simpa only [latchChange_frame] using gone
    · simp only [latchChange_frame]; exact stays
    · simpa only [latchChange_frame] using others
    · simpa only [latchChange_frame] using owed
    · simpa only [latchChange_frame, retirementCheck_frame] using blc
    · exact pending
    · exact detail
    · simpa only [retirementCheck_frame, au] using sources
  case outbound =>
    have lapses : exec (.lapseExpiry r .outbound) s =
        .next (latchChange r (retirementCheck r (dropOutbound r true s))) :=
      if_pos (by simp [lapseDue, live, due, offered])
    have written := retirementCheck_written live (dropOutbound_trt live)
    obtain ⟨pending, detail, sources⟩ :=
      latchChange_sources r (retirementCheck r (dropOutbound r true s))
    rw [retires_lapsedOut] at written
    obtain ⟨gone, stays, others, owed⟩ := written
    refine ⟨_, lapses, ?_, ?_, ?_, ?_, fun x on => ?_, pending, detail, ?_, ?_⟩
    · simpa only [latchChange_frame] using gone
    · simp only [latchChange_frame]; exact stays
    · simpa only [latchChange_frame] using others
    · simpa only [latchChange_frame] using owed
    · simpa only [latchChange_frame, retirementCheck_frame] using dropOutbound_standing live on
    · simpa only [retirementCheck_frame, dropOutbound_frame] using sources
    · simp only [latchChange_frame, retirementCheck_frame, dropOutbound_frame]

end Sys2Proof.Machine

/-! CREATE_TRAIN, SET_DESTINATION and RETIRE_TRAIN: the trains of the host. -/

namespace Sys2Proof.Machine

/-! ### CREATE_TRAIN -/

section
variable {s : State} {n : Nat} {d : Option Description}

theorem takeCreateTrain_config (config : s.device = .config) : takeCreateTrain n d s = (s, .state) :=
  if_pos config

variable (service : s.device = .service)
include service

theorem takeCreateTrain_class (out : n = 0 ∨ 15 < n) :
    takeCreateTrain n d s = (s, .badArgument 1) := by
  rw [takeCreateTrain, if_neg (by simp [service]), if_pos (by omega)]

variable (low : 1 ≤ n) (high : n ≤ 15)
include low high

/-- R143: with no shared record free POOL is latched. -/
theorem takeCreateTrain_full (full : ∀ r : TrainId, r.val < 9 → s.trt.records[r] ≠ none) :
    takeCreateTrain n d s = (latch .pool .host s, .pool) := by
  have none_ : s.trt.freeShared = none := by
    refine Option.eq_none_iff_forall_ne_some.mpr fun r found => ?_
    obtain ⟨shared, free, -⟩ := freeShared_record.mp found
    exact full r shared free
  rw [takeCreateTrain, if_neg (by simp [service]), if_neg (by omega), none_]

/-- R143, R160: the lowest free shared record is given to the train. -/
theorem takeCreateTrain_created {r : TrainId} (shared : r.val < 9) (free : s.trt.records[r] = none)
    (lowest_ : ∀ q : TrainId, q.val < r.val → s.trt.records[q] ≠ none) :
    takeCreateTrain n d s =
      (s.updRecord r (some (Train.fresh n d)), .done [BitVec.ofNat 8 (r.val + 1)]) := by
  rw [takeCreateTrain, if_neg (by simp [service]), if_neg (by omega),
    freeShared_record.mpr ⟨shared, free, lowest_⟩]
  rfl

end

/-! ### SET_DESTINATION -/

/-- R160: a record with its destination set by the host. -/
def Train.bound (d : Destination) (t : Train) : Train := { t with destination := d }

/-- R161: a record with its outbound half NONE retires if its train has come to the local box, or was
withdrawn on the line that it came from. -/
theorem retires_bound {v : Train} {d : Destination} (idle : v.outbound = .none) :
    (v.bound d).retires = true ↔
      (d = .localBox ∧ v.inbound = .cleared) ∨ (v.inbound = .none ∧ v.arrivalLine ≠ none) := by
  cases inbound : v.inbound <;>
    simp [Train.retires, Train.bound, idle, inbound, Inbound.active, Outbound.active,
      Option.isSome_iff_ne_none]

section
variable {s : State} {r : TrainId} {v : Train} {d : Nat}

theorem freeDestinationOf_low (low : d ≤ 1) :
    freeDestinationOf d = some (if d = 1 then .localBox else .undecided) := by
  interval_cases d <;> rfl

theorem freeDestinationOf_high (high : 1 < d) : freeDestinationOf d = none := by
  obtain ⟨k, rfl⟩ := Nat.exists_eq_add_of_lt high
  unfold freeDestinationOf
  split <;> first | omega | rfl

theorem takeSetDestination_config (config : s.device = .config) (n : Nat) :
    takeSetDestination n d s = (s, .state) := if_pos config

variable (service : s.device = .service)
include service

theorem takeSetDestination_range {n : Nat} (out : n = 0 ∨ 12 < n) :
    takeSetDestination n d s = (s, .badArgument 1) := by
  rw [takeSetDestination, if_neg (by simp [service]), trainOf_eq_none.mpr out]

theorem takeSetDestination_destination (high : 1 < d) :
    takeSetDestination (r.val + 1) d s = (s, .badArgument 2) := by
  rw [takeSetDestination, if_neg (by simp [service]), trainOf_inverse.eq r,
    freeDestinationOf_high high]

variable (low : d ≤ 1)
include low

theorem takeSetDestination_free (free : s.trt.records[r] = none) :
    takeSetDestination (r.val + 1) d s = (s, .noRecord) := by
  rw [takeSetDestination, if_neg (by simp [service]), trainOf_inverse.eq r,
    freeDestinationOf_low low]
  dsimp only
  rw [free]

variable (live : s.trt.records[r] = some v)
include live

theorem takeSetDestination_busy (busy : v.outbound ≠ .none) :
    takeSetDestination (r.val + 1) d s = (s, .state) := by
  rw [takeSetDestination, if_neg (by simp [service]), trainOf_inverse.eq r,
    freeDestinationOf_low low]
  dsimp only
  rw [live]
  exact if_pos busy

/-- R160: the destination set, the retirement check, and the byte that says what it found. -/
theorem takeSetDestination_set (idle : v.outbound = .none) :
    takeSetDestination (r.val + 1) d s =
      (retirementCheck r (s.updTrain r (Train.bound (if d = 1 then .localBox else .undecided))),
        .done [if (retirementCheck r (s.updTrain r
          (Train.bound (if d = 1 then .localBox else .undecided)))).trt.records[r] = none
          then 1 else 0]) := by
  rw [takeSetDestination, if_neg (by simp [service]), trainOf_inverse.eq r,
    freeDestinationOf_low low]
  dsimp only
  rw [live]
  dsimp only
  rw [if_neg (by simp [idle]), ← recordFree_byte]
  rfl

end

/-! ### RETIRE_TRAIN -/

section
variable {s : State} {r : TrainId} {v : Train} (service : s.device = .service)
  (live : s.trt.records[r] = some v)
include service live

theorem takeRetireTrain_active (active : v.inbound.active = true ∨ v.outbound.active = true) :
    takeRetireTrain (r.val + 1) s = (s, .state) := by
  rw [takeRetireTrain, withRecord_live service live]
  exact if_pos (by simpa using active)

theorem takeRetireTrain_idle (inbound : v.inbound.active = false) (outbound : v.outbound.active = false) :
    takeRetireTrain (r.val + 1) s = (s.updRecord r none, .ok) := by
  rw [takeRetireTrain, withRecord_live service live]
  exact if_neg (by simp [inbound, outbound])

end

/-- R142: a half is not active when it is NONE or CLEARED. -/
theorem Inbound.idle_of {st : Inbound} (idle : st = .none ∨ st = .cleared) : st.active = false := by
  rcases idle with rfl | rfl <;> rfl

theorem Outbound.idle_of {st : Outbound} (idle : st = .none ∨ st = .cleared) : st.active = false := by
  rcases idle with rfl | rfl <;> rfl

/-- Settles O40: each request with its refusals in order, then what it does. -/
theorem localTrainsAreCreatedDirectedAndRetired :
    Obligations.LocalTrainsAreCreatedDirectedAndRetired := by
  refine fun s free => ⟨fun config => ⟨fun n d => serve_eq free (takeCreateTrain_config config),
    fun n d => serve_eq free (takeSetDestination_config config n),
    fun n => serve_eq free (withRecord_config config n)⟩, fun service =>
    ⟨fun n d out => serve_eq free (takeCreateTrain_class service out),
      fun n d low high => ⟨fun full => ?full, fun r shared empty lowest_ => ?created⟩,
      fun n d out => ⟨serve_eq free (takeSetDestination_range service out),
        serve_eq free (withRecord_range service out)⟩,
      fun r => ⟨fun d high => serve_eq free (takeSetDestination_destination service high),
        fun empty => ⟨fun d low => serve_eq free (takeSetDestination_free service low empty),
          serve_eq free (withRecord_free service empty)⟩,
        fun v live => ⟨fun d low busy =>
            serve_eq free (takeSetDestination_busy service low live busy),
          fun d low idle => ?set, fun active => ?active, fun inbound outbound => ?retired⟩⟩⟩⟩
  case full =>
    exact ⟨_, serve_eq free (takeCreateTrain_full service low high full),
      (latch_latched .pool .host s).of_au rfl, rfl⟩
  case created =>
    exact ⟨_, serve_eq free (takeCreateTrain_created service low high shared empty lowest_),
      updRecord_own s r _, fun q other => updRecord_other s r other _, rfl, rfl⟩
  case set =>
    obtain ⟨gone, stays, others, owed⟩ := retirementCheck_written live
      (f := Train.bound (if d = 1 then .localBox else .undecided)) rfl
    have bound : ((if d = 1 then Destination.localBox else .undecided) = .localBox) ↔ d = 1 := by
      split <;> simp [*]
    rw [retires_bound idle, bound] at gone stays
    refine ⟨_, serve_eq free (takeSetDestination_set service low live idle), gone, stays, others, owed, ?_⟩
    simp only [State.holding, retirementCheck_frame]
    rfl
  case active =>
    refine serve_eq free (takeRetireTrain_active service live ?_)
    rw [Inbound.active_iff, Outbound.active_iff]
    tauto
  case retired =>
    exact ⟨_, serve_eq free (takeRetireTrain_idle service live (Inbound.idle_of inbound)
        (Outbound.idle_of outbound)),
      updRecord_own s r none, fun q other => updRecord_other s r other none, rfl, rfl⟩

end Sys2Proof.Machine

/-! READ_TRAIN and LIST_TRAINS: the train record byte by byte, and the live records in ascending order. -/

namespace Sys2Proof.Machine

/-! ### The fields of a train record -/

/-- R187: three flags, and six, in one byte. -/
theorem bitsByte_three (a b c : Bool) :
    bitsByte [a, b, c] = BitVec.ofNat 8 (a.toNat + 2 * b.toNat + 4 * c.toNat) := by
  simp only [bitsByte, List.foldr]
  congr 1
  omega

theorem bitsByte_six (a b c d e f : Bool) : bitsByte [a, b, c, d, e, f] =
    BitVec.ofNat 8 (a.toNat + 2 * b.toNat + 4 * c.toNat + 8 * d.toNat + 16 * e.toNat +
      32 * f.toNat) := by
  simp only [bitsByte, List.foldr]
  congr 1
  omega

theorem inboundNo_byte (st : Inbound) : bytesOne (inboundNo st) = [match st with
    | .none => 0 | .offered => 1 | .accepted => 2 | .inSection => 3 | .arrived => 4
    | .cleared => 5] := by
  cases st <;> rfl

theorem outboundNo_byte (st : Outbound) : bytesOne (outboundNo st) = [match st with
    | .none => 0 | .offered => 1 | .accepted => 2 | .inSection => 3 | .cleared => 5] := by
  cases st <;> rfl

theorem destinationNo_byte (d : Destination) : bytesOne (destinationNo d) = [match d with
    | .undecided => 0 | .localBox => 1 | .line .a => 2 | .line .b => 3 | .line .c => 4] := by
  cases d with
  | undecided => rfl
  | localBox => rfl
  | line x => cases x <;> rfl

/-- R194: the line a train came from, 255 for a train of the host. -/
theorem arrivalLine_byte (line : Option Line) : orAbsent (line.map lineNo) = [match line with
    | some .a => 0 | some .b => 1 | some .c => 2 | none => 255] := by
  cases line with
  | none => rfl
  | some x => cases x <;> rfl

section
variable (s : State) (pos : Nat)

/-- R194: a description in four bytes, whose values are free where there is none. -/
theorem descriptionBytes_spec (d : Option Description) : (s.descriptionBytes d).length = 4 ∧
    ∀ e, d = some e → s.descriptionBytes d = [e.c1, e.c2, e.c3, e.c4] := by
  cases d with
  | none => exact ⟨fill_length s 2 4, nofun⟩
  | some e => exact ⟨rfl, fun _ same => by cases same; rfl⟩

theorem stampBytes_length (stamp : Option Clock) : (s.stampBytes pos stamp).length = 3 := by
  cases stamp with
  | none => exact fill_length s pos 3
  | some c => rfl

theorem stampBytes_present {stamp : Option Clock} {c : Clock} (present : stamp = some c) :
    s.stampBytes pos stamp = bytesThree c.toNat := by
  rw [present]
  rfl

/-- R187: a pattern in its fixed field: the count, the groups, and free bytes up to six groups. -/
theorem patternBytes_eq (groups : List Nat) : s.patternBytes pos groups =
    BitVec.ofNat 8 groups.length :: (groups.map (BitVec.ofNat 8) ++
      s.fill (pos + 1 + groups.length) (6 - groups.length)) := by
  rw [State.patternBytes, ← patternList, patternList_bytes, List.cons_append]

end

/-! ### READ_TRAIN -/

section
variable {s : State} {r : TrainId}

theorem takeReadTrain_live {v : Train} (live : s.trt.records[r] = some v) :
    takeReadTrain (r.val + 1) s = (s, .done (s.trainData r v)) := by
  rw [takeReadTrain, trainOf_inverse.eq r]
  dsimp only
  rw [live]

theorem takeReadTrain_free (empty : s.trt.records[r] = none) :
    takeReadTrain (r.val + 1) s = (s, .noRecord) := by
  rw [takeReadTrain, trainOf_inverse.eq r]
  dsimp only
  rw [empty]

theorem takeReadTrain_range {n : Nat} (out : n = 0 ∨ 12 < n) :
    takeReadTrain n s = (s, .badArgument 1) := by
  rw [takeReadTrain, trainOf_eq_none.mpr out]

end

/-- R194: the six stamps of a record as they stand in the reply, in the order of the layout. -/
def stampField (s : State) (t : TrainStamps) : Fin 6 → List Byte :=
  ![s.stampBytes 12 t.offeredIn, s.stampBytes 15 t.enteredIn, s.stampBytes 18 t.arrived,
    s.stampBytes 21 t.offeredOut, s.stampBytes 24 t.enteredOut, s.stampBytes 27 t.clearedOut]

theorem stampField_length (s : State) (t : TrainStamps) (i : Fin 6) : (stampField s t i).length = 3 := by
  fin_cases i <;> exact stampBytes_length s _ _

/-! ### LIST_TRAINS -/

section
variable {t : TrainTable}

/-- R143: the free shared records, listed once each, are as many as the shared count. -/
theorem sharedCount_eq {free : List TrainId} (once : free.Nodup)
    (listed : ∀ r, r ∈ free ↔ r.val < 9 ∧ t.records[r] = none) : t.sharedCount = free.length := by
  rw [TrainTable.sharedCount, countOf, List.countP_eq_length_filter]
  refine List.Perm.length_eq ((List.perm_ext_iff_of_nodup
    ((List.nodup_finRange 12).filter _) once).mpr fun r => ?_)
  rw [List.mem_filter, listed]
  simp [-Fin.getElem_fin]

variable {live : List TrainId}

/-- The live records in ascending order are one list only. -/
theorem live_eq_filter (ascending : live.Pairwise fun i j => i.val < j.val)
    (listed : ∀ r, r ∈ live ↔ t.records[r] ≠ none) :
    live = (List.finRange 12).filter fun r => t.records[r].isSome := by
  have order : ((List.finRange 12).filter fun r => t.records[r].isSome).Pairwise
      fun i j => i.val < j.val := (List.pairwise_lt_finRange 12).filter _
  have once (l : List TrainId) (up : l.Pairwise fun i j => i.val < j.val) : l.Nodup :=
    up.imp fun below same => absurd (congrArg Fin.val same) (Nat.ne_of_lt below)
  refine List.Perm.eq_of_pairwise (fun i j _ _ below above => absurd below (Nat.lt_asymm above))
    ascending order ((List.perm_ext_iff_of_nodup (once _ ascending) (once _ order)).mpr fun r => ?_)
  rw [listed, List.mem_filter]
  simp [-Fin.getElem_fin, Option.isSome_iff_ne_none]

/-- R162: the records that LIST_TRAINS answers are the live ones. -/
theorem live_eq (ascending : live.Pairwise fun i j => i.val < j.val)
    (listed : ∀ r, r ∈ live ↔ t.records[r] ≠ none) :
    t.live = live.filterMap fun r => t.records[r].map fun v => (r, v) := by
  rw [live_eq_filter ascending listed, List.filterMap_filter, TrainTable.live]
  congr 1
  funext r
  cases record : t.records[r] <;> simp

theorem live_length (ascending : live.Pairwise fun i j => i.val < j.val)
    (listed : ∀ r, r ∈ live ↔ t.records[r] ≠ none) : t.live.length = live.length := by
  rw [live_eq ascending listed, List.filterMap_length_eq_length]
  intro r there
  rw [Option.isSome_map, Option.isSome_iff_ne_none]
  exact (listed r).mp there

/-- R190: the elements of LIST_TRAINS, record by record. -/
theorem live_elements (f : TrainId → Train → List Byte)
    (ascending : live.Pairwise fun i j => i.val < j.val)
    (listed : ∀ r, r ∈ live ↔ t.records[r] ≠ none) :
    (t.live.flatMap fun e => f e.1 e.2) = live.flatMap fun r => (t.records[r].map (f r)).getD [] := by
  rw [live_eq ascending listed]
  clear ascending listed
  induction live with
  | nil => rfl
  | cons r live ih =>
    rw [List.flatMap_cons, ← ih, List.filterMap_cons]
    cases t.records[r] <;> rfl

end

/-- R190: one element of LIST_TRAINS. -/
theorem trainElement_bytes (r : TrainId) (v : Train) : trainElement r v =
    [BitVec.ofNat 8 (r.val + 1),
      match v.inbound with
        | .none => 0 | .offered => 1 | .accepted => 2 | .inSection => 3 | .arrived => 4
        | .cleared => 5,
      match v.outbound with
        | .none => 0 | .offered => 1 | .accepted => 2 | .inSection => 3 | .cleared => 5,
      match v.arrivalLine with
        | some .a => 0 | some .b => 1 | some .c => 2 | none => 255,
      match v.destination with
        | .undecided => 0 | .localBox => 1 | .line .a => 2 | .line .b => 3 | .line .c => 4] := by
  rw [trainElement, inboundNo_byte, outboundNo_byte, arrivalLine_byte, destinationNo_byte]
  rfl

/-- Settles O31: the record of a train field by field, and the list of the live records. -/
theorem trainRecordsAreReadAndListed : Obligations.TrainRecordsAreReadAndListed := by
  refine ⟨fun s free => ⟨fun r v live => ?record,
    fun r empty => serve_eq free (takeReadTrain_free empty),
    fun n out => serve_eq free (takeReadTrain_range out)⟩,
    fun s live shared free ascending listed once counted => ?list⟩
  case record =>
    obtain ⟨nameLength, name⟩ := descriptionBytes_spec s v.description
    refine ⟨_, stampField s v.stamps, _, nameLength, name, stampField_length s v.stamps,
      fun c => stampBytes_present s 12, fun c => stampBytes_present s 15,
      fun c => stampBytes_present s 18, fun c => stampBytes_present s 21,
      fun c => stampBytes_present s 24, fun c => stampBytes_present s 27,
      ⟨_, rfl, fill_length s (34 + 1 + (v.offerHeard.getD []).length) _⟩, ?_⟩
    have data := serve_eq (n := 40) free (takeReadTrain_live live)
    rw [State.trainData, arrivalLine_byte, inboundNo_byte, outboundNo_byte, destinationNo_byte,
      bitsByte_six, TrainStamps.presence, bitsByte_six, shownTimer_eq, shownTimer_eq,
      patternBytes_eq, State.trainStamps] at data
    simp only [List.append_assoc, List.cons_append, List.nil_append] at data ⊢
    exact data
  case list =>
    have data := serve_eq (n := 41) (r := .done _) free (show takeListTrains s = _ from rfl)
    rw [sharedCount_eq once counted, State.reserveBits, bitsByte_three, listBytes,
      live_length ascending listed, live_elements trainElement ascending listed] at data
    have each : (fun r => (s.trt.records[r].map (trainElement r)).getD []) =
        fun r : TrainId => match s.trt.records[r] with
          | none => []
          | some v => trainElement r v := by
      funext r
      cases s.trt.records[r] <;> rfl
    rw [each] at data
    simp only [trainElement_bytes] at data
    exact data

end Sys2Proof.Machine

/-! The halves of a line over the track events: what the work on circuits, levers and routes, and the
events of the other lines and circuits, leave of them. -/

namespace Sys2Proof.Machine

/-! ### What leaves the lines and the trains alone -/

/-- Between two states the configuration, the time and the device state stay, and no latched source is
cleared. -/
structure Onward (s t : State) : Prop where
  cfg : t.cfg = s.cfg
  tb : t.tb = s.tb
  device : t.device = s.device
  pending : ∀ i : SourceId, s.au[i].pending = true → t.au[i].pending = true

namespace Onward

theorem of_eq {s t : State} (cfg : t.cfg = s.cfg) (tb : t.tb = s.tb) (device : t.device = s.device)
    (au : t.au = s.au) : Onward s t := ⟨cfg, tb, device, fun i set => by rw [au]; exact set⟩

theorem refl (s : State) : Onward s s := ⟨rfl, rfl, rfl, fun _ set => set⟩

theorem trans {s t u : State} (a : Onward s t) (b : Onward t u) : Onward s u :=
  ⟨b.cfg.trans a.cfg, b.tb.trans a.tb, b.device.trans a.device, fun i set => b.pending i (a.pending i set)⟩

theorem latch (src : Source) (d : Detail) (s : State) : Onward s (latch src d s) := by
  have latched := latch_latched src d s
  refine ⟨by simp, by simp, by simp, fun i set => ?_⟩
  by_cases own : i = src.id
  · subst own; exact latched.pending
  · rw [latched.others i own]; exact set

end Onward

/-- The work on circuits, levers and routes: the trains, the lines and the Bell Units stay, and with them
every hold but those of routes, which take no block entry. -/
structure RouteWork (s t : State) : Prop extends Onward s t where
  trt : t.trt = s.trt
  blc : t.blc = s.blc
  bu : t.bu = s.bu
  holds : ∀ (h : HoldId) (hold : Hold), (∀ l c, hold.kind ≠ .route l c) →
    (t.ht[h] = some hold ↔ s.ht[h] = some hold)
  free : ∀ x, s.ht[blockEntry x] = none → t.ht[blockEntry x] = none

namespace RouteWork

/-- Work that leaves the Hold Table too. -/
theorem of_eq {s t : State} (onward : Onward s t) (trt : t.trt = s.trt) (blc : t.blc = s.blc)
    (bu : t.bu = s.bu) (ht : t.ht = s.ht) : RouteWork s t :=
  ⟨onward, trt, blc, bu, fun h hold _ => by rw [ht], fun x free => by rw [ht]; exact free⟩

theorem refl (s : State) : RouteWork s s := of_eq (.refl s) rfl rfl rfl rfl

theorem trans {s t u : State} (a : RouteWork s t) (b : RouteWork t u) : RouteWork s u where
  toOnward := a.toOnward.trans b.toOnward
  trt := b.trt.trans a.trt
  blc := b.blc.trans a.blc
  bu := b.bu.trans a.bu
  holds h hold other := (b.holds h hold other).trans (a.holds h hold other)
  free x empty := b.free x (a.free x empty)

/-- R71: a retirement of route holds. -/
theorem retireWhere {p : Hold → Bool} (s : State)
    (routes : ∀ hold, p hold = true → ∃ l c, hold.kind = .route l c) :
    RouteWork s (retireWhere p s) := by
  refine ⟨.of_eq ?_ ?_ ?_ ?_, ?_, ?_, ?_, fun h hold other => ?_, fun x => retireWhere_free⟩
  case refine_8 =>
    have kept : p hold = false := Bool.eq_false_iff.mpr fun match_ => by
      obtain ⟨l, c, kind⟩ := routes hold match_
      exact other l c kind
    simp only [retireWhere_live, kept, and_true]
  all_goals simp

/-- R67: the group of a route is written into free shared entries. -/
theorem createGroup (l : LeverId) (cfg : RouteConfig) (who : Detail) (s : State) :
    RouteWork s (createGroup (routeGroup l cfg) who s).2 := by
  rcases createGroup_cases (routeGroup l cfg) who s with ⟨-, e⟩ | ⟨-, -, e⟩ | ⟨-, -, e⟩ <;> rw [e]
  · exact refl s
  · have given : ∀ g ∈ ((freeShared s.ht).take (routeGroup l cfg).length).zip (routeGroup l cfg),
        (g.1.val < 64 ∧ s.ht[g.1] = none) ∧ ∃ c, g.2.kind = .route l c := by
      intro g m
      obtain ⟨number, entry⟩ := List.of_mem_zip m
      obtain ⟨p, -, same⟩ := List.mem_map.mp entry
      exact ⟨mem_freeShared.mp (List.mem_of_mem_take number), p.circuit, by rw [← same]⟩
    refine ⟨.of_eq rfl rfl rfl rfl, rfl, rfl, rfl, fun h hold other => ?_, fun x empty => ?_⟩
    · rcases writeGroup_entry s.tb.clock _ s.ht h with kept | ⟨g, m, rfl, created⟩
      · dsimp only
        rw [kept]
      · obtain ⟨⟨-, empty⟩, c, kind⟩ := given g m
        dsimp only
        rw [created, empty]
        simp only [Option.some.injEq, reduceCtorEq, iff_false]
        rintro rfl
        exact other l c kind
    · refine (writeGroup_outside _ _ _ fun g m same => ?_).trans empty
      obtain ⟨⟨low, -⟩, -⟩ := given g m
      rw [same] at low
      exact absurd low (Nat.not_lt.mpr (blockEntry_val x).1)
  · exact of_eq (.latch _ _ _) (by simp) (by simp) (by simp) (by simp)

/-- The writers of the work on levers and routes. -/
theorem keeps (s : State) : WorkKeeps (RouteWork s) where
  lever _ _ _ work := work.trans (of_eq (.of_eq rfl rfl rfl rfl) rfl rfl rfl rfl)
  route _ _ _ work := work.trans (of_eq (.of_eq rfl rfl rfl rfl) rfl rfl rfl rfl)
  mark _ _ work := work.trans (of_eq (.of_eq rfl rfl rfl rfl) rfl rfl rfl rfl)
  bus _ _ work := work.trans (of_eq (.of_eq rfl rfl rfl rfl) rfl rfl rfl rfl)
  latched _ _ _ work :=
    work.trans (of_eq (.latch _ _ _) (by simp) (by simp) (by simp) (by simp))
  group _ _ _ _ work := work.trans (createGroup _ _ _ _)
  whole l _ work := work.trans (retireWhere _ fun _ owned =>
    ⟨l, ownedByRoute_iff.mp owned⟩)
  circuit l c _ work := work.trans (retireWhere _ fun _ owned => ⟨l, c, protectedBy_iff.mp owned⟩)

theorem routeOccupation (c : TrackId) (s : State) : RouteWork s (routeOccupation c s) :=
  (keeps s).routeOccupation (refl s) c

theorem releasePasses (s : State) : RouteWork s (releasePasses s) := (keeps s).releasePasses (refl s)

theorem takeLeverPart (m : Continuity) (s : State) : RouteWork s (takeLeverPart m s) :=
  (keeps s).takeLeverPart (refl s) m

/-- R22, R27, R29: the circuits moved, checked and shown. -/
theorem tracked (s : State) : RouteWork s (tracked s) := by
  have checked : Onward (stepCircuits s) (neighbourChecks s (stepCircuits s)) := by
    refine forEach_keeps (fun c u onward => ?_) _ (.refl _)
    split
    · exact onward.trans (.trans (t := u.updTrack c fun r => { r with fault := true })
        (.of_eq rfl rfl rfl rfl) (.latch _ _ _))
    · exact onward
  have moved : Onward s (stepCircuits s) := .of_eq (by simp) (by simp) (by simp) (by simp)
  have shown (u : State) : Onward u (writeLamps u) := .of_eq (by simp) (by simp) (by simp) (by simp)
  refine of_eq ((moved.trans checked).trans (shown _)) ?_ ?_ ?_ ?_ <;> simp [Machine.tracked]

theorem clearDue (s : State) : RouteWork s (clearDue s) :=
  of_eq (.of_eq (by simp) (by simp) (by simp) (by simp)) (by simp) (by simp) (by simp) (by simp)

/-- R9, R14: a good frame taken in, before its arrival. -/
theorem arrived (f : Frame) (sdi : BitVec 192) (s : State) : RouteWork s (arrived f sdi s) :=
  of_eq (.of_eq rfl rfl rfl rfl) rfl rfl rfl rfl

end RouteWork

/-! ### One turn of the track events -/

/-- In a pass over the lines whose other turns keep a relation, the turn of a line finds a state related to
the first one and leaves one that the last is related to. -/
theorem forEachLine_turn {σ : Type} {f : Line → σ → σ} {R : σ → σ → Prop} (refl : ∀ s, R s s)
    (trans : ∀ {a b c}, R a b → R b c → R a c) (x : Line)
    (others : ∀ y s, y ≠ x → R s (f y s)) (s : σ) :
    ∃ u, R s u ∧ R (f x u) (forEachLine f s) := by
  cases x
  · exact ⟨s, refl s, trans (others .b _ nofun) (others .c _ nofun)⟩
  · exact ⟨f .a s, others .a s nofun, others .c _ nofun⟩
  · exact ⟨f .b (f .a s), trans (others .a s nofun) (others .b _ nofun), refl _⟩

/-- R152: an occupation of circuit `c` as the section entry of line `x` takes it. -/
def lineEntered (c : TrackId) (x : Line) (s : State) : State :=
  if (s.cfg.lines.get x).entryCircuit = some c then entryOccupied x c s else s

/-- R152, R154: an occupation of circuit `c` as line `x` takes it. -/
def lineOccupied (c : TrackId) (x : Line) (s : State) : State :=
  if ((lineEntered c x s).cfg.lines.get x).berth = some c then berthOccupied x c (lineEntered c x s)
  else lineEntered c x s

/-- R155: a clearance of circuit `c` as line `x` takes it. -/
def lineCleared (c : TrackId) (x : Line) (s : State) : State :=
  if (s.cfg.lines.get x).berth = some c then berthCleared x s else s

section
variable {R : State → State → Prop} (refl : ∀ s, R s s) (trans : ∀ {a b c}, R a b → R b c → R a c)
  (work : ∀ {a b}, RouteWork a b → R a b)
include refl trans work

/-- R32: of the occupation events of an arrival, the one of a dropped circuit on one line, between work
that keeps a relation. -/
theorem arrival_occupation {x : Line} {c : TrackId} (m : Continuity) {s : State}
    (others : ∀ d y u, (y = x → d ≠ c) → R u (lineOccupied d y u)) (service : s.device = .service)
    (drops : s.tcm[c].state = .clear ∧ (deliverArrival m s).tcm[c].state = .occupied) :
    ∃ u, R s u ∧ R (lineOccupied c x u) (deliverArrival m s) := by
  obtain ⟨v, before, after⟩ := forEach_turn (R := R) refl trans c (f := fun d u =>
      if s.tcm[d].state = .clear ∧ (deliverArrival m s).tcm[d].state = .occupied then
        trainOccupation d (routeOccupation d u) else u) (fun d u ne => by
    split
    · exact forEachLine_keeps (P := R u) (fun y w kept => trans kept (others d y w fun _ => ne)) _
        (work (.routeOccupation d u))
    · exact refl u) (tracked s)
  obtain ⟨w, ahead, behind⟩ := forEachLine_turn (R := R) refl trans x (f := lineOccupied c)
    (fun y u ne => others c y u fun own => absurd own ne) (routeOccupation c v)
  refine ⟨w, trans (work (.tracked s)) (trans before (trans (work (.routeOccupation c v)) ahead)), ?_⟩
  rw [if_pos drops, ← takeTrackPart_service m s service] at after
  exact trans behind (trans after (work (.takeLeverPart m _)))

/-- R33: of the clearance events of a pickup expiry, the one of a due circuit on one line. -/
theorem expiry_clearance {x : Line} {c : TrackId} {s : State}
    (others : ∀ d y u, (y = x → d ≠ c) → R u (lineCleared d y u)) (service : s.device = .service)
    (due : s.tcm[c].timer = some 0 ∧ s.tcm[c].state = .pickupTiming) :
    ∃ u, R s u ∧ R (lineCleared c x u) (expired s) := by
  obtain ⟨v, before, after⟩ := forEach_turn (R := R) refl trans c (f := fun d u =>
      if s.tcm[d].timer = some 0 ∧ s.tcm[d].state = .pickupTiming then
        trainClearance d (releasePasses u) else u) (fun d u ne => by
    split
    · exact forEachLine_keeps (P := R u) (fun y w kept => trans kept (others d y w fun _ => ne)) _
        (work (.releasePasses u))
    · exact refl u) (clearDue s)
  obtain ⟨w, ahead, behind⟩ := forEachLine_turn (R := R) refl trans x (f := lineCleared c)
    (fun y u ne => others c y u fun own => absurd own ne) (releasePasses v)
  refine ⟨w, trans (work (.clearDue s)) (trans before (trans (work (.releasePasses v)) ahead)), ?_⟩
  rw [if_pos due, ← expired_service service] at after
  exact trans behind after

end

end Sys2Proof.Machine
/-! The two halves of a line: what is read of the records for each, and what the events of other lines and
circuits leave of it. -/

namespace Sys2Proof.Machine

/-! ### The sides of a record -/

/-- R152: the outbound side of a record: the record without what its inbound half writes. -/
def Train.outboundFace (t : Train) : Train :=
  { t with
    inbound := .none, tailSeen := false, berthSeen := false, unannounced := false, inLapse := none
    stamps := { t.stamps with offeredIn := none, enteredIn := none, arrived := none } }

/-- R154: the inbound side of a record: the record without what its outbound half writes. -/
def Train.inboundFace (t : Train) : Train :=
  { t with
    outbound := .none, destination := .undecided, outLapse := none
    stamps := { t.stamps with offeredOut := none, enteredOut := none, clearedOut := none } }

/-- The outbound side of a record that is bound for line `x`. -/
def Train.outboundAt (x : Line) (t : Train) : Option Train :=
  if t.destination = .line x then some t.outboundFace else none

/-- What `g` reads of a record that came on line `x`. -/
def Train.inboundAt (g : Train → Train) (x : Line) (t : Train) : Option Train :=
  if t.arrivalLine = some x then some (g t) else none

/-- R154: an inbound train seen at its berth. -/
def Train.atBerth (clock : Clock) (t : Train) : Train :=
  match t.inbound with
  | .accepted => { t with
      inbound := .inSection, unannounced := true, berthSeen := true
      stamps := { t.stamps with enteredIn := some clock } }
  | .inSection => { t with berthSeen := true }
  | _ => t

/-- R152: an outbound train in its section. -/
def Train.entered (clock : Clock) (t : Train) : Train :=
  { t with outbound := .inSection, stamps := { t.stamps with enteredOut := some clock } }

/-- R155: an inbound train at its arrival. -/
def Train.arrivedAt (clock : Clock) (t : Train) : Train :=
  { t with inbound := .arrived, stamps := { t.stamps with arrived := some clock } }

section
variable {t : Train} {x : Line} {clock : Clock}

theorem Train.outboundAt_on (on : t.destination = .line x) : t.outboundAt x = some t.outboundFace :=
  if_pos on

theorem Train.inboundAt_on (g : Train → Train) (on : t.arrivalLine = some x) :
    t.inboundAt g x = some (g t) := if_pos on

theorem Train.outboundAt_off {y : Line} (on : t.destination = .line y) (ne : y ≠ x) :
    t.outboundAt x = none := if_neg (by rw [on]; exact fun e => ne (Destination.line.inj e))

theorem Train.inboundAt_off (g : Train → Train) {y : Line} (on : t.arrivalLine = some y) (ne : y ≠ x) :
    t.inboundAt g x = none := if_neg (by rw [on]; exact fun e => ne (Option.some.inj e))

theorem Train.outboundAt_eq_some {f : Train} :
    t.outboundAt x = some f ↔ t.destination = .line x ∧ t.outboundFace = f := by
  simp [Train.outboundAt]

theorem Train.inboundAt_eq_some {g : Train → Train} {f : Train} :
    t.inboundAt g x = some f ↔ t.arrivalLine = some x ∧ g t = f := by
  simp [Train.inboundAt]

theorem Train.atBerth_arrivalLine : (t.atBerth clock).arrivalLine = t.arrivalLine := by
  unfold Train.atBerth
  split <;> rfl

/-- R154: what the berth shows is a matter of the inbound side alone. -/
theorem Train.inboundFace_atBerth :
    (t.atBerth clock).inboundFace = t.inboundFace.atBerth clock := by
  unfold Train.atBerth
  cases inbound : t.inbound <;> simp [Train.inboundFace, inbound]

end

/-! ### The outbound half of a line -/

/-- What is read of the outbound half of line `x` is the same in both states. -/
structure OutboundKept (x : Line) (s t : State) : Prop extends Onward s t where
  records : ∀ q : TrainId,
    t.trt.records[q].bind (Train.outboundAt x) = s.trt.records[q].bind (Train.outboundAt x)
  standing : (t.blc.get x).standing = (s.blc.get x).standing
  count : (t.blc.get x).count = (s.blc.get x).count
  owed : t.trt.owed.get x = s.trt.owed.get x
  bell : t.bu.get x = s.bu.get x
  held : ∀ hold : Hold, hold.kind = .block x → s.ht[blockEntry x] = some hold →
    t.ht[blockEntry x] = some hold
  free : s.ht[blockEntry x] = none → t.ht[blockEntry x] = none

namespace OutboundKept
variable {x : Line} {s t u : State}

theorem of_work (work : RouteWork s t) : OutboundKept x s t where
  toOnward := work.toOnward
  records q := by rw [work.trt]
  standing := by rw [work.blc]
  count := by rw [work.blc]
  owed := by rw [work.trt]
  bell := by rw [work.bu]
  held hold block := (work.holds _ hold fun l c route => by cases block.symm.trans route).mpr
  free := work.free x

theorem refl (s : State) : OutboundKept x s s := of_work (.refl s)

theorem trans (a : OutboundKept x s t) (b : OutboundKept x t u) : OutboundKept x s u where
  toOnward := a.toOnward.trans b.toOnward
  records q := (b.records q).trans (a.records q)
  standing := b.standing.trans a.standing
  count := b.count.trans a.count
  owed := b.owed.trans a.owed
  bell := b.bell.trans a.bell
  held hold block live := b.held hold block (a.held hold block live)
  free empty := b.free (a.free empty)

theorem latch (src : Source) (d : Detail) (s : State) : OutboundKept x s (latch src d s) :=
  of_work (.of_eq (.latch _ _ _) (by simp) (by simp) (by simp) (by simp))

/-- A record written elsewhere than in the outbound side of a train bound for the line. -/
theorem updTrain (s : State) (r : TrainId) {f : Train → Train}
    (same : ∀ v, s.trt.records[r] = some v → (f v).outboundAt x = v.outboundAt x) :
    OutboundKept x s (s.updTrain r f) where
  toOnward := .of_eq rfl rfl rfl rfl
  records q := by
    rw [updTrain_eq_updRecord]
    refine updRecord_field s (Train.outboundAt x) ?_ q
    cases live : s.trt.records[r] with
    | none => rfl
    | some v => exact same v live
  standing := rfl
  count := rfl
  owed := rfl
  bell := rfl
  held _ _ live := live
  free empty := empty

/-- R126: the IN instrument is no part of the outbound half. -/
theorem setInstrument (y : Line) (i : Instrument) (s : State) :
    OutboundKept x s (setInstrument y i s) where
  toOnward := .of_eq rfl rfl rfl rfl
  records _ := rfl
  standing := updLine_field s BlockLine.standing rfl x
  count := updLine_field s BlockLine.count rfl x
  owed := rfl
  bell := rfl
  held _ _ live := live
  free empty := empty

/-- The line, the Bell Unit and the block hold of another line. -/
theorem of_other {y : Line} (ne : y ≠ x) (onward : Onward s t) (records : t.trt.records = s.trt.records)
    (owed : ∀ z, z ≠ y → t.trt.owed.get z = s.trt.owed.get z)
    (blc : ∀ z, z ≠ y → t.blc.get z = s.blc.get z) (bu : ∀ z, z ≠ y → t.bu.get z = s.bu.get z)
    (ht : ∀ h : HoldId, h ≠ blockEntry y → t.ht[h] = s.ht[h]) : OutboundKept x s t where
  toOnward := onward
  records q := by rw [records]
  standing := by rw [blc x ne.symm]
  count := by rw [blc x ne.symm]
  owed := owed x ne.symm
  bell := bu x ne.symm
  held hold _ live := (ht _ (mt blockEntry_inj.mp ne.symm)).trans live
  free empty := (ht _ (mt blockEntry_inj.mp ne.symm)).trans empty

end OutboundKept

/-! ### The inbound half of a line -/

/-- No clearing hold of line `x` is live. -/
def NoClearing (x : Line) (s : State) : Prop :=
  ∀ (h : HoldId) (hold : Hold), s.ht[h] = some hold → hold.kind ≠ .clearing x

/-- What `g` reads of the inbound half of line `x` is the same in both states, and no clearing hold of
the line has come. -/
structure InboundKept (g : Train → Train) (x : Line) (s t : State) : Prop extends Onward s t where
  records : ∀ q : TrainId,
    t.trt.records[q].bind (Train.inboundAt g x) = s.trt.records[q].bind (Train.inboundAt g x)
  instrument : (t.blc.get x).inInstrument = (s.blc.get x).inInstrument
  clearing : NoClearing x s → NoClearing x t

namespace InboundKept
variable {g : Train → Train} {x : Line} {s t u : State}

theorem of_work (work : RouteWork s t) : InboundKept g x s t where
  toOnward := work.toOnward
  records q := by rw [work.trt]
  instrument := by rw [work.blc]
  clearing none_ h hold live kind := none_ h hold
    ((work.holds h hold fun l c route => by cases kind.symm.trans route).mp live) kind

theorem refl (s : State) : InboundKept g x s s := of_work (.refl s)

theorem trans (a : InboundKept g x s t) (b : InboundKept g x t u) : InboundKept g x s u where
  toOnward := a.toOnward.trans b.toOnward
  records q := (b.records q).trans (a.records q)
  instrument := b.instrument.trans a.instrument
  clearing none_ := b.clearing (a.clearing none_)

theorem latch (src : Source) (d : Detail) (s : State) : InboundKept g x s (latch src d s) :=
  of_work (.of_eq (.latch _ _ _) (by simp) (by simp) (by simp) (by simp))

/-- A record written elsewhere than in the inbound side of a train that came on the line. -/
theorem updTrain (s : State) (r : TrainId) {f : Train → Train}
    (same : ∀ v, s.trt.records[r] = some v → (f v).inboundAt g x = v.inboundAt g x) :
    InboundKept g x s (s.updTrain r f) where
  toOnward := .of_eq rfl rfl rfl rfl
  records q := by
    rw [updTrain_eq_updRecord]
    refine updRecord_field s (Train.inboundAt g x) ?_ q
    cases live : s.trt.records[r] with
    | none => rfl
    | some v => exact same v live
  instrument := rfl
  clearing none_ := none_

theorem retireClearing (y : Line) (s : State) : InboundKept g x s (retireClearing y s) where
  toOnward := .of_eq (by simp [Machine.retireClearing]) (by simp [Machine.retireClearing])
    (by simp [Machine.retireClearing]) (by simp [Machine.retireClearing])
  records q := by simp [Machine.retireClearing]
  instrument := by simp [Machine.retireClearing]
  clearing none_ h hold live := none_ h hold (retireWhere_live.mp live).1

/-- The IN instrument of another line. -/
theorem setInstrument {y : Line} (ne : y ≠ x) (i : Instrument) (s : State) :
    InboundKept g x s (setInstrument y i s) where
  toOnward := .of_eq rfl rfl rfl rfl
  records _ := rfl
  instrument := congrArg BlockLine.inInstrument (PerLine.get_set_ne _ _ ne.symm)
  clearing none_ := none_

end InboundKept

/-! ### The section entry -/

section
variable (x : Line) (r : TrainId) (s : State)

/-- R152: the half in its section, with the standing that follows it. -/
def sectionEntered : State := setStanding x .inSection (s.updTrain r (Train.entered s.tb.clock))

theorem enterSection_eq : enterSection x r s = latchTrain r
    (if ((sectionEntered x r s).blc.get x).health = .active then autoEntering x (sectionEntered x r s)
      else (sectionEntered x r s).setOwed x true) := rfl

/-- A re-judgement of a line brings its block hold only. -/
theorem rejudge_brings {x : Line} {s : State} {h : HoldId} {hold : Hold}
    (live : (rejudge x s).ht[h] = some hold) : s.ht[h] = some hold ∨ hold.kind = .block x := by
  by_cases own : h = blockEntry x
  · subst own
    rcases rejudge_cases x s with ⟨-, e⟩ | ⟨-, -, e⟩ | ⟨-, -, e⟩ <;> rw [e] at live
    · exact .inl live
    · rw [State.updHold_ht, tableUpdate_get_self] at live
      cases live
    · rw [ensureBlock_entry] at live
      split at live
      · cases live
        exact .inr rfl
      · exact .inl live
  · rw [rejudge_other own] at live
    exact .inl live

variable {x r s}

/-- R116: a send clears no source. -/
theorem Onward.takeSend (groups : List Nat) (entry : Option CodeId) (meaning : Option Meaning) :
    Onward s (takeSend x groups entry meaning s) := by
  have sent := takeSend_taken x groups entry meaning s
  refine ⟨by simp, by simp, by simp, ?_⟩
  cases collided : ((Machine.takeSend x groups entry meaning s).bu.get x).collided with
  | false => rw [sent.quietly collided]; exact fun _ set => set
  | true =>
    have latched := sent.latched collided
    intro i set
    by_cases own : i = Source.id (.line x)
    · subst own; exact latched.pending
    · rw [latched.others i own]; exact set

/-- R152: an automatic ENTERING works on the sender of its line. -/
theorem autoEntering_sends : Onward s (autoEntering x s) ∧
    ∀ y, y ≠ x → (autoEntering x s).bu.get y = s.bu.get y := by
  unfold autoEntering
  split
  · split
    · unfold takeEntrySend
      split
      · exact ⟨.takeSend _ _ _, (takeSend_taken _ _ _ _ _).otherLines⟩
      · exact ⟨.refl s, fun _ _ => rfl⟩
    · exact ⟨.of_eq rfl rfl rfl rfl, fun y ne => PerLine.get_set_ne _ _ ne⟩
  · exact ⟨.refl s, fun _ _ => rfl⟩

/-- R152: what a section entry writes beside its record stays on its own line. -/
theorem enterSection_frames : Onward s (enterSection x r s) ∧
    (enterSection x r s).trt.records = (s.updTrain r (Train.entered s.tb.clock)).trt.records ∧
    (∀ y, y ≠ x → (enterSection x r s).trt.owed.get y = s.trt.owed.get y ∧
      (enterSection x r s).blc.get y = s.blc.get y ∧ (enterSection x r s).bu.get y = s.bu.get y) ∧
    (enterSection x r s).ht = (sectionEntered x r s).ht ∧
    (enterSection x r s).blc = (s.blc.set x { s.blc.get x with standing := .inSection }) := by
  have entered : Onward s (sectionEntered x r s) :=
    .of_eq (by simp [sectionEntered]) (by simp [sectionEntered]) (by simp [sectionEntered])
      (by simp [sectionEntered])
  have blc : (sectionEntered x r s).blc = s.blc.set x { s.blc.get x with standing := .inSection } := by
    simp only [sectionEntered, setStanding, rejudge_frame, State.updLine_blc, State.updTrain_blc]
  have trt : (sectionEntered x r s).trt = (s.updTrain r (Train.entered s.tb.clock)).trt := by
    simp only [sectionEntered, setStanding_frame]
  have bu : (sectionEntered x r s).bu = s.bu := by
    simp only [sectionEntered, setStanding_frame, State.updTrain_bu]
  obtain ⟨sends, others⟩ := autoEntering_sends (x := x) (s := sectionEntered x r s)
  have owes : Onward (sectionEntered x r s) ((sectionEntered x r s).setOwed x true) :=
    .of_eq rfl rfl rfl rfl
  rw [enterSection_eq]
  split
  · refine ⟨(entered.trans sends).trans (.latch _ _ _), ?_, fun y ne => ⟨?_, ?_, ?_⟩, ?_, ?_⟩ <;>
      simp only [latchTrain_frame, autoEntering_frame, trt, blc]
    · rfl
    · exact PerLine.get_set_ne _ _ ne
    · rw [others y ne, bu]
  · refine ⟨(entered.trans owes).trans (.latch _ _ _), ?_, fun y ne => ⟨?_, ?_, ?_⟩, ?_, ?_⟩ <;>
      simp only [latchTrain_frame, State.setOwed_trt, State.setOwed_blc, State.setOwed_ht,
        State.setOwed_bu, trt, blc, bu]
    · exact PerLine.get_set_ne _ _ ne
    · exact PerLine.get_set_ne _ _ ne

end

end Sys2Proof.Machine
/-! The occupations and clearances of the other lines and circuits, and those of a line's own circuits. -/

namespace Sys2Proof.Machine

/-! ### What the events of other lines leave -/

section
variable {x y : Line} {c : TrackId} {u : State}

/-- R152: a section entry of another line. -/
theorem OutboundKept.entryOccupied (ne : y ≠ x) : OutboundKept x u (entryOccupied y c u) := by
  unfold Machine.entryOccupied
  split
  · next r found =>
    split
    · obtain ⟨v, live, on, -⟩ := outboundTrain_record found
      obtain ⟨onward, records, others, ht, -⟩ := enterSection_frames (x := y) (r := r) (s := u)
      have written : OutboundKept x u (u.updTrain r (Train.entered u.tb.clock)) := by
        refine updTrain u r fun w live' => ?_
        cases live.symm.trans live'
        rw [Train.outboundAt_off on ne]
        exact Train.outboundAt_off (t := v.entered u.tb.clock) on ne
      refine written.trans (of_other ne ⟨onward.cfg, onward.tb, onward.device, onward.pending⟩ records
        (fun z off => (others z off).1) (fun z off => (others z off).2.1)
        (fun z off => (others z off).2.2) fun h off => ?_)
      rw [ht, sectionEntered, setStanding, rejudge_other off]
      rfl
    · exact latch _ _ u
  · exact latch _ _ u

/-- R154: an occupation of a berth writes nothing of an outbound half. -/
theorem OutboundKept.berthOccupied : OutboundKept x u (berthOccupied y c u) := by
  unfold Machine.berthOccupied
  split
  · split
    · exact ((updTrain u _ (by intro _ _; rfl)).trans (setInstrument _ _ _)).trans (latch _ _ _)
    · split
      · exact refl u
      · exact (updTrain u _ (by intro _ _; rfl)).trans (latch _ _ _)
    · exact refl u
    all_goals exact latch _ _ u
  · exact latch _ _ u

/-- R152: a section entry writes nothing of an inbound half. -/
theorem InboundKept.entryOccupied : InboundKept Train.inboundFace x u (entryOccupied y c u) := by
  unfold Machine.entryOccupied
  split
  · next r found =>
    split
    · obtain ⟨onward, records, -, ht, blc⟩ := enterSection_frames (x := y) (r := r) (s := u)
      have written : InboundKept Train.inboundFace x u (u.updTrain r (Train.entered u.tb.clock)) :=
        updTrain u r fun _ _ => rfl
      refine ⟨onward, fun q => ?_, ?_, fun none_ h hold live => ?_⟩
      · rw [records]
        exact written.records q
      · rw [blc]
        exact updLine_field u (f := fun b => { b with standing := .inSection })
          BlockLine.inInstrument rfl x
      · rw [ht] at live
        rcases rejudge_brings live with before | block
        · exact none_ h hold before
        · rw [block]
          nofun
    · exact latch _ _ u
  · exact latch _ _ u

/-- R154: an occupation of the berth of another line. -/
theorem InboundKept.berthOccupied (ne : y ≠ x) :
    InboundKept Train.inboundFace x u (berthOccupied y c u) := by
  unfold Machine.berthOccupied
  split
  · next r found =>
    obtain ⟨v, live, on, -⟩ := inboundTrain_record found
    have written {f : Train → Train} (line : ∀ t, (f t).arrivalLine = t.arrivalLine) :
        InboundKept Train.inboundFace x u (u.updTrain r f) := by
      refine updTrain u r fun w live' => ?_
      cases live.symm.trans live'
      rw [Train.inboundAt_off _ on ne, Train.inboundAt_off _ ((line v).trans on) ne]
    split
    · exact ((written (by intro _; rfl)).trans (setInstrument ne _ _)).trans (latch _ _ _)
    · split
      · exact refl u
      · exact (written (by intro _; rfl)).trans (latch _ _ _)
    · exact refl u
    all_goals exact latch _ _ u
  · exact latch _ _ u

/-- R155: an arrival on another line. -/
theorem InboundKept.berthCleared (ne : y ≠ x) : InboundKept id x u (berthCleared y u) := by
  unfold Machine.berthCleared
  split
  · next r found =>
    split
    · obtain ⟨v, live, on, -⟩ := inboundTrain_record found
      have written : InboundKept id x u (u.updTrain r (Train.arrivedAt u.tb.clock)) := by
        refine updTrain u r fun w live' => ?_
        cases live.symm.trans live'
        rw [Train.inboundAt_off _ on ne]
        exact Train.inboundAt_off (t := v.arrivedAt u.tb.clock) _ on ne
      exact (written.trans (retireClearing y _)).trans (latch _ _ _)
    · exact refl u
  · exact refl u

/-- R152, R154: an occupation of a circuit that is not the line's own section entry. -/
theorem OutboundKept.lineOccupied {d : TrackId} (entry : (u.cfg.lines.get x).entryCircuit = some c)
    (off : y = x → d ≠ c) : OutboundKept x u (lineOccupied d y u) := by
  have entered : OutboundKept x u (lineEntered d y u) := by
    unfold lineEntered
    split
    · next own =>
      refine entryOccupied fun same => off same ?_
      rw [same, entry] at own
      exact (Option.some.inj own).symm
    · exact refl u
  unfold Machine.lineOccupied
  split
  · exact entered.trans berthOccupied
  · exact entered

theorem InboundKept.lineEntered : InboundKept Train.inboundFace x u (lineEntered c y u) := by
  unfold Machine.lineEntered
  split
  · exact entryOccupied
  · exact refl u

/-- R152, R154: an occupation of a circuit that is not the line's own berth. -/
theorem InboundKept.lineOccupied {d : TrackId} (berth : (u.cfg.lines.get x).berth = some c)
    (off : y = x → d ≠ c) : InboundKept Train.inboundFace x u (lineOccupied d y u) := by
  have entered := lineEntered (x := x) (y := y) (c := d) (u := u)
  unfold Machine.lineOccupied
  split
  · next own =>
    refine entered.trans (berthOccupied fun same => off same ?_)
    rw [entered.cfg, same, berth] at own
    exact (Option.some.inj own).symm
  · exact entered

/-- R155: a clearance of a circuit that is not the line's own berth. -/
theorem InboundKept.lineCleared {d : TrackId} (berth : (u.cfg.lines.get x).berth = some c)
    (off : y = x → d ≠ c) : InboundKept id x u (lineCleared d y u) := by
  unfold Machine.lineCleared
  split
  · next own =>
    refine berthCleared fun same => off same ?_
    rw [same, berth] at own
    exact (Option.some.inj own).symm
  · exact refl u

end

/-! ### The halves found again -/

section
variable {x : Line} {s u : State} {q : TrainId}

/-- R144: the line's outbound train is found by what is read of its outbound half. -/
theorem outboundTrain_of_records (records : ∀ q : TrainId,
    u.trt.records[q].bind (Train.outboundAt x) = s.trt.records[q].bind (Train.outboundAt x)) :
    u.trt.outboundTrain x = s.trt.outboundTrain x := by
  have test (v : Option Train) : liveAnd (fun t => t.outboundOn x) v =
      (v.bind (Train.outboundAt x)).any fun t => t.outbound.active := by
    cases v with
    | none => rfl
    | some t =>
      by_cases on : t.destination = .line x <;>
        simp [liveAnd, Train.outboundOn, Train.outboundAt, on, Train.outboundFace]
  simp only [TrainTable.outboundTrain, test, records]

/-- R144: the line's inbound train is found by what is read of its inbound half. -/
theorem inboundTrain_of_records {g : Train → Train} (reads : ∀ t, (g t).inbound = t.inbound)
    (records : ∀ q : TrainId,
      u.trt.records[q].bind (Train.inboundAt g x) = s.trt.records[q].bind (Train.inboundAt g x)) :
    u.trt.inboundTrain x = s.trt.inboundTrain x := by
  have test (v : Option Train) : liveAnd (fun t => t.inboundOn x) v =
      (v.bind (Train.inboundAt g x)).any fun t => t.inbound.active := by
    cases v with
    | none => rfl
    | some t =>
      by_cases on : t.arrivalLine = some x <;>
        simp [liveAnd, Train.inboundOn, Train.inboundAt, on, reads]
  simp only [TrainTable.inboundTrain, test, records]

/-- A train bound for the line is one in the other state, the same on its outbound side. -/
theorem OutboundKept.record (kept : OutboundKept x s u) {v : Train} (live : s.trt.records[q] = some v)
    (on : v.destination = .line x) : ∃ w, u.trt.records[q] = some w ∧ w.destination = .line x ∧
      w.outboundFace = v.outboundFace := by
  have same := kept.records q
  rw [live, Option.bind_some, Train.outboundAt_on on, Option.bind_eq_some_iff] at same
  obtain ⟨w, live', at_⟩ := same
  exact ⟨w, live', Train.outboundAt_eq_some.mp at_⟩

/-- A train that came on the line is one in the other state, the same on what is read of it. -/
theorem InboundKept.record {g : Train → Train} (kept : InboundKept g x s u) {v : Train}
    (live : s.trt.records[q] = some v) (on : v.arrivalLine = some x) :
    ∃ w, u.trt.records[q] = some w ∧ w.arrivalLine = some x ∧ g w = g v := by
  have same := kept.records q
  rw [live, Option.bind_some, Train.inboundAt_on g on, Option.bind_eq_some_iff] at same
  obtain ⟨w, live', at_⟩ := same
  exact ⟨w, live', Train.inboundAt_eq_some.mp at_⟩

end

end Sys2Proof.Machine
/-! The track events of a line's own circuits: the section entry, the berth and the arrival in SERVICE. -/

namespace Sys2Proof.Machine

/-! ### The section entry -/

/-- R116: the Bell Unit of a line whose send is taken. -/
theorem takeSend_bell (x : Line) (groups : List Nat) (entry : Option CodeId) (meaning : Option Meaning)
    (s : State) : (takeSend x groups entry meaning s).bu.get x =
      (s.bu.get x).beginSend s.cfg.timing s.tb.tickCount groups entry meaning := by
  unfold takeSend
  dsimp only
  split <;> simp

/-- What two records with the same outbound side share. -/
theorem Train.outboundFace_fields {v w : Train} (face : w.outboundFace = v.outboundFace) :
    w.outbound = v.outbound ∧ w.outLapse = v.outLapse ∧ w.trainClass = v.trainClass ∧
      w.stamps.enteredOut = v.stamps.enteredOut := by
  simp only [Train.outboundFace, Train.mk.injEq, TrainStamps.mk.injEq] at face
  simp only [face, and_self]

section
variable {x : Line} {c : TrackId} {r : TrainId} {u : State}

theorem entryOccupied_accepted (train : u.trt.outboundTrain x = some r)
    (accepted : u.outboundOf r = .accepted) : entryOccupied x c u = enterSection x r u := by
  rw [entryOccupied, train]
  exact if_pos accepted

/-- R152: a section entry that no accepted train accounts for. -/
theorem entryOccupied_unaccounted
    (none_ : ∀ r, u.trt.outboundTrain x = some r → u.outboundOf r ≠ .accepted) :
    entryOccupied x c u = latch .trackFault (.circuit c) u := by
  unfold entryOccupied
  split
  · next r found => exact if_neg (none_ r found)
  · rfl

theorem sectionEntered_line :
    (sectionEntered x r u).blc.get x = { u.blc.get x with standing := .inSection } ∧
    (sectionEntered x r u).bu = u.bu ∧ (sectionEntered x r u).trt.owed = u.trt.owed ∧
    (sectionEntered x r u).cfg = u.cfg ∧ (sectionEntered x r u).tb = u.tb := by
  refine ⟨?_, ?_, ?_, ?_, ?_⟩ <;>
    simp only [sectionEntered, setStanding_frame, State.updTrain_bu, State.updTrain_cfg,
      State.updTrain_tb]
  · simp only [setStanding, rejudge_frame, State.updLine_blc, State.updTrain_blc,
      PerLine.get_set_self]
  · rfl

/-- R152: on a line that is not ACTIVE the ENTERING is owed, and nothing is sent. -/
theorem enterSection_owes (shut : 96 ≤ (u.blc.get x).count) :
    (enterSection x r u).trt.owed.get x = true ∧ (enterSection x r u).bu = u.bu := by
  obtain ⟨line, bu, -⟩ := sectionEntered_line (x := x) (r := r) (u := u)
  rw [enterSection_eq, if_neg (by rw [health_active_iff, line]; exact Nat.not_lt.mpr shut)]
  simp only [latchTrain_frame, State.setOwed_trt, PerLine.get_set_self, State.setOwed_bu, bu, and_self]

variable (below : (u.blc.get x).count < 96)
include below

/-- R152: on an ACTIVE line the automatic ENTERING follows. -/
theorem enterSection_active :
    enterSection x r u = latchTrain r (autoEntering x (sectionEntered x r u)) := by
  obtain ⟨line, -⟩ := sectionEntered_line (x := x) (r := r) (u := u)
  rw [enterSection_eq, if_pos (by rw [health_active_iff, line]; exact below)]

theorem enterSection_owed : (enterSection x r u).trt.owed = u.trt.owed := by
  obtain ⟨-, -, owed, -⟩ := sectionEntered_line (x := x) (r := r) (u := u)
  rw [enterSection_active below]
  simp only [latchTrain_frame, autoEntering_frame, owed]

/-- R116, R152: the ENTERING is taken by an IDLE sender, and held as the pending send otherwise. -/
theorem enterSection_sends {i : CodeId} {e : CodeEntry} (entry : lowestSendable u .entering none i e) :
    ((u.bu.get x).sender ≠ none →
      (enterSection x r u).bu.get x = { u.bu.get x with pendingEntering := true }) ∧
    ((u.bu.get x).sender = none → (enterSection x r u).bu.get x = (u.bu.get x).beginSend u.cfg.timing
      u.tb.tickCount (e.pattern.map fun g => g.count) (some i) (some .entering)) := by
  obtain ⟨-, bu, -, cfg, tb⟩ := sectionEntered_line (x := x) (r := r) (u := u)
  have entry' : lowestSendable (sectionEntered x r u) .entering none i e := by
    unfold lowestSendable
    rw [cfg]
    exact entry
  rw [enterSection_active below]
  simp only [latchTrain_frame]
  constructor <;> intro sender
  · rw [autoEntering, entryToSend_eq_some.mpr ⟨e, entry'⟩]
    dsimp only
    rw [if_neg (by simpa [bu] using sender), State.updBell_bu, PerLine.get_set_self, bu]
  · rw [autoEntering_idle (by rw [bu]; exact sender) entry', takeSend_bell, bu, cfg, tb]
    rfl

end

section
variable {x : Line} {c : TrackId} {s u t : State} (before : OutboundKept x s u)
  (after : OutboundKept x (entryOccupied x c u) t)
include before after

/-- R152: the accepted outbound train of the line enters its section. -/
theorem section_entered (law : HalvesLaw s) (service : s.device = .service) {q : TrainId} {v : Train}
    (live : s.trt.records[q] = some v) (on : v.destination = .line x) (accepted : v.outbound = .accepted) :
    (∃ w, t.trt.records[q] = some w ∧ w.outbound = .inSection ∧ w.destination = .line x ∧
      w.outLapse = v.outLapse ∧ w.trainClass = v.trainClass ∧
      w.stamps.enteredOut = some s.tb.clock) ∧
    (t.blc.get x).standing = .inSection ∧ (t.blc.get x).count = (s.blc.get x).count ∧
    t.au[Source.id .train].pending = true ∧
    (∀ l, (s.cfg.lines.get x).starter = some l → s.ht[blockEntry x] = none →
      t.ht[blockEntry x] = some ⟨.block x, l, .normal, s.tb.clock⟩) ∧
    (96 ≤ (s.blc.get x).count → t.trt.owed.get x = true ∧ t.bu.get x = s.bu.get x) ∧
    ((s.blc.get x).count < 96 → t.trt.owed.get x = s.trt.owed.get x ∧
      ∀ (i : CodeId) (e : CodeEntry), lowestSendable s .entering none i e →
        ((s.bu.get x).sender ≠ none →
          t.bu.get x = { s.bu.get x with pendingEntering := true }) ∧
        ((s.bu.get x).sender = none → t.bu.get x = (s.bu.get x).beginSend s.cfg.timing
          s.tb.tickCount (e.pattern.map fun g => g.count) (some i) (some .entering))) := by
  obtain ⟨w, live', on', face⟩ := before.record live on
  obtain ⟨outbound, lapse, cls, -⟩ := Train.outboundFace_fields face
  have train : u.trt.outboundTrain x = some q := by
    rw [outboundTrain_of_records before.records, outboundTrain_eq_some law]
    exact ⟨v, live, on, .inr (.inl accepted)⟩
  rw [entryOccupied_accepted train ((outboundOf_live live').trans (outbound.trans accepted))] at after
  obtain ⟨-, records, -, ht, blc⟩ := enterSection_frames (x := x) (r := q) (s := u)
  have line : (enterSection x q u).blc.get x = { u.blc.get x with standing := .inSection } := by
    rw [blc, PerLine.get_set_self]
  refine ⟨?record, ?_, ?_, after.pending _ (latch_latched .train (.record q) _).pending, ?hold, ?owes,
    ?sends⟩
  case record =>
    have entered : (enterSection x q u).trt.records[q] = some (w.entered u.tb.clock) := by
      rw [records]
      exact updTrain_record live' _
    obtain ⟨w', live'', on'', face'⟩ := after.record entered on'
    obtain ⟨outbound', lapse', cls', stamp⟩ := Train.outboundFace_fields face'
    exact ⟨w', live'', outbound', on'', lapse'.trans lapse, cls'.trans cls,
      stamp.trans (by rw [← before.tb]; rfl)⟩
  · rw [after.standing, line]
  · rw [after.count, line, before.count]
  case hold =>
    intro l starter empty
    have holds := (setStanding_ensures (x := x) (st := .inSection) nofun
      (s := u.updTrain q (Train.entered u.tb.clock)) (before.device.trans service)).1 l
      (by rw [State.updTrain_cfg, before.cfg]; exact starter)
    rw [State.updTrain_ht, before.free empty] at holds
    refine after.held _ rfl (Eq.trans (by rw [ht]; rfl) (holds.trans ?_))
    rw [← before.tb]
    rfl
  case owes =>
    intro shut
    obtain ⟨owes, bell⟩ := enterSection_owes (x := x) (r := q) (u := u) (before.count ▸ shut)
    exact ⟨after.owed.trans owes, by rw [after.bell, bell, before.bell]⟩
  case sends =>
    intro below
    rw [← before.count] at below
    refine ⟨by rw [after.owed, enterSection_owed below, before.owed], fun i e entry => ?_⟩
    have entry' : lowestSendable u .entering none i e := by
      unfold lowestSendable
      rw [before.cfg]
      exact entry
    have sends := enterSection_sends (r := q) below entry'
    rw [before.bell, before.cfg, before.tb] at sends
    rw [after.bell]
    exact sends

/-- R152: an occupation of the section entry that no accepted outbound train accounts for. -/
theorem section_unaccounted
    (none_ : ∀ (q : TrainId) (v : Train), s.trt.records[q] = some v → v.destination = .line x →
      v.outbound ≠ .accepted) :
    t.au[Source.id .trackFault].pending = true ∧ (t.blc.get x).standing = (s.blc.get x).standing ∧
    t.trt.owed.get x = s.trt.owed.get x ∧ t.bu.get x = s.bu.get x := by
  have unaccounted : entryOccupied x c u = latch .trackFault (.circuit c) u := by
    refine entryOccupied_unaccounted fun r found => ?_
    rw [outboundTrain_of_records before.records] at found
    obtain ⟨v, live, on, -⟩ := outboundTrain_record found
    obtain ⟨w, live', -, face⟩ := before.record live on
    rw [outboundOf_live live', (Train.outboundFace_fields face).1]
    exact none_ r v live on
  rw [unaccounted] at after
  have whole := before.trans ((OutboundKept.latch _ _ u).trans after)
  exact ⟨after.pending _ (latch_latched _ _ u).pending, whole.standing, whole.owed, whole.bell⟩

end

/-! ### The berth -/

/-- What two records with the same inbound side share. -/
theorem Train.inboundFace_fields {v w : Train} (face : w.inboundFace = v.inboundFace) :
    w.inbound = v.inbound ∧ w.arrivalLine = v.arrivalLine ∧ w.trainClass = v.trainClass ∧
      w.tailSeen = v.tailSeen ∧ w.berthSeen = v.berthSeen ∧ w.unannounced = v.unannounced ∧
      w.stamps.enteredIn = v.stamps.enteredIn ∧ w.stamps.arrived = v.stamps.arrived := by
  simp only [Train.inboundFace, Train.mk.injEq, TrainStamps.mk.injEq] at face
  simp only [face, and_self]

/-- R154: a train that is neither ACCEPTED nor IN_SECTION is not moved at its berth. -/
theorem Train.atBerth_other {v : Train} {clock : Clock} (notAccepted : v.inbound ≠ .accepted)
    (notIn : v.inbound ≠ .inSection) : v.atBerth clock = v := by
  unfold Train.atBerth
  split
  · next accepted => exact absurd accepted notAccepted
  · next inSection => exact absurd inSection notIn
  · rfl

theorem Train.atBerth_accepted {v : Train} {clock : Clock} (accepted : v.inbound = .accepted) :
    v.atBerth clock = { v with
      inbound := .inSection, unannounced := true, berthSeen := true
      stamps := { v.stamps with enteredIn := some clock } } := by
  simp only [Train.atBerth, accepted]

theorem Train.atBerth_inSection {v : Train} {clock : Clock} (inSection : v.inbound = .inSection) :
    v.atBerth clock = { v with berthSeen := true } := by
  simp only [Train.atBerth, inSection]

/-- R154: a train seen at its berth before is not moved there. -/
theorem Train.atBerth_seen {v : Train} {clock : Clock} (inSection : v.inbound = .inSection)
    (seen : v.berthSeen = true) : v.atBerth clock = v := by
  rw [Train.atBerth_inSection inSection, ← seen]

/-- R154: what an occupation of the berth of line `x` does by the record `v` of its inbound train. -/
def berthShows (x : Line) (c : TrackId) (q : TrainId) (v : Train) (u : State) : State :=
  match v.inbound with
  | .accepted => arriveUnannounced x q u
  | .inSection => if v.berthSeen then u
    else latchTrain q (u.updTrain q fun t => { t with berthSeen := true })
  | .arrived => u
  | .offered | .none | .cleared => latch .trackFault (.circuit c) u

section
variable {x : Line} {c : TrackId} {q : TrainId} {v : Train} {u : State}

theorem berthOccupied_train (train : u.trt.inboundTrain x = some q) (live : u.trt.records[q] = some v) :
    berthOccupied x c u = berthShows x c q v u := by
  rw [berthOccupied, train]
  dsimp only
  rw [inboundOf_live live, State.berthSeenOf, live]
  cases inbound : v.inbound <;> simp only [berthShows, inbound]

/-- R154: the record of a train of the line after an occupation of its berth. -/
theorem berthOccupied_record (alone : v.inbound.active = true → u.trt.inboundTrain x = some q)
    (live : u.trt.records[q] = some v) :
    (berthOccupied x c u).trt.records[q] = some (v.atBerth u.tb.clock) := by
  by_cases train : u.trt.inboundTrain x = some q
  · rw [berthOccupied_train train live, berthShows]
    cases inbound : v.inbound with
    | accepted =>
      simp only [arriveUnannounced, latchTrain_frame, setInstrument_frame]
      rw [Train.atBerth_accepted inbound]
      exact updTrain_record live _
    | inSection =>
      dsimp only
      split
      · next seen => rw [Train.atBerth_seen inbound seen, live]
      · simp only [latchTrain_frame]
        rw [Train.atBerth_inSection inbound]
        exact updTrain_record live _
    | arrived =>
      rw [Train.atBerth_other (by rw [inbound]; nofun) (by rw [inbound]; nofun)]
      exact live
    | offered | none | cleared =>
      simp only [latch_frame]
      rw [Train.atBerth_other (by rw [inbound]; nofun) (by rw [inbound]; nofun)]
      exact live
  · have idle : ¬v.inbound.active = true := fun active => train (alone active)
    have other : v.atBerth u.tb.clock = v := by
      refine Train.atBerth_other ?_ ?_ <;> intro st <;> rw [st] at idle <;> exact idle rfl
    rw [other, ← live]
    unfold berthOccupied
    split
    · next r found =>
      have ne : q ≠ r := fun same => train (same ▸ found)
      split
      · simp only [arriveUnannounced, latchTrain_frame, setInstrument_frame]
        exact updTrain_other ne _
      · split
        · rfl
        · simp only [latchTrain_frame]
          exact updTrain_other ne _
      · rfl
      all_goals simp only [latch_frame]
    · simp only [latch_frame]

end

/-- R154: what the berth shows of a train, field by field. -/
theorem Train.atBerth_shown {v w : Train} {clock : Clock}
    (face : w.inboundFace = (v.atBerth clock).inboundFace) :
    w.trainClass = v.trainClass ∧ w.tailSeen = v.tailSeen ∧ w.stamps.arrived = v.stamps.arrived ∧
    (v.inbound = .accepted → w.inbound = .inSection ∧ w.unannounced = true ∧ w.berthSeen = true ∧
      w.stamps.enteredIn = some clock) ∧
    (v.inbound ≠ .accepted → w.inbound = v.inbound ∧ w.unannounced = v.unannounced ∧
      w.stamps.enteredIn = v.stamps.enteredIn) ∧
    (v.inbound = .inSection → w.berthSeen = true) ∧
    (v.inbound ≠ .accepted → v.inbound ≠ .inSection → w.berthSeen = v.berthSeen) := by
  obtain ⟨inbound, -, cls, tail, seen, announced, entered, arrived⟩ := Train.inboundFace_fields face
  rw [inbound, cls, tail, seen, announced, entered, arrived]
  by_cases accepted : v.inbound = .accepted
  · rw [Train.atBerth_accepted accepted]
    simp [accepted]
  · by_cases inSection : v.inbound = .inSection
    · rw [Train.atBerth_inSection inSection]
      simp [inSection]
    · rw [Train.atBerth_other accepted inSection]
      simp [accepted, inSection]

section
variable {x : Line} {c : TrackId} {s u t : State} (before : InboundKept Train.inboundFace x s u)
  (after : InboundKept Train.inboundFace x (berthOccupied x c u) t)
include before

/-- R144: the line's inbound train is the same for the berth. -/
theorem berth_train : u.trt.inboundTrain x = s.trt.inboundTrain x :=
  inboundTrain_of_records (g := Train.inboundFace) (fun _ => rfl) before.records

/-- The line's inbound train as its berth finds it. -/
theorem berth_found {q : TrainId} (found : u.trt.inboundTrain x = some q) :
    ∃ v w, s.trt.records[q] = some v ∧ v.arrivalLine = some x ∧ u.trt.records[q] = some w ∧
      w.inbound = v.inbound ∧ w.berthSeen = v.berthSeen := by
  rw [berth_train before] at found
  obtain ⟨v, live, on, -⟩ := inboundTrain_record found
  obtain ⟨w, live', -, face⟩ := before.record live on
  obtain ⟨inbound, -, -, -, seen, -⟩ := Train.inboundFace_fields face
  exact ⟨v, w, live, on, live', inbound, seen⟩

include after

/-- R154: the record of a train that came on the line, after an occupation of its berth. -/
theorem berth_record (law : HalvesLaw s) {q : TrainId} {v : Train} (live : s.trt.records[q] = some v)
    (on : v.arrivalLine = some x) : ∃ w, t.trt.records[q] = some w ∧ w.arrivalLine = some x ∧
      w.inboundFace = (v.atBerth s.tb.clock).inboundFace := by
  obtain ⟨w, live', on', face⟩ := before.record live on
  have alone (active : w.inbound.active = true) : u.trt.inboundTrain x = some q := by
    rw [(Train.inboundFace_fields face).1, Inbound.active_iff] at active
    rw [berth_train before]
    exact inboundTrain_of_half law live on active
  obtain ⟨w', live'', on'', face'⟩ := after.record (berthOccupied_record alone live')
    (Train.atBerth_arrivalLine.trans on')
  refine ⟨w', live'', on'', ?_⟩
  rw [face', Train.inboundFace_atBerth, Train.inboundFace_atBerth, face, before.tb]

variable (law : HalvesLaw s) {q : TrainId} {v : Train} (live : s.trt.records[q] = some v)
  (on : v.arrivalLine = some x)
include law live on

/-- R154: a berth occupied with no ENTERING heard. -/
theorem berth_unannounced (accepted : v.inbound = .accepted) :
    (t.blc.get x).inInstrument = .onLine ∧ t.au[Source.id .train].pending = true := by
  have train := (berth_train before).trans (inboundTrain_of_half law live on (.inr (.inl accepted)))
  obtain ⟨w, live', -, face⟩ := before.record live on
  have arrives := berthOccupied_train (c := c) train live'
  rw [berthShows, (Train.inboundFace_fields face).1, accepted] at arrives
  rw [arrives] at after
  refine ⟨after.instrument.trans ?_, after.pending _ (latch_latched .train (.record q) _).pending⟩
  simp only [arriveUnannounced, latchTrain_frame, setInstrument, State.updLine_blc,
    State.updTrain_blc, PerLine.get_set_self]

/-- R154: a train IN_SECTION seen at its berth for the first time. -/
theorem berth_firstSeen (inSection : v.inbound = .inSection) (unseen : v.berthSeen = false) :
    t.au[Source.id .train].pending = true := by
  have train := (berth_train before).trans
    (inboundTrain_of_half law live on (.inr (.inr (.inl inSection))))
  obtain ⟨w, live', -, face⟩ := before.record live on
  obtain ⟨inbound, -, -, -, seen, -⟩ := Train.inboundFace_fields face
  have shows := berthOccupied_train (c := c) train live'
  rw [berthShows, inbound, inSection] at shows
  dsimp only at shows
  rw [if_neg (by rw [seen, unseen]; nofun)] at shows
  rw [shows] at after
  exact after.pending _ (latch_latched .train (.record q) _).pending

end

section
variable {x : Line} {c : TrackId} {s u t : State} (before : InboundKept Train.inboundFace x s u)
  (after : InboundKept Train.inboundFace x (berthOccupied x c u) t)
include before after

/-- R126, R154: without an accepted train the berth leaves the IN instrument. -/
theorem berth_instrument (none_ : ∀ (q : TrainId) (v : Train), s.trt.records[q] = some v →
      v.arrivalLine = some x → v.inbound ≠ .accepted) :
    (t.blc.get x).inInstrument = (s.blc.get x).inInstrument := by
  rw [after.instrument, ← before.instrument]
  cases found : u.trt.inboundTrain x with
  | none =>
    rw [berthOccupied, found]
    simp only [latch_frame]
  | some q =>
    obtain ⟨v, w, live, on, live', inbound, -⟩ := berth_found before found
    rw [berthOccupied_train found live', berthShows, inbound]
    cases st : v.inbound with
    | accepted => exact absurd st (none_ q v live on)
    | inSection =>
      dsimp only
      split
      · rfl
      · simp only [latchTrain_frame, State.updTrain_blc]
    | arrived => rfl
    | offered | none | cleared => simp only [latch_frame]

/-- R154: an occupation of a berth that no inbound train accounts for. -/
theorem berth_unaccounted (none_ : ∀ (q : TrainId) (v : Train), s.trt.records[q] = some v →
      v.arrivalLine = some x →
      v.inbound ≠ .accepted ∧ v.inbound ≠ .inSection ∧ v.inbound ≠ .arrived) :
    t.au[Source.id .trackFault].pending = true := by
  suffices faulted : berthOccupied x c u = latch .trackFault (.circuit c) u by
    rw [faulted] at after
    exact after.pending _ (latch_latched _ _ u).pending
  cases found : u.trt.inboundTrain x with
  | none => rw [berthOccupied, found]
  | some q =>
    obtain ⟨v, w, live, on, live', inbound, -⟩ := berth_found before found
    obtain ⟨notAccepted, notIn, notArrived⟩ := none_ q v live on
    rw [berthOccupied_train found live', berthShows, inbound]
    cases st : v.inbound with
    | accepted => exact absurd st notAccepted
    | inSection => exact absurd st notIn
    | arrived => exact absurd st notArrived
    | offered | none | cleared => rfl

end

/-! ### The arrival -/

section
variable {x : Line} {s u t : State} (before : InboundKept id x s u)
  (after : InboundKept id x (berthCleared x u) t)
include before after

/-- R155: a clearance of the berth, by the state of a train that came on the line. -/
theorem berth_cleared (law : HalvesLaw s) {q : TrainId} {v : Train} (live : s.trt.records[q] = some v)
    (on : v.arrivalLine = some x) :
    (v.inbound = .inSection → v.berthSeen = true →
      t.trt.records[q] = some { v with
        inbound := .arrived, stamps := { v.stamps with arrived := some s.tb.clock } } ∧
      NoClearing x t ∧ t.au[Source.id .train].pending = true) ∧
    (v.inbound ≠ .inSection ∨ v.berthSeen = false → t.trt.records[q] = some v) := by
  have exactly {a b : State} {w : Train} (kept : InboundKept id x a b) (live : a.trt.records[q] = some w)
      (on : w.arrivalLine = some x) : b.trt.records[q] = some w := by
    obtain ⟨w', live', -, same⟩ := kept.record live on
    cases same
    exact live'
  have live' := exactly before live on
  have trains : u.trt.inboundTrain x = s.trt.inboundTrain x :=
    inboundTrain_of_records (g := id) (fun _ => rfl) before.records
  refine ⟨fun inSection seen => ?_, fun other => exactly after ?_ on⟩
  · have train := trains.trans (inboundTrain_of_half law live on (.inr (.inr (.inl inSection))))
    have arrives : berthCleared x u = latchTrain q (arriveInbound x q u) := by
      rw [berthCleared, train]
      exact if_pos ⟨(inboundOf_live live').trans inSection, by rw [State.berthSeenOf, live']; exact seen⟩
    rw [arrives] at after
    refine ⟨exactly after ?_ on, after.clearing fun h hold held kind => ?_,
      after.pending _ (latch_latched .train (.record q) _).pending⟩
    · have arrived : (u.updTrain q (Train.arrivedAt u.tb.clock)).trt.records[q] =
          some (v.arrivedAt u.tb.clock) := updTrain_record live' _
      simp only [latchTrain_frame, arriveInbound, retireClearing, retireWhere_frame]
      rw [← before.tb]
      exact arrived
    · simp only [latchTrain_frame, arriveInbound] at held
      have kept := (retireWhere_live.mp held).2
      rw [clearingOf_iff.mpr kind] at kept
      cases kept
  · unfold berthCleared
    split
    · next r found =>
      split
      · next due =>
        obtain ⟨inSection, seen⟩ := due
        by_cases own : q = r
        · subst own
          rw [inboundOf_live live'] at inSection
          rw [State.berthSeenOf, live'] at seen
          rcases other with away | unseen
          · exact absurd inSection away
          · exact absurd (seen.symm.trans unseen) nofun
        · simp only [latchTrain_frame, arriveInbound, retireClearing, retireWhere_frame]
          exact (updTrain_other own _).trans live'
      · exact live'
    · exact live'

end

/-! ### The arrival of a frame, and the pickup expiry -/

/-- What a section entry in a frame gives the outbound half of its line. -/
theorem frame_entry {s : State} {f : Frame} {sdi : BitVec 192} {x : Line} {c : TrackId}
    (service : s.device = .service)
    (conf : s.cfg.tracks[c].configured = true) (clear : s.tcm[c].state = .clear)
    (down : f.inputBit sdi (.track c) = false) (entry : (s.cfg.lines.get x).entryCircuit = some c) :
    ∃ u, OutboundKept x s u ∧
      OutboundKept x (entryOccupied x c u) (deliverArrival .continuous (arrived f sdi s)) := by
  have drops := (arrival_circuit f sdi .continuous s c conf).1
  rw [clear, down] at drops
  have taken := RouteWork.arrived f sdi s
  obtain ⟨u, before, after⟩ := arrival_occupation
    (R := fun a b => (a.cfg.lines.get x).entryCircuit = some c → OutboundKept x a b)
    (fun a _ => .refl a) (fun ab bc own => (ab own).trans (bc ((ab own).cfg ▸ own)))
    (fun work _ => .of_work work) (x := x) (c := c) .continuous
    (fun d y u off own => .lineOccupied own off) (s := arrived f sdi s) service ⟨clear, drops⟩
  have before := (OutboundKept.of_work taken).trans (before entry)
  have own : (u.cfg.lines.get x).entryCircuit = some c := by rw [before.cfg]; exact entry
  have entered : lineEntered c x u = entryOccupied x c u := if_pos own
  have berthed : OutboundKept x (lineEntered c x u) (lineOccupied c x u) := by
    unfold lineOccupied
    split
    · exact .berthOccupied
    · exact .refl _
  have cfg : (lineOccupied c x u).cfg = u.cfg := by
    rw [berthed.cfg, entered]
    simp
  rw [entered] at berthed
  exact ⟨u, before, berthed.trans (after (by rw [cfg]; exact own))⟩

/-- What an occupation of the berth in a frame gives the inbound half of its line. -/
theorem frame_berth {s : State} {f : Frame} {sdi : BitVec 192} {x : Line} {c : TrackId}
    (service : s.device = .service)
    (conf : s.cfg.tracks[c].configured = true) (clear : s.tcm[c].state = .clear)
    (down : f.inputBit sdi (.track c) = false) (berth : (s.cfg.lines.get x).berth = some c) :
    ∃ u, InboundKept Train.inboundFace x s u ∧ InboundKept Train.inboundFace x
      (berthOccupied x c u) (deliverArrival .continuous (arrived f sdi s)) := by
  have drops := (arrival_circuit f sdi .continuous s c conf).1
  rw [clear, down] at drops
  have taken := RouteWork.arrived f sdi s
  obtain ⟨u, before, after⟩ := arrival_occupation
    (R := fun a b => (a.cfg.lines.get x).berth = some c → InboundKept Train.inboundFace x a b)
    (fun a _ => .refl a) (fun ab bc own => (ab own).trans (bc ((ab own).cfg ▸ own)))
    (fun work _ => .of_work work) (x := x) (c := c) .continuous
    (fun d y u off own => .lineOccupied own off) (s := arrived f sdi s) service ⟨clear, drops⟩
  have before := ((InboundKept.of_work taken).trans (before berth)).trans
    (InboundKept.lineEntered (y := x) (c := c) (u := u))
  have own : ((lineEntered c x u).cfg.lines.get x).berth = some c := by rw [before.cfg]; exact berth
  have berthed : lineOccupied c x u = berthOccupied x c (lineEntered c x u) := if_pos own
  rw [berthed] at after
  exact ⟨lineEntered c x u, before, after (by simpa using own)⟩

/-- What a clearance of the berth at a pickup expiry gives the inbound half of its line. -/
theorem expiry_berth {s : State} {x : Line} {c : TrackId} (service : s.device = .service)
    (due : s.tcm[c].timer = some 0 ∧ s.tcm[c].state = .pickupTiming)
    (berth : (s.cfg.lines.get x).berth = some c) :
    ∃ u, InboundKept id x s u ∧ InboundKept id x (berthCleared x u) (expired s) := by
  obtain ⟨u, before, after⟩ := expiry_clearance
    (R := fun a b => (a.cfg.lines.get x).berth = some c → InboundKept id x a b)
    (fun a _ => .refl a) (fun ab bc own => (ab own).trans (bc ((ab own).cfg ▸ own)))
    (fun work _ => .of_work work) (x := x) (c := c) (fun d y u off own => .lineCleared own off)
    service due
  have before := before berth
  have own : (u.cfg.lines.get x).berth = some c := by rw [before.cfg]; exact berth
  have cleared : lineCleared c x u = berthCleared x u := if_pos own
  rw [cleared] at after
  exact ⟨u, before, after (by simpa using own)⟩

end Sys2Proof.Machine
/-! The statement of O44 from the pieces: the frame, the pickup expiry and TAIL_SEEN. -/

namespace Sys2Proof.Machine

/-! ### The owed codes at a pickup expiry -/

/-- R155: an arrival writes no owed code. -/
theorem berthCleared_owed (x : Line) (s : State) : (berthCleared x s).trt.owed = s.trt.owed := by
  unfold berthCleared
  split
  · split
    · simp only [latchTrain_frame, arriveInbound, retireClearing, retireWhere_frame]
      rfl
    · rfl
  · rfl

theorem trainClearance_owed (c : TrackId) (s : State) :
    (trainClearance c s).trt.owed = s.trt.owed := by
  unfold trainClearance
  refine forEachLine_field (fun u => u.trt.owed) (fun x u => ?_) s
  split
  · exact berthCleared_owed x u
  · rfl

theorem expired_owed {s : State} (service : s.device = .service) :
    (expired s).trt.owed = s.trt.owed := by
  rw [expired_service service]
  refine forEach_keeps (P := fun u : State => u.trt.owed = s.trt.owed) (fun c u kept => ?_) _
    (by simp only [clearDue_frame])
  split
  · rw [trainClearance_owed, (RouteWork.releasePasses u).trt]
    exact kept
  · exact kept

/-! ### TAIL_SEEN -/

/-- R155, R156: an inbound train whose arrival its berth did not show. -/
def Train.arrivedUnseen (clock : Clock) (t : Train) : Train :=
  { t with
    inbound := .arrived, tailSeen := true, berthSeen := true
    stamps := { t.stamps with arrived := some clock } }

/-- R156: the arrival that the berth did not show, recorded. -/
def tailArrival (x : Line) (r : TrainId) (s : State) : State :=
  (arriveInbound x r s).updTrain r fun t => { t with tailSeen := true, berthSeen := true }

theorem circuitClear_some {s : State} {b : TrackId} :
    s.circuitClear (some b) = true ↔ s.tcm[b].state = .clear := decide_eq_true_iff

section
variable {s : State} {x : Line} {r : TrainId} {v : Train}

/-- An arrival writes its own record in the Train Table, and nothing more there. -/
theorem arriveInbound_trt :
    (arriveInbound x r s).trt = (s.updTrain r (Train.arrivedAt s.tb.clock)).trt := by
  simp only [arriveInbound, retireClearing, retireWhere_frame]
  rfl

theorem tailArrival_record (live : s.trt.records[r] = some v) :
    (tailArrival x r s).trt.records[r] = some (v.arrivedUnseen s.tb.clock) := by
  have arrived : (arriveInbound x r s).trt.records[r] = some (v.arrivedAt s.tb.clock) := by
    rw [arriveInbound_trt]
    exact updTrain_record live _
  rw [tailArrival, updTrain_record arrived]
  rfl

theorem tailArrival_other {q : TrainId} (ne : q ≠ r) :
    (tailArrival x r s).trt.records[q] = s.trt.records[q] := by
  rw [tailArrival, updTrain_other ne, arriveInbound_trt]
  exact updTrain_other ne _

/-- R155: the clearing holds of the line go with the arrival, and no other hold. -/
theorem tailArrival_holds {h : HoldId} {hold : Hold} (live : s.ht[h] = some hold) :
    (hold.kind = .clearing x → (tailArrival x r s).ht[h] = none) ∧
    (hold.kind ≠ .clearing x → (tailArrival x r s).ht[h] = some hold) := by
  have holds {k : Hold} :
      (tailArrival x r s).ht[h] = some k ↔ s.ht[h] = some k ∧ k.clearingOf x = false := by
    rw [tailArrival, State.updTrain_ht, arriveInbound, retireClearing, retireWhere_live,
      State.updTrain_ht]
  refine ⟨fun own => ?_, fun other =>
    holds.mpr ⟨live, Bool.eq_false_iff.mpr (clearingOf_iff.not.mpr other)⟩⟩
  refine Option.eq_none_iff_forall_ne_some.mpr fun k found => ?_
  obtain ⟨live', kept⟩ := holds.mp found
  cases live.symm.trans live'
  rw [clearingOf_iff.mpr own] at kept
  cases kept

theorem tailArrival_free {h : HoldId} (empty : s.ht[h] = none) :
    (tailArrival x r s).ht[h] = none := by
  rw [tailArrival, State.updTrain_ht, arriveInbound]
  exact retireWhere_free empty

theorem tailArrival_frame : (tailArrival x r s).trt.owed = s.trt.owed ∧
    ∀ bytes, { (tailArrival x r s).holding bytes with trt := s.trt, ht := s.ht } = s.holding bytes := by
  refine ⟨?_, fun bytes => by simp [State.holding, tailArrival]⟩
  rw [tailArrival, State.updTrain_trt, arriveInbound_trt]
  rfl

variable (service : s.device = .service) (live : s.trt.records[r] = some v)
include service live

/-- R156: the tail of a train that has ARRIVED. -/
theorem takeTailSeen_arrived (arrived : v.inbound = .arrived) :
    takeTailSeen (r.val + 1) s = (s.updTrain r fun t => { t with tailSeen := true }, .ok) := by
  rw [takeTailSeen, withRecord_live service live, arrived]

/-- R156: a train IN_SECTION on its line. -/
theorem takeTailSeen_inSection (inSection : v.inbound = .inSection) (on : v.arrivalLine = some x) :
    takeTailSeen (r.val + 1) s =
      if !v.berthSeen && s.circuitClear (s.cfg.lines.get x).berth then (tailArrival x r s, .ok)
      else (s, .state) := by
  rw [takeTailSeen, withRecord_live service live, inSection, on]
  rfl

/-- R156: the tail is of no train that is neither ARRIVED nor IN_SECTION. -/
theorem takeTailSeen_other (notArrived : v.inbound ≠ .arrived) (notIn : v.inbound ≠ .inSection) :
    takeTailSeen (r.val + 1) s = (s, .state) := by
  rw [takeTailSeen, withRecord_live service live]
  split
  · next arrived => exact absurd arrived notArrived
  · next inSection _ => exact absurd inSection notIn
  · rfl

end

/-! ### The statement -/

/-- Settles O44: the section entry and the berth in a frame, the arrival at a pickup expiry, and
TAIL_SEEN. -/
theorem tailSeenRecordsTheArrival : Obligations.TailSeenRecordsTheArrival := by
  refine ⟨fun s f sdi x c law service frame judged good running conf clear down =>
      ⟨deliverArrival .continuous (arrived f sdi s), ?delivered, fun entry => ?entry, fun berth => ?berth⟩,
    fun s x c law service due timing berth => ⟨expired s, rfl, expired_owed service,
      fun q v live on => ?cleared⟩,
    fun s free => ⟨fun n config => serve_eq free (withRecord_config config n), fun service =>
      ⟨fun n out => serve_eq free (withRecord_range service out),
        fun r empty => serve_eq free (withRecord_free service empty), fun r v live =>
        ⟨fun arrived => ?arrived, fun x b inSection on unseen berth circuit => ?unseen,
          fun x b inSection on berth shut => ?shut, fun notArrived notIn =>
            serve_eq free (takeTailSeen_other service live notArrived notIn)⟩⟩⟩⟩
  case delivered =>
    rw [frameJudge_delivers frame judged good (.inl running), running]
    rfl
  case entry =>
    obtain ⟨u, before, after⟩ := frame_entry service conf clear down entry
    exact ⟨fun q v live on accepted => section_entered before after law service live on accepted,
      section_unaccounted before after⟩
  case berth =>
    obtain ⟨u, before, after⟩ := frame_berth service conf clear down berth
    refine ⟨fun q v live on => ?_, berth_instrument before after, berth_unaccounted before after⟩
    obtain ⟨w, live', on', face⟩ := berth_record before after law live on
    obtain ⟨cls, tail, arrived, shown, others, seen, unmoved⟩ := Train.atBerth_shown face
    refine ⟨w, live', on', cls, tail, arrived, fun st => ?_, others, fun st => ⟨seen st,
      berth_firstSeen before after law live on st⟩, unmoved⟩
    obtain ⟨inSection, unannounced, berthed, entered⟩ := shown st
    exact ⟨inSection, unannounced, berthed, entered, berth_unannounced before after law live on st⟩
  case cleared =>
    obtain ⟨u, before, after⟩ := expiry_berth service ⟨due, timing⟩ berth
    exact berth_cleared before after law live on
  case arrived =>
    exact ⟨_, serve_eq free (takeTailSeen_arrived service live arrived), updTrain_record live _,
      fun q ne => updTrain_other ne _, rfl, rfl⟩
  case unseen =>
    obtain ⟨owed, same⟩ := tailArrival_frame (x := x) (r := r) (s := s)
    have taken := takeTailSeen_inSection service live inSection on
    rw [if_pos (by rw [unseen, berth, circuitClear_some.mpr circuit]; rfl)] at taken
    have own := tailArrival_record (x := x) live
    have others (q : TrainId) (ne : q ≠ r) := tailArrival_other (x := x) (s := s) ne
    have held (h : HoldId) (hold : Hold) (live' : s.ht[h] = some hold) :=
      tailArrival_holds (x := x) (r := r) live'
    have stayFree (h : HoldId) (empty : s.ht[h] = none) := tailArrival_free (x := x) (r := r) empty
    -- What is known of the arrival is all that its reply needs.
    generalize tailArrival x r s = t at *
    exact ⟨_, serve_eq free taken, own, others, owed, held, stayFree, same _⟩
  case shut =>
    have taken := takeTailSeen_inSection service live inSection on
    rw [if_neg (by
      rw [berth, Bool.and_eq_true, Bool.not_eq_true', circuitClear_some]
      rintro ⟨unseen, circuit⟩
      rcases shut with seen | occupied
      · exact absurd (seen.symm.trans unseen) nofun
      · exact occupied circuit)] at taken
    exact serve_eq free taken

end Sys2Proof.Machine
